-- ==== Sys2Proof/Word.lean ====
section
/-! DEFINITION. The plainest data of the TF-4820: bytes of the link, tick stamps, moments of the time base,
wrapping 32-bit counters, run, slot and sector numbers, and fixed-size tables. -/

namespace Sys2Proof

/-- One byte on the link (R204). -/
abbrev Byte := BitVec 8

/-- A tick stamp: the 32-bit tick count of the 10 MHz time base, which wraps (R9). -/
abbrev Stamp := BitVec 32

/-- A 32-bit counter that wraps from 2³² − 1 to 0 (R13, R84, R91, R94, R95, R171, R182). -/
abbrev Counter := BitVec 32

/-- A moment of the internal time base, in ticks of 100 ns, not wrapped. Timers keep moments because the
hold limit (600 s) is longer than the wrap of a stamp; the stamp of a moment is its value modulo 2³². -/
abbrev Moment := Nat

/-- A count of seconds of the station clock (R200). -/
abbrev Seconds := Nat

/-- Meter run r of the manual is the number r − 1. -/
abbrev Run := Fin 4

/-- A product slot, 0 to 7 (R49). -/
abbrev Slot := Fin 8

/-- An archive sector, or a ticket slot of a sector, 0 to 7 (R171). -/
abbrev Sector := Fin 8

/-- One thing for each of the four runs. -/
abbrev PerRun (α : Type) := Vector α 4

/-- One thing for each of eight slots or sectors. -/
abbrev PerEight (α : Type) := Vector α 8

/-- A set of runs: the mark of each run. -/
abbrev RunSet := Vector Bool 4

/-- The characters of a text (R208). -/
abbrev Text := List Byte

/-- The four runs in run-number order. -/
def allRuns : List Run := [0, 1, 2, 3]

/-- The eight slots or sectors in number order. -/
def allEight : List (Fin 8) := [0, 1, 2, 3, 4, 5, 6, 7]

/-- The run set naming no run. -/
def noRuns : RunSet := #v[false, false, false, false]

/-- One thing for each run, given by a function of the run. -/
def forRuns {α : Type} (f : Run → α) : PerRun α := #v[f 0, f 1, f 2, f 3]

/-- One thing for each of eight slots or sectors, given by a function of its number. -/
def forEight {α : Type} (f : Fin 8 → α) : PerEight α := #v[f 0, f 1, f 2, f 3, f 4, f 5, f 6, f 7]

/-- The runs of a run set in run-number order. -/
def runsOf (rs : RunSet) : List Run := allRuns.filter (fun r => rs[r])

/-- The number by which the manual names a run: 1 to 4. -/
def runNumber (r : Run) : Nat := r.val + 1

/-- The run a request names by number, if it is 1 to 4 (R211). -/
def runOfNumber? (n : Nat) : Option Run :=
  if h : 1 ≤ n ∧ n ≤ 4 then some ⟨n - 1, by omega⟩ else none

end Sys2Proof
end

