-- ==== Sys2Proof/Syntax.lean ====
section
/-! DEFINITION. The commands of the module: one constructor of `Instr` for each row of spec/opcode_table.json, in
the table's order, with the operands the row's rule gives it. A request's operands are the fields of its body (R213)
before any owner has judged them, so a number that the owner refuses can be written. An event's operands name the
run, channel, value, input or can that the event belongs to. -/

namespace Sys2Proof

/-- The direction of a RUN SERVICE request (R2): IN or OUT. -/
inductive Direction | into | out
  deriving DecidableEq, Repr

/-- The two pulse channels of a run. -/
inductive Channel | a | b
  deriving DecidableEq, Repr

/-- The transmitter status of a LIVE VALUES entry (R26). -/
inductive TransmitterStatus | ok | fault
  deriving DecidableEq, Repr

/-- The twelve relayed values (R24). -/
inductive ValueId
  | t (r : Run)
  | p (r : Run)
  | tp
  | pp
  | rho
  | sw
  deriving DecidableEq, Repr

/-- The section kinds under which parameters are staged (R44). -/
inductive SectionKind | meter | curves | products | productMap | prover | station
  deriving DecidableEq, Repr

/-- The mark of READ VALUES (R41). -/
inductive ListMark | list | all
  deriving DecidableEq, Repr

/-- The mark of ALARM ACK (R192). -/
inductive AckMark | one | all
  deriving DecidableEq, Repr

/-- The source of READ TOTALS (R96). -/
inductive TotalsSource | live | snapshot
  deriving DecidableEq, Repr

/-- The part of READ TOTALS (R96). -/
inductive TotalsPart | station | run | batch
  deriving DecidableEq, Repr

/-- The kind of a start and of a RESTART request (R101). -/
inductive StartKind | warm | cold
  deriving DecidableEq, Repr

/-- ON or OFF, as SAMPLER ENABLE carries and the sampler's enable holds (R157, R166). -/
inductive Switch | on | off
  deriving DecidableEq, Repr

/-- The two sampler receiver cans. -/
inductive Can | can1 | can2
  deriving DecidableEq, Repr

/-- The prover detectors. -/
inductive Detector | det1 | det2
  deriving DecidableEq, Repr

/-- The four-way valve's position switches. -/
inductive ValveSwitch | fwd | rev
  deriving DecidableEq, Repr

/-- The five prover inputs that pass a filter (R127). -/
inductive ProverInput | routeOk | valveFwd | valveRev | det1 | det2
  deriving DecidableEq, Repr

/-- The ten alarms that exist once for each run (R188). -/
inductive RunAlarm
  | pulseError | pulseDegraded | reverseFlow | countOverrun | tQuality | pQuality | tClamped | pClamped
  | mfUndefined | highRate
  deriving DecidableEq, Repr

/-- The fourteen station alarms (R188). -/
inductive StationAlarm
  | tpQuality | ppQuality | rhoQuality | swQuality | rhoClamped | swClamped | flowNoBatch | samplerMissed
  | samplerHalted | archiveFull | proveFailed | sealOpen | retainedLost | timeUnset
  deriving DecidableEq, Repr

/-- An alarm name, as ALARM ACK carries it (R192). -/
inductive AlarmName
  | run (a : RunAlarm)
  | station (a : StationAlarm)
  deriving DecidableEq, Repr

/-- One entry of a LIVE VALUES request (R26). -/
structure LiveEntry where
  index : Nat
  status : TransmitterStatus
  value : Int
  deriving DecidableEq, Repr

/-- The record that BATCH QUEUE ADD gives (R102). -/
structure BatchRecord where
  id : Nat
  code : Nat
  vessel : Option Text
  target : Option Nat
  margin : Option Nat
  density : Option Nat
  can : Option Nat
  deriving DecidableEq, Repr

/-- One pair of a STATUS MATCH request (R199): the wanted value and the care mark. -/
structure MatchPair where
  wantSet : Bool
  care : Bool
  deriving DecidableEq, Repr

/-- What a power failure or an assertion of RESET_N strikes while it is being written. The spec names each of these
half-done states: a retained update in the bank that is not current (R94, R97), an audit append (R184), a close between
the number mark and the retained update (R172), a write completion between the slot becoming VALID and the retained
update (R174). A change of parameter memory is found whole or not at all (R45), which needs no name. -/
inductive Strike | nothing | retainedUpdate | auditAppend | closeAfterMark | writeAfterValid
  deriving DecidableEq, Repr

/-- The commands: one constructor for each row of spec/opcode_table.json, in the table's order. -/
inductive Instr
  | runService (runs : RunSet) (dir : Direction)
  | pulseInputChange (r : Run) (ch : Channel) (level : Bool)
  | pulseFilterAccept (r : Run) (ch : Channel)
  | periodExpiry (r : Run)
  | periodComputation (r : Run)
  | periodCrediting (r : Run)
  | liveValues (entries : List LiveEntry)
  | staleTimerExpiry (v : ValueId)
  | holdTimerExpiry (v : ValueId)
  | readValues (mark : ListMark) (indices : List Nat)
  | overrideSet (index : Nat) (value : Int)
  | overrideRelease (index : Nat)
  | stageOpen (kind : SectionKind) (runs : Option RunSet) (count : Nat)
  | stageItem (body : List Byte)
  | stageCommit
  | stageCancel
  | stagingInactivityExpiry
  | lockSection (number : Nat)
  | unlockAll
  | readSection (number : Nat)
  | sealInputChange (closed : Bool)
  | sealChange
  | readRun (number : Nat)
  | freeze
  | readTotals (source : TotalsSource) (part : TotalsPart) (run : Option Nat) (batchId : Option Nat)
  | restart (kind : StartKind)
  | batchQueueAdd (record : BatchRecord)
  | batchQueueRemove (id : Nat)
  | batchStart
  | batchEnd
  | batchChange
  | batchList
  | proveStart (number : Nat)
  | routeOkChange
  | valveInputChange (valve : ValveSwitch)
  | proverInputChange (input : ProverInput) (active : Bool)
  | detectorEvent (d : Detector)
  | detectorLockoutExpiry (d : Detector)
  | valveTimerExpiry
  | passTimerExpiry
  | tailTimerExpiry
  | proveAccept
  | proveReject
  | proveAbort
  | readProve
  | canReset (number : Nat)
  | samplerEnable (enable : Switch)
  | readSampler
  | widthTimerExpiry
  | intervalTimerExpiry
  | swapTimerExpiry
  | canfullInputChange (can : Can) (active : Bool)
  | canfullChange (can : Can)
  | writeCompletion (agrees : Bool)
  | eraseCompletion
  | ticketRead (number : Nat)
  | ticketAck (number : Nat)
  | archiveStatus
  | auditRead (start : Counter)
  | alarmAck (mark : AckMark) (name : Option AlarmName) (run : Option Nat)
  | readAlarms (all : Bool)
  | status
  | statusMatch (pairs : List MatchPair)
  | setTime (value : Nat)
  | clockSecond
  | rxCharacter (byte : Byte) (stopBit : Bool)
  | gapTimerExpiry
  | transmissionComplete
  | powerUp (batteryHeld : Bool)
  | powerFail (strike : Strike)
  | resetNAssert (strike : Strike)
  | resetNRelease
  | startCompletion
  | detectorReturnInactive (d : Detector)
  deriving DecidableEq, Repr

end Sys2Proof
end

