-- ==== Sys2Proof/Decode.lean ====
section
/-! DEFINITION. The command that a word spells by the bits of spec/opcode_table.json. The table gives no row any bits
(every row's "fields" is empty, and spec/98_reader.md counts 74 unread rows): the module has no instruction words, and
its commands are requests of the link, pin events and timer expiries. So no word spells a command. The byte-level
decoding of request frames (R204 to R213) is the Link Controller's and stands in Machine/Link.lean. -/

namespace Sys2Proof

/-- The command that the word `w` of `nbits` bits spells: none, since no row of the table has bits. -/
def decodeTableWord (_nbits _w : Nat) : Option Instr := none

end Sys2Proof
end

