-- ==== Sys2Proof/Config.lean ====
section
/-! DEFINITION. The fixed figures of the module that the spec states outright: the tick of the time base, filter
widths, fixed time-outs and limits. No value here is chosen by the model. -/

namespace Sys2Proof.Config

/-- The 10 MHz time base: one millisecond is 10,000 ticks of 100 ns (00_scope, Signal summary). -/
def ticksPerMs : Nat := 10000

/-- One second of the time base in ticks. -/
def ticksPerSecond : Nat := 10000000

/-- One microsecond of the time base in ticks (R8's filter widths). -/
def ticksPerUs : Nat := 10

/-- A full run period (R5): 1,000 ms. -/
def periodMs : Nat := 1000

/-- The filter width of SEAL (R61), ROUTE_OK, VALVE_FWD, VALVE_REV (R127) and CANFULL1, CANFULL2 (R164): 50 ms. -/
def slowFilter : Nat := 50 * ticksPerMs

/-- The filter width of DET1 and DET2 (R127): 5 ms. -/
def detectorFilter : Nat := 5 * ticksPerMs

/-- A detector's lockout (R127): 2 s. -/
def lockoutTime : Nat := 2 * ticksPerSecond

/-- The tail timer of a pass (R137): 2 s. -/
def tailTime : Nat := 2 * ticksPerSecond

/-- The diverter's travel and drain time (R163): 5 s. -/
def swapTime : Nat := 5 * ticksPerSecond

/-- The staging inactivity time (R53): 30 s. -/
def stagingTime : Nat := 30 * ticksPerSecond

/-- The gap allowed between two bytes of a frame (R205): 20 ms. -/
def gapTime : Nat := 20 * ticksPerMs

/-- The erasing time of a sector (R176): 1,500 ms. -/
def eraseTime : Nat := 1500 * ticksPerMs

/-- The value at which a period or transition count holds (R11 to R14). -/
def countTop : Nat := 65535

/-- The most entries a run's stamp history holds (R19). -/
def historyLimit : Nat := 256

/-- Transitions that make a channel active in the pulse-state tests (R15, R17). -/
def activeTransitions : Nat := 16

/-- The limit at which a cumulative total rolls over (R91): 10¹⁴. -/
def rolloverLimit : Nat := 100000000000000

/-- The value at which a 64-bit pulse count holds (R92). -/
def pulseCountTop : Nat := 18446744073709551615

/-- The largest unsigned 32-bit figure: the clock's and the ticket numbers' top (R200, R121). -/
def top32 : Nat := 4294967295

/-- Places in the pending ticket queue (R119, R172). -/
def pendingLimit : Nat := 4

/-- Places in the batch queue (R104). -/
def queueLimit : Nat := 8

/-- Places in the ending list (R104). -/
def endingLimit : Nat := 2

/-- Places in the owed-grab queue (R159). -/
def owedLimit : Nat := 8

/-- Entry positions of the audit ring (R182). -/
def ringSize : Nat := 256

/-- Entries that one AUDIT READ returns at most (R183). -/
def auditReadLimit : Nat := 8

/-- The fewest good pulses of a valid pass (R139). -/
def minPassPulses : Nat := 100

/-- The highest rate that a curve point can hold (R48, R142). -/
def maxPointRate : Nat := 99999

end Sys2Proof.Config
end

