-- ==== Sys2Proof/Machine/State.lean ====
section
/-! DEFINITION. The state of the TF-4820 as plain data: every item that the chapters give the blocks PIU, LVS, PST,
CEN, TOT, BCT, PSQ, SMC, TAR, AUD, ALM and LNK, the inputs and outputs, the retained banks, and the queue of waiting
commands; and the state right after reset. -/

namespace Sys2Proof.Machine

/-- There is no fault: the spec gives every command an effect in every state, and the computation "has no overflow case
and no failure" (R67). An empty type raises nothing, so it is safe. -/
inductive Fault
  deriving DecidableEq, Repr

/-- Why a command is rejected. -/
inductive Refusal
  /-- Raised by exec alone, for a command whose meaning is not written. Safe: the machine stops. -/
  | notModelled (mnemonic : String)
  deriving DecidableEq, Repr

/-! ### Inputs -/

/-- A filtered input (R8, R61, R127, R164): the raw level, the filtered level, and, while a change is being timed, the
moment at which the raw change began. -/
structure InputFilter where
  raw : Bool
  filtered : Bool
  since : Option Moment
  deriving DecidableEq, Repr

/-! ### Pulse Input Unit (Chapter 1) -/

inductive ServiceState | outOfService | inService
  deriving DecidableEq, Repr

inductive FlowState | noFlow | flowing
  deriving DecidableEq, Repr

/-- R47's order: SINGLE_A, DUAL. -/
inductive PulseMode | singleA | dual
  deriving DecidableEq, Repr

/-- R47's order: OFF, 2 µs, 10 µs, 50 µs. -/
inductive FilterWidth | off | us2 | us10 | us50
  deriving DecidableEq, Repr

inductive PulseState | dualOk | singleAOnly | singleBOnly | singleMode
  deriving DecidableEq, Repr

/-- A pair of filtered levels, A first. -/
structure LevelPair where
  a : Bool
  b : Bool
  deriving DecidableEq, Repr

/-- An entry of the stamp history (R19). -/
structure HistoryEntry where
  stamp : Stamp
  index : Counter
  deriving DecidableEq, Repr

/-- The two marks of an open pass watch (R21). -/
structure PassWatch where
  integrity : Bool
  reverse : Bool
  deriving DecidableEq, Repr

/-- The settings of METER r that the PIU read at the service entry or the last expiry (R7). -/
structure PulseSettings where
  mode : PulseMode
  width : FilterWidth
  phaseErrorLimit : Nat
  deriving DecidableEq, Repr

/-- The period counts of R1. -/
structure PeriodCounts where
  good : Nat
  reverse : Nat
  phaseErrors : Nat
  saturated : Bool
  transitionsA : Nat
  transitionsB : Nat
  deriving DecidableEq, Repr

/-- The volatile state of a run in the PIU (R1). -/
structure RunPulse where
  flow : Option FlowState
  /-- The moment from which the period timer counts; absent while it is stopped. -/
  timerFrom : Option Moment
  chA : InputFilter
  chB : InputFilter
  reference : LevelPair
  quarter : Int
  pulseState : PulseState
  settings : PulseSettings
  counts : PeriodCounts
  goodIndex : Counter
  history : List HistoryEntry
  lastPhaseError : Option Stamp
  lastReverse : Option Stamp
  capture : Option Stamp
  watch : Option PassWatch
  deriving DecidableEq, Repr

/-- What the PIU hands over at the end of a period (R5), with the end time and the final mark of R83, R85. -/
structure Handover where
  good : Nat
  reverse : Nat
  phaseErrors : Nat
  pulseState : PulseState
  saturated : Bool
  len : Nat
  final : Bool
  endTime : Seconds
  deriving DecidableEq, Repr

/-! ### Live Value Store (Chapter 2) -/

/-- The ladder qualities (R25). -/
inductive Ladder | live | liveClamped | held | substituted
  deriving DecidableEq, Repr

/-- The qualities in force (R33). -/
inductive Quality | live | liveClamped | held | substituted | overridden
  deriving DecidableEq, Repr

/-- A value together with the quality with which it was read. -/
structure ValueUsed where
  value : Int
  quality : Quality
  deriving DecidableEq, Repr

/-- The state of one relayed value (R25); a timer is its deadline while it runs. -/
structure LiveValue where
  lastGood : Option Int
  ladder : Ladder
  stale : Option Moment
  hold : Option Moment
  arrival : Option Moment
  manual : Option Int
  clampRaised : Bool
  deriving DecidableEq, Repr

/-! ### Parameter Store (Chapter 3) -/

/-- METER r (R47). -/
structure Meter where
  kx : Nat
  mode : PulseMode
  width : FilterWidth
  phaseErrorLimit : Nat
  cutoff : Nat
  maxRate : Nat
  tSub : Int
  pSub : Nat
  deriving DecidableEq, Repr

/-- A point of a meter factor curve (R48). -/
structure CurvePoint where
  rate : Nat
  mf : Nat
  deriving DecidableEq, Repr

abbrev Curve := List CurvePoint

/-- R49's order: LIVE, NOMINAL. -/
inductive DensitySource | live | nominal
  deriving DecidableEq, Repr

/-- R49's order: LIVE, ZERO. -/
inductive SwSource | live | zero
  deriving DecidableEq, Repr

/-- One product slot (R49). -/
structure Product where
  name : Text
  tb : Int
  alpha : Nat
  beta : Int
  f : Nat
  density : Nat
  densitySource : DensitySource
  swSource : SwSource
  swSub : Nat
  deriving DecidableEq, Repr

/-- PROVER (R51). -/
structure ProverParams where
  bpv : Nat
  gamma : Nat
  tref : Int
  tpSub : Int
  ppSub : Nat
  k : Nat
  maxAttempts : Nat
  repeatLimit : Nat
  deviationLimit : Nat
  stabilityLimit : Nat
  valveTimeout : Nat
  passTimeout : Nat
  autoAccept : Bool
  deriving DecidableEq, Repr

/-- The outputs of the polarity set, in R52's order. -/
inductive Output
  | route (r : Run) | proverDir | grab | canSelect | slowdown | stop | attn | commonAlarm
  deriving DecidableEq, Repr

/-- STATION (R52); `activeLow` holds, for the eleven outputs in R52's order, whether the output is active low. -/
structure StationParams where
  staleTimeout : Nat
  holdLimit : Nat
  grabVolume : Nat
  grabWidth : Nat
  grabInterval : Nat
  canCapacity : Nat
  activeLow : Vector Bool 11
  deriving DecidableEq, Repr

/-- The twelve sections (R44). PRODUCT MAP lists, in rising order of code, the codes that map to a slot; every other
code maps to NONE (R50). -/
structure Params where
  meter : PerRun Meter
  curves : PerRun (PerEight Curve)
  products : PerEight Product
  productMap : List (Nat × Slot)
  prover : ProverParams
  station : StationParams
  deriving DecidableEq, Repr

inductive SealState | closed | opened
  deriving DecidableEq, Repr

/-- A METER item as received, its enumerated bytes not yet judged (R54). -/
structure MeterItem where
  kx : Nat
  mode : Nat
  width : Nat
  phaseErrorLimit : Nat
  cutoff : Nat
  maxRate : Nat
  tSub : Int
  pSub : Nat
  deriving DecidableEq, Repr

/-- A PRODUCTS item as received: a slot number and the nine fields. -/
structure ProductItem where
  slot : Nat
  name : Text
  tb : Int
  alpha : Nat
  beta : Int
  f : Nat
  density : Nat
  densitySource : Nat
  swSource : Nat
  swSub : Nat
  deriving DecidableEq, Repr

/-- A PROVER item as received. -/
structure ProverItem where
  bpv : Nat
  gamma : Nat
  tref : Int
  tpSub : Int
  ppSub : Nat
  k : Nat
  maxAttempts : Nat
  repeatLimit : Nat
  deviationLimit : Nat
  stabilityLimit : Nat
  valveTimeout : Nat
  passTimeout : Nat
  autoAccept : Nat
  deriving DecidableEq, Repr

/-- A STATION item as received. -/
structure StationItem where
  staleTimeout : Nat
  holdLimit : Nat
  grabVolume : Nat
  grabWidth : Nat
  grabInterval : Nat
  canCapacity : Nat
  polarity : Nat
  deriving DecidableEq, Repr

/-- One item of a staging (R44), of the right shape but not yet judged for validity (R54). -/
inductive StageEntry
  | meter (m : MeterItem)
  | curve (slot : Nat) (points : Curve)
  | product (p : ProductItem)
  | mapping (code entry : Nat)
  | prover (p : ProverItem)
  | station (p : StationItem)
  deriving DecidableEq, Repr

/-- The staging buffer while OPEN (section 3.3). -/
structure Staging where
  kind : SectionKind
  runs : Option RunSet
  announced : Nat
  items : List StageEntry
  deadline : Moment
  deriving DecidableEq, Repr

/-! ### Correction Engine (Chapter 4) -/

/-- The five carried remainders (R66). -/
structure Remainders where
  rIV : Nat
  rGV : Nat
  rGSV : Nat
  rNSV : Nat
  rM : Nat
  deriving DecidableEq, Repr

/-- The flags of a period record, in R82's order. -/
structure RecordFlags where
  mfDefault : Bool
  unverifiedPulses : Bool
  countSaturated : Bool
  ctlClamped : Bool
  cplClamped : Bool
  valueHeld : Bool
  valueSubstituted : Bool
  valueClamped : Bool
  valueOverride : Bool
  deriving DecidableEq, Repr

/-- Where a period is credited (R68). -/
inductive CreditTarget
  | batch (id : Nat)
  | unbatched
  deriving DecidableEq, Repr

/-- The period record (R83); its run is the run that holds it, its water is gsv − nsv. -/
structure PeriodRecord where
  seq : Counter
  endTime : Seconds
  len : Nat
  final : Bool
  good : Nat
  reverse : Nat
  phaseErrors : Nat
  pulseState : PulseState
  iv : Nat
  gv : Nat
  gsv : Nat
  nsv : Nat
  mass : Nat
  q : Nat
  mf : Nat
  ctl : Nat
  cpl : Nat
  ccf : Nat
  t : ValueUsed
  p : ValueUsed
  sw : ValueUsed
  rho : ValueUsed
  slot : Slot
  target : CreditTarget
  flags : RecordFlags
  deriving DecidableEq, Repr

/-- A computed period on its way to the crediting: the record, the new remainders (R81), and whether the placement made
it the run's closing period (R112). -/
structure ComputedPeriod where
  record : PeriodRecord
  rem : Remainders
  closing : Bool
  deriving DecidableEq, Repr

/-- The volatile state of a run in the CEN: the period handed over and not yet computed, the period computed and not
yet credited (the steps of R5 in progress), and the latest period record (R66). -/
structure RunCorrection where
  handover : Option Handover
  computed : Option ComputedPeriod
  latest : Option PeriodRecord
  deriving DecidableEq, Repr

/-! ### Totals Unit (Chapter 5) -/

/-- The five totalled quantities: mL and g (section 5.1). -/
structure Quantities where
  iv : Nat
  gv : Nat
  gsv : Nat
  nsv : Nat
  mass : Nat
  deriving DecidableEq, Repr

/-- A cumulative total with its rollover count (R88, R91). -/
structure Cumulative where
  total : Nat
  rollovers : Counter
  deriving DecidableEq, Repr

/-- The five cumulative totals of a run, of the station or of unbatched volume (R88). -/
structure CumulativeTotals where
  iv : Cumulative
  gv : Cumulative
  gsv : Cumulative
  nsv : Cumulative
  mass : Cumulative
  deriving DecidableEq, Repr

/-- The run pulse counts (R92). -/
structure PulseCounts where
  good : Nat
  reverse : Nat
  phaseErrors : Nat
  deriving DecidableEq, Repr

/-- The flow-weighted sums that a batch and a contribution both hold (R93). -/
structure Sums where
  t : Int
  p : Int
  mf : Int
  ctl : Int
  cpl : Int
  ccf : Int
  iv : Int
  deriving DecidableEq, Repr

/-- A run's contribution to a batch (R90). -/
structure Contribution where
  run : Run
  openIV : Nat
  openGSV : Nat
  closeIV : Nat
  closeGSV : Nat
  totals : Quantities
  sums : Sums
  deriving DecidableEq, Repr

/-! ### Batch Controller (Chapter 6) -/

inductive EndReason | request | change | target
  deriving DecidableEq, Repr

/-- The flag set of a batch: the record flags and the three batch flags (R124). -/
structure BatchFlags where
  record : RecordFlags
  samplingOff : Bool
  archiveWait : Bool
  targetReached : Bool
  deriving DecidableEq, Repr

/-- A batch's sampling items (R157). DESIGN CHOICE (log entry 26): the counts do not wrap. -/
structure Sampling where
  accumulator : Nat
  due : Nat
  taken : Nat
  missed : Nat
  deriving DecidableEq, Repr

/-- A batch from its activation until it closes (R102, R103). -/
structure Batch where
  record : BatchRecord
  slot : Slot
  can : Can
  startTime : Seconds
  totals : Quantities
  sums : Sums
  sumSW : Int
  sumRho : Int
  contributions : List Contribution
  flags : BatchFlags
  sampling : Sampling
  mfChanges : Nat
  endTime : Option Seconds
  endReason : Option EndReason
  owing : RunSet
  deriving DecidableEq, Repr

/-- A run entry of a ticket (R123): cumulative figures in litres with the rollover counts of the run totals at the
close. -/
structure RunEntry where
  run : Run
  openIV : Nat
  closeIV : Nat
  ivRollovers : Counter
  openGSV : Nat
  closeGSV : Nat
  gsvRollovers : Counter
  iv : Nat
  gv : Nat
  gsv : Nat
  nsv : Nat
  mass : Nat
  t : Option Int
  p : Option Int
  mf : Option Int
  ctl : Option Int
  cpl : Option Int
  deriving DecidableEq, Repr

/-- A ticket (R122). -/
structure Ticket where
  number : Nat
  batchId : Nat
  vessel : Option Text
  code : Nat
  slot : Slot
  name : Text
  startTime : Seconds
  endTime : Seconds
  endReason : EndReason
  iv : Nat
  gv : Nat
  gsv : Nat
  nsv : Nat
  water : Nat
  mass : Nat
  t : Option Int
  p : Option Int
  sw : Option Int
  rho : Option Int
  ccf : Option Int
  entries : List RunEntry
  due : Nat
  taken : Nat
  missed : Nat
  can : Can
  mfChanges : Nat
  flags : BatchFlags
  deriving DecidableEq, Repr

/-- The state in which a snapshot found a batch (R95). -/
inductive BatchState | queued | active | ending | closed
  deriving DecidableEq, Repr

/-- The snapshot latch's content (R95). -/
structure Snapshot where
  seq : Counter
  time : Seconds
  runTotals : PerRun CumulativeTotals
  pulseCounts : PerRun PulseCounts
  station : CumulativeTotals
  unbatched : CumulativeTotals
  batches : List (BatchState × Batch)
  deriving DecidableEq, Repr

/-! ### Prover Sequencer (Chapter 7) -/

/-- The eleven states, in section 7.2's order. -/
inductive ProverState
  | idle | routing | fwdLaunch | fwdTravel | fwdCount | fwdTail | revLaunch | revTravel | revCount | revTail
  | resultPending
  deriving DecidableEq, Repr

/-- The reasons of an invalid pass, in R139's order. -/
inductive PassReason | noTailPulse | pulseIntegrity | reversePulses | insufficientPulses
  deriving DecidableEq, Repr

/-- A valid pass with its interpolated count and the ticks between its detectors, or an invalid one (R129). -/
inductive PassResult
  | valid (ni ticks : Nat)
  | invalid (reason : PassReason)
  deriving DecidableEq, Repr

/-- The reasons of an invalid round trip (R141). -/
inductive TripReason
  | pass (reason : PassReason)
  | liveQuality
  | flowUnstable
  | mfRange
  deriving DecidableEq, Repr

/-- The pass in progress (R129): the two detector stamps, the two pulses, and whether a capture was short. -/
structure CurrentPass where
  td1 : Option Stamp
  td2 : Option Stamp
  tp1 : Option HistoryEntry
  tp2 : Option HistoryEntry
  short : Bool
  deriving DecidableEq, Repr

/-- A value sample of a detector event (R140). -/
structure ValueSample where
  t : ValueUsed
  p : ValueUsed
  tp : ValueUsed
  pp : ValueUsed
  deriving DecidableEq, Repr

/-- The computed fields of a valid round trip (R142 to R144). -/
structure TripFigures where
  qrun : Nat
  meanT : Int
  meanP : Int
  meanTP : Int
  meanPP : Int
  ctlM : Nat
  cplM : Nat
  ctlP : Nat
  cplP : Nat
  ctsP : Nat
  imf : Nat
  deriving DecidableEq, Repr

/-- A round-trip record (R144). -/
structure RoundTrip where
  number : Nat
  reason : Option TripReason
  niFwd : Option Nat
  niRev : Option Nat
  figures : Option TripFigures
  deriving DecidableEq, Repr

/-- The result of a successful prove (R146); no current MF and no deviation with NEW_CURVE. -/
structure ProveResult where
  newMF : Nat
  rate : Nat
  repeatability : Nat
  trips : List Nat
  currentMF : Option Nat
  newCurve : Bool
  deviation : Option Nat
  deviates : Bool
  deriving DecidableEq, Repr

/-- The prove marker (R129). -/
structure ProveMarker where
  run : Run
  slot : Slot
  startTime : Seconds
  attempts : Nat
  result : Option ProveResult
  deriving DecidableEq, Repr

/-- The causes of a failed prove, in R150's order. -/
inductive ProveCause
  | valveTimeout | sphereTimeout | detectorOrder | noRepeat | routeLost | flowStopped | runLeftService
  | productChange
  deriving DecidableEq, Repr

/-- Who accepted a result (R153). -/
inductive AcceptedBy | auto | request
  deriving DecidableEq, Repr

/-- The outcome of a prove with what R153 gives it: a reason, or the result's figures. -/
inductive ProveOutcome
  | accepted (who : AcceptedBy) (result : ProveResult)
  | rejected (result : ProveResult)
  | failed (cause : ProveCause)
  | aborted (atRestart : Bool)
  | discarded (result : ProveResult)
  deriving DecidableEq, Repr

/-- A last prove result (R153). -/
structure LastProve where
  time : Seconds
  startTime : Seconds
  slot : Slot
  attempts : Nat
  outcome : ProveOutcome
  deriving DecidableEq, Repr

/-- The volatile state of the PSQ (R127 to R129): its states, timers (deadlines), filtered inputs, lockouts and
outputs. -/
structure ProverSeq where
  state : ProverState
  run : Option Run
  slot : Option Slot
  qstart : Option Nat
  attempts : Nat
  pass : CurrentPass
  fwd : Option PassResult
  samples : List ValueSample
  valveTimer : Option Moment
  passTimer : Option Moment
  tailTimer : Option Moment
  trips : List RoundTrip
  result : Option ProveResult
  routeOk : InputFilter
  valveFwd : InputFilter
  valveRev : InputFilter
  det1 : InputFilter
  det2 : InputFilter
  lockout1 : Option Moment
  lockout2 : Option Moment
  route : RunSet
  dirReverse : Bool
  deriving DecidableEq, Repr

/-! ### Sampler Controller (Chapter 8) -/

/-- The sampler states, in R157's order. -/
inductive SamplerState | off | ready | grabbing | swapping | halted
  deriving DecidableEq, Repr

/-- An entry of the owed-grab queue (R157). -/
structure OwedGrab where
  batchId : Nat
  can : Can
  deriving DecidableEq, Repr

/-- The volatile state of the SMC (R157). -/
structure Sampler where
  state : SamplerState
  queue : List OwedGrab
  haltedCan : Option Can
  widthTimer : Option Moment
  intervalTimer : Option Moment
  swapTimer : Option Moment
  full1 : InputFilter
  full2 : InputFilter
  grab : Bool
  canSelect : Bool
  deriving DecidableEq, Repr

/-! ### Ticket Archive (Chapter 9) -/

/-- A pending ticket and whether it is WRITING (R172). -/
structure PendingTicket where
  ticket : Ticket
  writing : Bool
  deriving DecidableEq, Repr

/-- The slot states with the slot's content (R171). -/
inductive SlotState
  | empty
  | writing
  | valid (t : Ticket)
  | retrieved (t : Ticket)
  | defective
  deriving DecidableEq, Repr

/-- The sector states (R171). -/
inductive SectorState | erased | opened | full | erasing | eraseSuspended
  deriving DecidableEq, Repr

/-- One sector (R171). -/
structure ArchiveSector where
  state : SectorState
  openNumber : Option Counter
  slots : PerEight SlotState
  deriving DecidableEq, Repr

/-- Archive memory, less the audit ring (R171). -/
structure Archive where
  sectors : PerEight ArchiveSector
  newest : Sector
  openCounter : Counter
  numberMark : Nat
  deriving DecidableEq, Repr

/-- The write in flight (R172). -/
structure WriteInFlight where
  sector : Sector
  slot : Sector
  deriving DecidableEq, Repr

/-- The erase in progress (R172): the erasing time that remained, in ticks, when it last started or resumed, and the
moment of that; no moment while it is suspended (R177). -/
structure EraseInProgress where
  sector : Sector
  remaining : Nat
  since : Option Moment
  deriving DecidableEq, Repr

/-! ### Audit Trail (Chapter 9) -/

/-- The cause of a start (R98, R99). -/
inductive StartCause | reset | request | retainedInvalid
  deriving DecidableEq, Repr

/-- The kind, subject and details of an audit entry, kind by kind in R182's order. -/
inductive AuditBody
  | coldStart (cause : StartCause)
  | warmStart (outageStart outageEnd : Seconds) (cause : StartCause)
  | sectionCommit (number : Nat) (before after : BitVec 16)
  | lock (number : Nat)
  | unlockAll (locked : List Nat)
  | sealChange (before after : SealState) (foundAtStart : Bool)
  | overrideSet (index : Nat) (before : ValueUsed) (value : Int)
  | overrideRelease (index : Nat) (value : Int) (after : ValueUsed)
  | proveAccepted (run : Run) (slot : Slot) (replaced : Option CurvePoint) (point : CurvePoint)
  | proveRejected (run : Run) (slot : Slot) (mf rate : Nat)
  | runService (run : Run) (before after : ServiceState)
  | timeSet (before after : Seconds)
  deriving DecidableEq, Repr

/-- An audit entry (R182). -/
structure AuditEntry where
  seq : Counter
  time : Seconds
  body : AuditBody
  deriving DecidableEq, Repr

/-- The audit ring (R182): the entries whose check word agrees, oldest first, each in position sequence number modulo
256; and the position of an append that a reset or power failure struck, whose check word does not agree (R184).
DESIGN CHOICE (log entry 6). -/
structure AuditRing where
  entries : List AuditEntry
  torn : Option Nat
  deriving DecidableEq, Repr

/-! ### Alarm Table (Chapter 10) -/

/-- One of the 54 alarms (R188). -/
inductive AlarmId
  | station (a : StationAlarm)
  | run (r : Run) (a : RunAlarm)
  deriving DecidableEq, Repr

/-- The alarm states, in R189's order. -/
inductive AlarmState | normal | activeUnack | activeAck | returnedUnack
  deriving DecidableEq, Repr

/-- An alarm's state and last-change time (R189). -/
structure Alarm where
  state : AlarmState
  changed : Option Seconds
  deriving DecidableEq, Repr

/-- The event flags, in R195's order. -/
inductive EventFlag
  | batchClosed | ticketStored | proveFinished | alarmChanged | slowdownReached | targetReached
  | stagingAbandoned | restarted
  deriving DecidableEq, Repr

/-- The event flag set (R195). -/
structure EventFlags where
  batchClosed : Bool
  ticketStored : Bool
  proveFinished : Bool
  alarmChanged : Bool
  slowdownReached : Bool
  targetReached : Bool
  stagingAbandoned : Bool
  restarted : Bool
  deriving DecidableEq, Repr

/-! ### Link Controller (Chapter 11) -/

/-- The status codes, in R210's order. -/
inductive Status
  | ok | unknownKind | badLength | badParam | busy | isSealed | notAllowed | notFound | duplicate | full
  | stageError | noSnapshot
  deriving DecidableEq, Repr

/-- A field of a body by its class (R208): an unsigned integer of 1, 2, 4 or 8 bytes, a signed integer, a text. -/
inductive Field
  | u8 (n : Nat)
  | u16 (n : Nat)
  | u32 (n : Nat)
  | u64 (n : Nat)
  | s32 (v : Int)
  | text (t : Text)
  deriving DecidableEq, Repr

/-- A reply: its status code and, with OK, the fields after it (R210). -/
structure Reply where
  status : Status
  fields : List Field
  deriving DecidableEq, Repr

/-- A complete request frame (R204). -/
structure Frame where
  kind : Byte
  tag : Byte
  body : List Byte
  deriving DecidableEq, Repr

/-- The framer (R205): HUNT, or the bytes taken after the start byte. -/
inductive Framer
  | hunt
  | receiving (taken : List Byte)
  deriving DecidableEq, Repr

/-- The line rates (R203). -/
inductive LineRate | b9600 | b19200 | b38400 | b115200
  deriving DecidableEq, Repr

/-- The LNK (Chapter 11). The transmitter is IDLE, or SENDING the bytes of one reply frame. DESIGN CHOICE (log entry
27): no command moves the straps. -/
structure Link where
  framer : Framer
  gapTimer : Option Moment
  sending : Option (List Byte)
  waiting : Option Frame
  restartMark : Option StartKind
  rate : LineRate
  baud1 : Bool
  baud0 : Bool
  deriving DecidableEq, Repr

/-! ### Retained memory (Chapter 5) -/

/-- The retained content of one bank, by the chapters that place it there; the station clock stands in State. -/
structure Retained where
  service : PerRun ServiceState
  rem : PerRun Remainders
  periodSeq : PerRun Counter
  runTotals : PerRun CumulativeTotals
  pulseCounts : PerRun PulseCounts
  station : CumulativeTotals
  unbatched : CumulativeTotals
  lastSeen : Seconds
  clockSet : Bool
  queue : List BatchRecord
  active : Option Batch
  endPending : Bool
  ending : List Batch
  lastSlot : Slot
  slowdown : Bool
  stop : Bool
  marker : Option ProveMarker
  lastProve : PerRun (Option LastProve)
  enable : Switch
  selectedCan : Can
  canCount1 : Nat
  canCount2 : Nat
  pendingTickets : List PendingTicket
  ticketCounter : Nat
  deriving DecidableEq, Repr

/-- A retained bank (R94): its content, its generation number, and whether its check word matches the two. DESIGN
CHOICE (log entry 6): the check word is held as its agreement. -/
structure Bank where
  content : Retained
  generation : Counter
  intact : Bool
  deriving DecidableEq, Repr

/-- Which of the two banks. -/
inductive BankId | a | b
  deriving DecidableEq, Repr

/-- Whether the module takes events (section 5.6): running; stopped, from a power failure or an assertion of RESET_N
until a start begins; or starting, with the kind and cause that the beginning of the start decided (R97, R101). -/
inductive Phase
  | running
  | stopped
  | starting (kind : StartKind) (cause : StartCause)
  deriving DecidableEq, Repr

/-! ### The whole machine -/

/-- The state of the module. -/
structure State where
  now : Moment
  phase : Phase
  powered : Bool
  resetActive : Bool
  ret : Retained
  bankA : Bank
  bankB : Bank
  current : BankId
  clock : Seconds
  secondFrom : Moment
  params : Params
  locks : Vector Bool 12
  recordedSeal : SealState
  sealInput : InputFilter
  staging : Option Staging
  pulses : PerRun RunPulse
  cen : PerRun RunCorrection
  values : Vector LiveValue 12
  snapshot : Option Snapshot
  snapshotSeq : Counter
  psq : ProverSeq
  smc : Sampler
  archive : Archive
  write : Option WriteInFlight
  erase : Option EraseInProgress
  audit : AuditRing
  auditNext : Counter
  alarms : Vector Alarm 54
  flags : EventFlags
  link : Link
  reply : Option Reply
  pending : List Instr
  deriving DecidableEq, Repr

/-! ### Reset values -/

/-- An input that is inactive, open or low, with no change being timed. -/
def InputFilter.low : InputFilter := ⟨false, false, none⟩

/-- Factory METER r (R46). -/
def Meter.factory : Meter := ⟨1000000, .dual, .us10, 5, 500, 55000, 1500, 0⟩

/-- Factory product slot (R46). -/
def Product.factory : Product := ⟨[], 1500, 9000, 0, 700, 8500, .nominal, .zero, 0⟩

/-- Factory PROVER (R46). -/
def ProverParams.factory : ProverParams :=
  ⟨10000000, 0, 1500, 1500, 0, 5, 10, 500, 2500, 20, 30, 120, false⟩

/-- Factory STATION (R46). -/
def StationParams.factory : StationParams := ⟨5, 60, 500, 200, 2000, 10000, Vector.replicate 11 false⟩

/-- Factory content of every section (R46). -/
def Params.factory : Params where
  meter := Vector.replicate 4 Meter.factory
  curves := Vector.replicate 4 (Vector.replicate 8 [])
  products := Vector.replicate 8 Product.factory
  productMap := []
  prover := ProverParams.factory
  station := StationParams.factory

/-- The zero period counts. -/
def PeriodCounts.zero : PeriodCounts := ⟨0, 0, 0, false, 0, 0⟩

/-- A run out of service after a cold start (R23), with the settings of the factory METER r. DESIGN CHOICE (log entry
24): pulse state DUAL_OK. -/
def RunPulse.reset : RunPulse where
  flow := none
  timerFrom := none
  chA := .low
  chB := .low
  reference := ⟨false, false⟩
  quarter := 0
  pulseState := .dualOk
  settings := ⟨.dual, .us10, 5⟩
  counts := .zero
  goodIndex := 0
  history := []
  lastPhaseError := none
  lastReverse := none
  capture := none
  watch := none

/-- No period in progress and no latest period record (R87). -/
def RunCorrection.reset : RunCorrection := ⟨none, none, none⟩

/-- A value after a start (R43). -/
def LiveValue.reset : LiveValue := ⟨none, .substituted, none, none, none, none, false⟩

def Quantities.zero : Quantities := ⟨0, 0, 0, 0, 0⟩

def Cumulative.zero : Cumulative := ⟨0, 0⟩

def CumulativeTotals.zero : CumulativeTotals := ⟨.zero, .zero, .zero, .zero, .zero⟩

def Sums.zero : Sums := ⟨0, 0, 0, 0, 0, 0, 0⟩

def RecordFlags.none : RecordFlags := ⟨false, false, false, false, false, false, false, false, false⟩

def BatchFlags.none : BatchFlags := ⟨.none, false, false, false⟩

def CurrentPass.none : CurrentPass := ⟨.none, .none, .none, .none, false⟩

/-- The PSQ after a start (R127 to R129). -/
def ProverSeq.reset : ProverSeq where
  state := .idle
  run := none
  slot := none
  qstart := none
  attempts := 0
  pass := .none
  fwd := none
  samples := []
  valveTimer := none
  passTimer := none
  tailTimer := none
  trips := []
  result := none
  routeOk := .low
  valveFwd := .low
  valveRev := .low
  det1 := .low
  det2 := .low
  lockout1 := none
  lockout2 := none
  route := noRuns
  dirReverse := false

/-- The SMC after a cold start (R170). -/
def Sampler.reset : Sampler where
  state := .off
  queue := []
  haltedCan := none
  widthTimer := none
  intervalTimer := none
  swapTimer := none
  full1 := .low
  full2 := .low
  grab := false
  canSelect := false

/-- An erased sector (R171). -/
def ArchiveSector.erased : ArchiveSector := ⟨.erased, none, Vector.replicate 8 .empty⟩

/-- Factory archive memory (R171). -/
def Archive.factory : Archive := ⟨Vector.replicate 8 .erased, 7, 0, 0⟩

def Alarm.normal : Alarm := ⟨.normal, none⟩

def EventFlags.none : EventFlags := ⟨false, false, false, false, false, false, false, false⟩

/-- The LNK after a start with both rate straps low (R203, R215). -/
def Link.reset : Link := ⟨.hunt, none, none, none, none, .b9600, false, false⟩

/-- The retained content of a cold start (R99's table), with the ticket counter that R187 gives. -/
def Retained.cold (counter : Nat) : Retained where
  service := Vector.replicate 4 .outOfService
  rem := Vector.replicate 4 ⟨0, 0, 0, 0, 0⟩
  periodSeq := Vector.replicate 4 0
  runTotals := Vector.replicate 4 .zero
  pulseCounts := Vector.replicate 4 ⟨0, 0, 0⟩
  station := .zero
  unbatched := .zero
  lastSeen := 0
  clockSet := false
  queue := []
  active := none
  endPending := false
  ending := []
  lastSlot := 0
  slowdown := false
  stop := false
  marker := none
  lastProve := Vector.replicate 4 none
  enable := .off
  selectedCan := .can1
  canCount1 := 0
  canCount2 := 0
  pendingTickets := []
  ticketCounter := counter

/-- The alarms after the completion of a cold start with SEAL open (R202): the twelve quality conditions, SEAL_OPEN
and TIME_UNSET raised, RETAINED_LOST raised and cleared. The order is the station alarms, then run 1 to run 4. -/
def coldAlarms : Vector Alarm 54 :=
  let n : Alarm := .normal
  let a : Alarm := ⟨.activeUnack, some 0⟩
  let r : Alarm := ⟨.returnedUnack, some 0⟩
  #v[a, a, a, a, n, n, n, n, n, n, n, a, r, a,
     n, n, n, n, a, a, n, n, n, n,
     n, n, n, n, a, a, n, n, n, n,
     n, n, n, n, a, a, n, n, n, n,
     n, n, n, n, a, a, n, n, n, n]

/-- The machine right after reset: the completion of the first start of a module as it leaves the factory, which is a
cold start with the cause RETAINED_INVALID (R97, R99, R100), every input inactive and SEAL open. Parameter memory and
archive memory hold their factory content (R46, R171), the audit ring holds the COLD_START entry, and RESTARTED and
ALARM_CHANGED stand in the event flag set (R202). DESIGN CHOICE (log entry 5): SEAL open and every input inactive. -/
def State.reset : State where
  now := 0
  phase := .running
  powered := true
  resetActive := false
  ret := .cold 1
  bankA := ⟨.cold 1, 0, true⟩
  bankB := ⟨.cold 1, 0, true⟩
  current := .a
  clock := 0
  secondFrom := 0
  params := .factory
  locks := Vector.replicate 12 false
  recordedSeal := .opened
  sealInput := .low
  staging := none
  pulses := Vector.replicate 4 .reset
  cen := Vector.replicate 4 .reset
  values := Vector.replicate 12 .reset
  snapshot := none
  snapshotSeq := 0
  psq := .reset
  smc := .reset
  archive := .factory
  write := none
  erase := none
  audit := ⟨[⟨1, 0, .coldStart .retainedInvalid⟩], none⟩
  auditNext := 2
  alarms := coldAlarms
  flags := ⟨false, false, false, true, false, false, false, true⟩
  link := .reset
  reply := none
  pending := []

end Sys2Proof.Machine
end

