-- ==== Sys2Proof/Machine/Ops.lean ====
section
/-! DEFINITION. The operations that every block shares: the time base, input filters, the Alarm Table and its event
flags, the audit append, the retained update, and the two ways in which a command is taken (an event, a request). -/

namespace Sys2Proof.Machine

/-! ### Arithmetic (00_scope, Rounding) -/

/-- Half up: to the nearest integer, ties toward plus infinity, on non-negative quantities. DESIGN CHOICE (log entry
19): with a divisor of 0, which no run reaches, the result is 0. -/
def roundHalfUp (n d : Nat) : Nat := (2 * n + d) / (2 * d)

/-- Half away: to the nearest integer, ties away from zero, on signed quantities. -/
def roundHalfAway (n : Int) (d : Nat) : Int :=
  if 0 ≤ n then (roundHalfUp n.toNat d : Int) else -(roundHalfUp (-n).toNat d : Int)

/-! ### The time base (R9) -/

/-- The stamp of a moment: its tick count modulo 2³². -/
def stampOf (m : Moment) : Stamp := BitVec.ofNat 32 m

/-- A stamp is at or after a tick when their difference modulo 2³² is below 2³¹ (R9). -/
def atOrAfter (s t : Stamp) : Bool := decide ((s - t).toNat < 2147483648)

/-- The tick difference from the first stamp to the second, modulo 2³² (R135). -/
def ticksBetween (first second : Stamp) : Nat := (second - first).toNat

/-- The machine with the time base at the deadline of an event, or past it already. DESIGN CHOICE (log entry 3): the
command of an expiry says that its deadline has come. -/
def State.atMoment (s : State) (d : Moment) : State := { s with now := max s.now d }

/-! ### Input filters (R8, R61, R127, R164) -/

/-- A change of the raw level: to the opposite of the filtered level it starts the timing, back to the filtered level
it discards the change being timed. -/
def InputFilter.change (f : InputFilter) (level : Bool) (now : Moment) : InputFilter :=
  if level = f.raw then f
  else if level = f.filtered then { f with raw := level, since := none }
  else { f with raw := level, since := some now }

/-- The filter accepts the change being timed. -/
def InputFilter.accept (f : InputFilter) : InputFilter := { f with filtered := f.raw, since := none }

/-- The completion of a start: the filtered level is the raw level, with no change being timed. -/
def InputFilter.settle (f : InputFilter) : InputFilter := { f with filtered := f.raw, since := none }

/-- While the module takes no events the input's level still stands at its pin, and no change is timed. -/
def InputFilter.follow (f : InputFilter) (level : Bool) : InputFilter := { f with raw := level, since := none }

/-- The change being timed has held for the filter width. -/
def InputFilter.held (f : InputFilter) (width : Nat) (now : Moment) : Bool :=
  match f.since with
  | none => false
  | some t => decide (t + width ≤ now)

/-! ### Tables -/

/-- Changes one run's entry. -/
def modAt {α : Type} {n : Nat} (xs : Vector α n) (i : Fin n) (f : α → α) : Vector α n := xs.set i (f xs[i])

def State.modRun (s : State) (r : Run) (f : RunPulse → RunPulse) : State := { s with pulses := modAt s.pulses r f }

def State.modCen (s : State) (r : Run) (f : RunCorrection → RunCorrection) : State :=
  { s with cen := modAt s.cen r f }

def State.modPsq (s : State) (f : ProverSeq → ProverSeq) : State := { s with psq := f s.psq }

def State.modSmc (s : State) (f : Sampler → Sampler) : State := { s with smc := f s.smc }

def State.modRet (s : State) (f : Retained → Retained) : State := { s with ret := f s.ret }

/-! ### Event flags (R195, R196) -/

/-- The set with a flag added; a flag already in the set stays. -/
def EventFlags.add (fs : EventFlags) : EventFlag → EventFlags
  | .batchClosed => { fs with batchClosed := true }
  | .ticketStored => { fs with ticketStored := true }
  | .proveFinished => { fs with proveFinished := true }
  | .alarmChanged => { fs with alarmChanged := true }
  | .slowdownReached => { fs with slowdownReached := true }
  | .targetReached => { fs with targetReached := true }
  | .stagingAbandoned => { fs with stagingAbandoned := true }
  | .restarted => { fs with restarted := true }

/-- Whether a flag is in the set. -/
def EventFlags.has (fs : EventFlags) : EventFlag → Bool
  | .batchClosed => fs.batchClosed
  | .ticketStored => fs.ticketStored
  | .proveFinished => fs.proveFinished
  | .alarmChanged => fs.alarmChanged
  | .slowdownReached => fs.slowdownReached
  | .targetReached => fs.targetReached
  | .stagingAbandoned => fs.stagingAbandoned
  | .restarted => fs.restarted

/-- The set is not empty. -/
def EventFlags.any (fs : EventFlags) : Bool :=
  fs.batchClosed || fs.ticketStored || fs.proveFinished || fs.alarmChanged || fs.slowdownReached
    || fs.targetReached || fs.stagingAbandoned || fs.restarted

/-- A block sets an event flag (R196). -/
def State.addFlag (s : State) (f : EventFlag) : State := { s with flags := s.flags.add f }

/-! ### Alarms (R188 to R191) -/

def stationAlarmIndex : StationAlarm → Nat
  | .tpQuality => 0 | .ppQuality => 1 | .rhoQuality => 2 | .swQuality => 3 | .rhoClamped => 4 | .swClamped => 5
  | .flowNoBatch => 6 | .samplerMissed => 7 | .samplerHalted => 8 | .archiveFull => 9 | .proveFailed => 10
  | .sealOpen => 11 | .retainedLost => 12 | .timeUnset => 13

def runAlarmIndex : RunAlarm → Nat
  | .pulseError => 0 | .pulseDegraded => 1 | .reverseFlow => 2 | .countOverrun => 3 | .tQuality => 4
  | .pQuality => 5 | .tClamped => 6 | .pClamped => 7 | .mfUndefined => 8 | .highRate => 9

theorem stationAlarmIndex_lt (a : StationAlarm) : stationAlarmIndex a < 14 := by cases a <;> decide

theorem runAlarmIndex_lt (a : RunAlarm) : runAlarmIndex a < 10 := by cases a <;> decide

/-- The place of an alarm: the station alarms in the order of R188, then those of run 1 to run 4 (R194). -/
def AlarmId.index : AlarmId → Fin 54
  | .station a => ⟨stationAlarmIndex a, by have := stationAlarmIndex_lt a; omega⟩
  | .run r a => ⟨14 + 10 * r.val + runAlarmIndex a, by have := runAlarmIndex_lt a; have := r.isLt; omega⟩

/-- The station alarms in the order of R188. -/
def stationAlarms : List StationAlarm :=
  [.tpQuality, .ppQuality, .rhoQuality, .swQuality, .rhoClamped, .swClamped, .flowNoBatch, .samplerMissed,
   .samplerHalted, .archiveFull, .proveFailed, .sealOpen, .retainedLost, .timeUnset]

/-- The per-run alarms in the order of R188. -/
def runAlarms : List RunAlarm :=
  [.pulseError, .pulseDegraded, .reverseFlow, .countOverrun, .tQuality, .pQuality, .tClamped, .pClamped,
   .mfUndefined, .highRate]

/-- All 54 alarms in the order of R194. -/
def allAlarms : List AlarmId :=
  stationAlarms.map .station ++ allRuns.flatMap (fun r => runAlarms.map (.run r))

/-- R190, condition raised. -/
def AlarmState.raised : AlarmState → AlarmState
  | .normal => .activeUnack
  | .activeUnack => .activeUnack
  | .activeAck => .activeAck
  | .returnedUnack => .activeUnack

/-- R190, condition cleared. -/
def AlarmState.cleared : AlarmState → AlarmState
  | .normal => .normal
  | .activeUnack => .returnedUnack
  | .activeAck => .normal
  | .returnedUnack => .returnedUnack

/-- R192: what an acknowledgement makes of an alarm state. -/
def AlarmState.acknowledged : AlarmState → AlarmState
  | .normal => .normal
  | .activeUnack => .activeAck
  | .activeAck => .activeAck
  | .returnedUnack => .normal

/-- The state of one alarm. -/
def State.alarm (s : State) (a : AlarmId) : Alarm := s.alarms[a.index]

/-- An owner's raising or clearing moves the alarm to the state that R190 gives: at a change the last-change time is
the station clock and ALARM_CHANGED is set; otherwise nothing changes. -/
def State.moveAlarm (s : State) (a : AlarmId) (f : AlarmState → AlarmState) : State :=
  if f (s.alarm a).state = (s.alarm a).state then s
  else
    { s with
      alarms := s.alarms.set a.index ⟨f (s.alarm a).state, some s.clock⟩
      flags := s.flags.add .alarmChanged }

/-- The owner raises the condition (R190). -/
def State.raiseAlarm (s : State) (a : AlarmId) : State := s.moveAlarm a .raised

/-- The owner clears the condition (R190). -/
def State.clearAlarm (s : State) (a : AlarmId) : State := s.moveAlarm a .cleared

/-- The owner raises or clears the condition. -/
def State.setAlarm (s : State) (a : AlarmId) (raised : Bool) : State :=
  if raised then s.raiseAlarm a else s.clearAlarm a

/-- A momentary condition: raised and cleared by one event (R191). -/
def State.pulseAlarm (s : State) (a : AlarmId) : State := (s.raiseAlarm a).clearAlarm a

/-- COMMON_ALARM is active exactly when at least one alarm is not NORMAL (R193). DEDUCED (log entry 25): computed, not
stored. -/
def State.commonAlarm (s : State) : Bool := allAlarms.any (fun a => decide ((s.alarm a).state ≠ .normal))

/-- ATTN is active while the event flag set holds at least one flag (R196). DEDUCED (log entry 25): computed, not
stored. -/
def State.attn (s : State) : Bool := s.flags.any

/-! ### The audit append (R182) -/

/-- The ring with an entry written into position sequence number modulo 256: what that position held is lost. -/
def AuditRing.write (ring : AuditRing) (e : AuditEntry) : AuditRing where
  entries := ring.entries.filter (fun x => decide (x.seq.toNat % Config.ringSize ≠ e.seq.toNat % Config.ringSize)) ++ [e]
  torn := if ring.torn = some (e.seq.toNat % Config.ringSize) then none else ring.torn

/-- An event appends an audit entry: it takes the next sequence number and the station clock (R182). -/
def State.appendAudit (s : State) (body : AuditBody) : State :=
  { s with
    audit := s.audit.write ⟨s.auditNext, s.clock, body⟩
    auditNext := s.auditNext + 1 }

/-! ### Retained memory (R94) -/

/-- The bank that is current. -/
def State.currentBank (s : State) : Bank :=
  match s.current with
  | .a => s.bankA
  | .b => s.bankB

/-- One retained update: the whole content goes to the bank that is not current, with the next generation number and
its own check word, and that bank becomes current. -/
def State.retainedUpdate (s : State) : State :=
  match s.current with
  | .a => { s with bankB := ⟨s.ret, s.bankA.generation + 1, true⟩, current := .b }
  | .b => { s with bankA := ⟨s.ret, s.bankB.generation + 1, true⟩, current := .a }

/-- The end of an event: retained content that the event changed and has not yet written is written as one retained
update. -/
def State.settle (s : State) : State := if s.ret = s.currentBank.content then s else s.retainedUpdate

/-! ### How a command is taken -/

/-- An event of a block: taken only while the module runs (section 5.6), as a whole, with its one retained update.
DEDUCED (log entry 4): a module that is not running takes none. -/
def State.event (s : State) (f : State → State) : State :=
  match s.phase with
  | .running => (f s).settle
  | _ => s

/-- The module takes requests: it runs, and no accepted RESTART waits to stop it (R101). DEDUCED (log entry 4). -/
def State.takesRequests (s : State) : Bool := decide (s.phase = .running) && s.link.restartMark.isNone

/-- The owner takes a request as one event and forms the reply in it (R210). DESIGN CHOICE (log entry 1): the reply
formed by a request command stands in the model's own field `reply`. -/
def State.answer (s : State) (f : State → State × Reply) : State :=
  { (f s).1.settle with reply := some (f s).2 }

/-- A request command: the owner's event, while the module takes requests. -/
def State.request (s : State) (f : State → State × Reply) : State :=
  if s.takesRequests then s.answer f else s

/-- A reply with OK and its fields (R210). -/
def Reply.okWith (fields : List Field) : Reply := ⟨.ok, fields⟩

/-- The reply OK alone. -/
def Reply.justOk : Reply := ⟨.ok, []⟩

/-- A refusal: the status code alone, and nothing changes (R209, R210). -/
def refuse (s : State) (st : Status) : State × Reply := (s, ⟨st, []⟩)

end Sys2Proof.Machine
end

