-- ==== Sys2Proof/Machine/Operands.lean ====
section
/-! DEFINITION. The field encodings of the link (R208): bytes of every field class, the number of every enumerated
value in the order in which its defining table or list gives the members, the CRC-16 (R64, R204), and the readers
that take fields out of a request body. -/

namespace Sys2Proof.Machine

/-! ### Field classes (R208) -/

/-- The `k` bytes of a number, little-endian. -/
def leBytes : Nat → Nat → List Byte
  | 0, _ => []
  | k + 1, n => BitVec.ofNat 8 n :: leBytes k (n / 256)

/-- The number that little-endian bytes hold. -/
def ofLe : List Byte → Nat
  | [] => 0
  | b :: bs => b.toNat + 256 * ofLe bs

/-- The bytes of a field. -/
def Field.bytes : Field → List Byte
  | .u8 n => leBytes 1 n
  | .u16 n => leBytes 2 n
  | .u32 n => leBytes 4 n
  | .u64 n => leBytes 8 n
  | .s32 v => leBytes 4 (BitVec.ofInt 32 v).toNat
  | .text t => BitVec.ofNat 8 t.length :: t

/-- The bytes of a sequence of fields. -/
def fieldBytes (fs : List Field) : List Byte := fs.flatMap Field.bytes

/-- An optional field: the presence byte, then the field when present. -/
def optField {α : Type} (o : Option α) (f : α → List Field) : List Field :=
  match o with
  | none => [.u8 0]
  | some a => .u8 1 :: f a

/-- A list: the count, then the entries in order. -/
def listField {α : Type} (xs : List α) (f : α → List Field) : List Field := .u8 xs.length :: xs.flatMap f

/-- A mark, a logical state or a filtered level, which R208 gives no class of its own: one byte. DEDUCED (log entry 13): 1
for a mark that is set and for a state or level that is active, 0 otherwise. -/
def markField (b : Bool) : Field := .u8 (if b then 1 else 0)

/-- The number whose bits are the given ones, the first as the least significant. -/
def bitsValue : List Bool → Nat
  | [] => 0
  | b :: bs => (if b then 1 else 0) + 2 * bitsValue bs

/-- A flag set: two bytes. -/
def flagField (bs : List Bool) : Field := .u16 (bitsValue bs)

/-- A run set: one byte, run 1 lowest. -/
def runSetField (rs : RunSet) : Field := .u8 (bitsValue rs.toList)

/-- A 32-bit counter. -/
def counterField (c : Counter) : Field := .u32 c.toNat

/-! ### Enumerated values, numbered in the order of their defining table or list (R208) -/

def Status.code : Status → Nat
  | .ok => 0 | .unknownKind => 1 | .badLength => 2 | .badParam => 3 | .busy => 4 | .isSealed => 5
  | .notAllowed => 6 | .notFound => 7 | .duplicate => 8 | .full => 9 | .stageError => 10 | .noSnapshot => 11

def ServiceState.code : ServiceState → Nat
  | .outOfService => 0 | .inService => 1

def FlowState.code : FlowState → Nat
  | .noFlow => 0 | .flowing => 1

def PulseMode.code : PulseMode → Nat
  | .singleA => 0 | .dual => 1

def PulseMode.ofCode? : Nat → Option PulseMode
  | 0 => some .singleA | 1 => some .dual | _ => none

def FilterWidth.code : FilterWidth → Nat
  | .off => 0 | .us2 => 1 | .us10 => 2 | .us50 => 3

def FilterWidth.ofCode? : Nat → Option FilterWidth
  | 0 => some .off | 1 => some .us2 | 2 => some .us10 | 3 => some .us50 | _ => none

def PulseState.code : PulseState → Nat
  | .dualOk => 0 | .singleAOnly => 1 | .singleBOnly => 2 | .singleMode => 3

def Ladder.code : Ladder → Nat
  | .live => 0 | .liveClamped => 1 | .held => 2 | .substituted => 3

def Quality.code : Quality → Nat
  | .live => 0 | .liveClamped => 1 | .held => 2 | .substituted => 3 | .overridden => 4

def DensitySource.code : DensitySource → Nat
  | .live => 0 | .nominal => 1

def DensitySource.ofCode? : Nat → Option DensitySource
  | 0 => some .live | 1 => some .nominal | _ => none

def SwSource.code : SwSource → Nat
  | .live => 0 | .zero => 1

def SwSource.ofCode? : Nat → Option SwSource
  | 0 => some .live | 1 => some .zero | _ => none

def SealState.code : SealState → Nat
  | .closed => 0 | .opened => 1

def EndReason.code : EndReason → Nat
  | .request => 0 | .change => 1 | .target => 2

def BatchState.code : BatchState → Nat
  | .queued => 0 | .active => 1 | .ending => 2 | .closed => 3

def ProverState.code : ProverState → Nat
  | .idle => 0 | .routing => 1 | .fwdLaunch => 2 | .fwdTravel => 3 | .fwdCount => 4 | .fwdTail => 5
  | .revLaunch => 6 | .revTravel => 7 | .revCount => 8 | .revTail => 9 | .resultPending => 10

/-- The pass reasons, in R129's order. -/
def PassReason.code : PassReason → Nat
  | .noTailPulse => 0 | .pulseIntegrity => 1 | .reversePulses => 2 | .insufficientPulses => 3

/-- VALID, then the reasons in the order of R141, a pass reason in R139's order. -/
def tripReasonCode : Option TripReason → Nat
  | none => 0
  | some (.pass r) => 1 + r.code
  | some .liveQuality => 5
  | some .flowUnstable => 6
  | some .mfRange => 7

def ProveCause.code : ProveCause → Nat
  | .valveTimeout => 0 | .sphereTimeout => 1 | .detectorOrder => 2 | .noRepeat => 3 | .routeLost => 4
  | .flowStopped => 5 | .runLeftService => 6 | .productChange => 7

def AcceptedBy.code : AcceptedBy → Nat
  | .auto => 0 | .request => 1

def ProveOutcome.code : ProveOutcome → Nat
  | .accepted _ _ => 0 | .rejected _ => 1 | .failed _ => 2 | .aborted _ => 3 | .discarded _ => 4

/-- The reason of an outcome: the cause for FAILED, ABORTED or RESTART for ABORTED (R153). DEDUCED (log entry 13): the
reasons are one enumeration, the eight causes and then ABORTED and RESTART. -/
def ProveOutcome.reasonCode : ProveOutcome → Option Nat
  | .failed c => some c.code
  | .aborted atRestart => some (if atRestart then 9 else 8)
  | .accepted _ _ => none
  | .rejected _ => none
  | .discarded _ => none

def SamplerState.code : SamplerState → Nat
  | .off => 0 | .ready => 1 | .grabbing => 2 | .swapping => 3 | .halted => 4

def switchCode : Switch → Nat
  | .on => 0 | .off => 1

/-- A can is named by its number, 1 or 2. -/
def canNumber : Can → Nat
  | .can1 => 1 | .can2 => 2

def canOfNumber? : Nat → Option Can
  | 1 => some .can1 | 2 => some .can2 | _ => none

def SectorState.code : SectorState → Nat
  | .erased => 0 | .opened => 1 | .full => 2 | .erasing => 3 | .eraseSuspended => 4

def AlarmState.code : AlarmState → Nat
  | .normal => 0 | .activeUnack => 1 | .activeAck => 2 | .returnedUnack => 3

/-- The alarm names in R188's order, the ten per-run ones first. -/
def alarmNames : List AlarmName := runAlarms.map .run ++ stationAlarms.map .station

def alarmNameCode : AlarmName → Nat
  | .run a => runAlarmIndex a
  | .station a => 10 + stationAlarmIndex a

/-- The relayed values in index order (R24). -/
def allValues : List ValueId :=
  [.t 0, .t 1, .t 2, .t 3, .p 0, .p 1, .p 2, .p 3, .tp, .pp, .rho, .sw]

def valueIndex : ValueId → Fin 12
  | .t r => ⟨r.val, by have := r.isLt; omega⟩
  | .p r => ⟨4 + r.val, by have := r.isLt; omega⟩
  | .tp => 8
  | .pp => 9
  | .rho => 10
  | .sw => 11

/-- The value an index names, if it is at most 11 (R24). -/
def valueOfIndex? (n : Nat) : Option ValueId := allValues[n]?

/-! ### The CRC-16 (R64, R204): polynomial 1021h, initial value FFFFh, most significant bit first -/

def crcBit (c : BitVec 16) : BitVec 16 := if c.msb then (c <<< 1) ^^^ 0x1021#16 else c <<< 1

def crcByte (c : BitVec 16) (b : Byte) : BitVec 16 :=
  let x := c ^^^ (b.setWidth 16 <<< 8)
  crcBit (crcBit (crcBit (crcBit (crcBit (crcBit (crcBit (crcBit x)))))))

def crc16 (bs : List Byte) : BitVec 16 := bs.foldl crcByte 0xFFFF#16

/-! ### Readers of request bodies (R207, R209) -/

/-- What reading fields from a body gives: the value and the bytes left; or the body ended too soon; or a presence byte
was neither 0 nor 1, and the two readings that the fields allow from there on, without the field and with it. -/
inductive Parse (α : Type)
  | done (value : α) (rest : List Byte)
  | short
  | either (absent present : Parse α)

/-- What a reading gives, with more read after it. -/
def Parse.andThen {α β : Type} : Parse α → (α → List Byte → Parse β) → Parse β
  | .done a rest, f => f a rest
  | .short, _ => .short
  | .either absent present, f => .either (absent.andThen f) (present.andThen f)

/-- A reading ends with the last byte of the body (R207). -/
def Parse.fits {α : Type} : Parse α → Bool
  | .done _ rest => rest.isEmpty
  | .short => false
  | .either absent present => absent.fits || present.fits

/-- Reading one thing after another. -/
def readThen {α β : Type} (p : List Byte → Parse α) (f : α → List Byte → Parse β) (bs : List Byte) : Parse β :=
  (p bs).andThen f

/-- Nothing more to read. -/
def readNothing {α : Type} (a : α) (bs : List Byte) : Parse α := .done a bs

/-- `k` bytes. -/
def readBytes (k : Nat) (bs : List Byte) : Parse (List Byte) :=
  if k ≤ bs.length then .done (bs.take k) (bs.drop k) else .short

/-- An unsigned integer of `k` bytes. -/
def readUnsigned (k : Nat) : List Byte → Parse Nat :=
  readThen (readBytes k) (fun taken => readNothing (ofLe taken))

/-- A signed integer of 4 bytes. -/
def readSigned : List Byte → Parse Int :=
  readThen (readBytes 4) (fun taken => readNothing (BitVec.ofNat 32 (ofLe taken)).toInt)

/-- A text: a count and that many characters. DEDUCED (log entry 16). -/
def readText : List Byte → Parse Text :=
  readThen (readUnsigned 1) (fun n => readBytes n)

/-- An optional field. DEDUCED (log entry 16): a presence byte that is neither 0 nor 1 fixes no length, so the body is
read on both ways. -/
def readOptional {α : Type} (p : List Byte → Parse α) : List Byte → Parse (Option α)
  | [] => .short
  | b :: bs =>
    let absent : Parse (Option α) := .done none bs
    let present := readThen p (fun a => readNothing (some a)) bs
    if b = 0 then absent else if b = 1 then present else .either absent present

/-- `n` entries of a list. -/
def readEntries {α : Type} (p : List Byte → Parse α) : Nat → List Byte → Parse (List α)
  | 0, bs => .done [] bs
  | n + 1, bs => readThen p (fun a => readThen (readEntries p n) (fun more => readNothing (a :: more))) bs

/-- A list: the count and the entries. -/
def readList {α : Type} (p : List Byte → Parse α) : List Byte → Parse (List α) :=
  readThen (readUnsigned 1) (fun n => readEntries p n)

/-- An enumerated byte: the member it names, or none (R209). -/
def readMember {α : Type} (members : List α) : List Byte → Parse (Option α) :=
  readThen (readUnsigned 1) (fun n => readNothing members[n]?)

/-- A run set byte: none when an upper bit is set or no run is named (R209). -/
def runSetOfByte? (n : Nat) : Option RunSet :=
  if 1 ≤ n ∧ n ≤ 15 then some #v[n.testBit 0, n.testBit 1, n.testBit 2, n.testBit 3] else none

/-- A run set field. -/
def readRunSet : List Byte → Parse (Option RunSet) :=
  readThen (readUnsigned 1) (fun n => readNothing (runSetOfByte? n))

/-- A character of a text lies within 20h to 7Eh (R209). -/
def printable (b : Byte) : Bool := decide (0x20 ≤ b.toNat ∧ b.toNat ≤ 0x7E)

end Sys2Proof.Machine
end

