-- ==== Sys2Proof/Machine/Placement.lean ====
section
/-! DEFINITION. The Batch Controller's answer to where a run's period belongs: the placement (R112), the product in
force and the batch in force (R114), and the context in which a substitute is resolved (R34, R37). -/

namespace Sys2Proof.Machine

/-- A placement (R68, R112): the product slot, the credit target, and whether the period is a closing period. -/
structure Placement where
  slot : Slot
  target : CreditTarget
  closing : Bool
  deriving DecidableEq, Repr

/-- The oldest ENDING batch that a run owes. -/
def State.owedBatch? (s : State) (r : Run) : Option Batch := s.ret.ending.find? (fun b => b.owing[r])

/-- The placement of a run's period as the batch set stands (R112). -/
def State.place (s : State) (r : Run) : Placement :=
  match s.owedBatch? r with
  | some b => ⟨b.slot, .batch b.record.id, true⟩
  | none =>
    match s.ret.active with
    | some b => ⟨b.slot, .batch b.record.id, false⟩
    | none => ⟨s.ret.lastSlot, .unbatched, false⟩

/-- The product in force for a run (R114). -/
def State.productInForce (s : State) (r : Run) : Slot := (s.place r).slot

/-- The batch in force for a run (R114). -/
def State.batchInForce? (s : State) (r : Run) : Option Batch :=
  match s.owedBatch? r with
  | some b => some b
  | none => s.ret.active

/-- What resolves the substitutes of RHO and SW (R34): a product slot and a nominated density. -/
structure SubstituteContext where
  slot : Slot
  density : Option Nat
  deriving DecidableEq, Repr

/-- The context of a run (R34). -/
def State.runContext (s : State) (r : Run) : SubstituteContext :=
  ⟨s.productInForce r, (s.batchInForce? r).bind (fun b => b.record.density)⟩

/-- The context of an audit detail: the ACTIVE batch, or run 1 when no batch is ACTIVE (R37). -/
def State.auditContext (s : State) : SubstituteContext :=
  match s.ret.active with
  | some b => ⟨b.slot, b.record.density⟩
  | none => s.runContext 0

/-- A batch held under an id, whether ACTIVE or ENDING. -/
def State.heldBatch? (s : State) (id : Nat) : Option Batch :=
  match s.ret.active with
  | some b => if b.record.id = id then some b else s.ret.ending.find? (fun b => decide (b.record.id = id))
  | none => s.ret.ending.find? (fun b => decide (b.record.id = id))

/-- A batch changed, if it is the one held under the id. -/
def Batch.changedAt (id : Nat) (f : Batch → Batch) (b : Batch) : Batch := if b.record.id = id then f b else b

/-- Changes the batch held under an id, whether ACTIVE or ENDING. -/
def State.modBatch (s : State) (id : Nat) (f : Batch → Batch) : State :=
  s.modRet (fun ret =>
    { ret with
      active := ret.active.map (Batch.changedAt id f)
      ending := ret.ending.map (Batch.changedAt id f) })

/-- The set of runs that are IN_SERVICE. -/
def State.runsInService (s : State) : RunSet := forRuns (fun r => decide (s.ret.service[r] = .inService))

end Sys2Proof.Machine
end

