-- ==== Sys2Proof/Machine/Params.lean ====
section
/-! DEFINITION. The Parameter Store (Chapter 3): the content of a section as the link carries it and its digest, the
items of a staging, their validity, the staging sequence, section locks and the seal. -/

namespace Sys2Proof.Machine

/-! ### Sections (R44) -/

/-- A section by what it is. -/
inductive SectionRef
  | meter (r : Run)
  | curves (r : Run)
  | products
  | productMap
  | prover
  | station
  deriving DecidableEq, Repr

/-- The number of a section. -/
def SectionRef.number : SectionRef → Fin 12
  | .meter r => ⟨r.val, by have := r.isLt; omega⟩
  | .curves r => ⟨4 + r.val, by have := r.isLt; omega⟩
  | .products => 8
  | .productMap => 9
  | .prover => 10
  | .station => 11

/-- The sections in number order. -/
def allSections : List SectionRef :=
  [.meter 0, .meter 1, .meter 2, .meter 3, .curves 0, .curves 1, .curves 2, .curves 3, .products, .productMap,
   .prover, .station]

/-- The section that a number names, if it is at most 11. -/
def sectionOfNumber? (n : Nat) : Option SectionRef := allSections[n]?

/-- The sections that a staging of a kind touches, in number order (R44, R57). -/
def targetSections (kind : SectionKind) (runs : Option RunSet) : List SectionRef :=
  match kind with
  | .meter => (runsOf (runs.getD noRuns)).map .meter
  | .curves => (runsOf (runs.getD noRuns)).map .curves
  | .products => [.products]
  | .productMap => [.productMap]
  | .prover => [.prover]
  | .station => [.station]

/-! ### The product map (R50) -/

/-- The slot that a code maps to, or NONE. -/
def mapSlot? (m : List (Nat × Slot)) (code : Nat) : Option Slot :=
  (m.find? (fun e => decide (e.1 = code))).map Prod.snd

/-- The map with a code's entry set; the codes stay in rising order and a code that maps to NONE is not listed. -/
def mapSet : List (Nat × Slot) → Nat → Option Slot → List (Nat × Slot)
  | [], code, some slot => [(code, slot)]
  | [], _, none => []
  | e :: m, code, entry =>
    if code < e.1 then
      match entry with
      | some slot => (code, slot) :: e :: m
      | none => e :: m
    else if code = e.1 then
      match entry with
      | some slot => (code, slot) :: m
      | none => m
    else e :: mapSet m code entry

/-! ### Content on the link (R212) and digest (R64) -/

def meterFields (m : Meter) : List Field :=
  [.u32 m.kx, .u8 m.mode.code, .u8 m.width.code, .u8 m.phaseErrorLimit, .u32 m.cutoff, .u32 m.maxRate, .s32 m.tSub,
   .u16 m.pSub]

def curveFields (c : Curve) : List Field := listField c (fun p => [.u32 p.rate, .u32 p.mf])

def productFields (p : Product) : List Field :=
  [.text p.name, .s32 p.tb, .u16 p.alpha, .s32 p.beta, .u16 p.f, .u16 p.density, .u8 p.densitySource.code,
   .u8 p.swSource.code, .u16 p.swSub]

/-- An entry of the product map: 0 to 7 are the slots, 8 is NONE. -/
def mapEntryField (e : Option Slot) : Field :=
  match e with
  | some slot => .u8 slot.val
  | none => .u8 8

def proverFields (p : ProverParams) : List Field :=
  [.u32 p.bpv, .u16 p.gamma, .s32 p.tref, .s32 p.tpSub, .u16 p.ppSub, .u8 p.k, .u8 p.maxAttempts, .u16 p.repeatLimit,
   .u16 p.deviationLimit, .u8 p.stabilityLimit, .u8 p.valveTimeout, .u8 p.passTimeout,
   .u8 (if p.autoAccept then 0 else 1)]

/-- The fields of STATION in the order of its table. DEDUCED (log entry 22): the grab volume, a figure in litres with
a stated range, takes 4 bytes, here and in a STAGE ITEM. -/
def stationFields (p : StationParams) : List Field :=
  [.u8 p.staleTimeout, .u16 p.holdLimit, .u32 p.grabVolume, .u16 p.grabWidth, .u16 p.grabInterval, .u16 p.canCapacity,
   flagField p.activeLow.toList]

/-- The content fields of a section as READ SECTION carries them (R212). -/
def sectionContent (p : Params) : SectionRef → List Field
  | .meter r => meterFields p.meter[r]
  | .curves r => p.curves[r].toList.flatMap curveFields
  | .products => p.products.toList.flatMap productFields
  | .productMap => (List.range 256).map (fun code => mapEntryField (mapSlot? p.productMap code))
  | .prover => proverFields p.prover
  | .station => stationFields p.station

/-- The digest of a section: the CRC-16 over its content fields (R64). -/
def sectionDigest (p : Params) (ref : SectionRef) : BitVec 16 := crc16 (fieldBytes (sectionContent p ref))

/-! ### Reading an item (R54, R212) -/

def readMeterItem : List Byte → Parse StageEntry :=
  readThen (readUnsigned 4) fun kx =>
  readThen (readUnsigned 1) fun mode =>
  readThen (readUnsigned 1) fun width =>
  readThen (readUnsigned 1) fun limit =>
  readThen (readUnsigned 4) fun cutoff =>
  readThen (readUnsigned 4) fun maxRate =>
  readThen readSigned fun tSub =>
  readThen (readUnsigned 2) fun pSub =>
  readNothing (.meter ⟨kx, mode, width, limit, cutoff, maxRate, tSub, pSub⟩)

def readPoint : List Byte → Parse CurvePoint :=
  readThen (readUnsigned 4) fun rate =>
  readThen (readUnsigned 4) fun mf =>
  readNothing ⟨rate, mf⟩

/-- A slot number and one curve, its point count 0 to 6; no fields can follow another count (R54). -/
def readCurveItem : List Byte → Parse StageEntry :=
  readThen (readUnsigned 1) fun slot =>
  readThen (readUnsigned 1) fun count =>
  if count ≤ 6 then readThen (readEntries readPoint count) fun points => readNothing (.curve slot points)
  else fun _ => .short

/-- A text counts at most 16 characters (R208). -/
def readShortText : List Byte → Parse Text :=
  readThen (readUnsigned 1) fun count => if count ≤ 16 then readBytes count else fun _ => .short

def readProductItem : List Byte → Parse StageEntry :=
  readThen (readUnsigned 1) fun slot =>
  readThen readShortText fun name =>
  readThen readSigned fun tb =>
  readThen (readUnsigned 2) fun alpha =>
  readThen readSigned fun beta =>
  readThen (readUnsigned 2) fun f =>
  readThen (readUnsigned 2) fun density =>
  readThen (readUnsigned 1) fun densitySource =>
  readThen (readUnsigned 1) fun swSource =>
  readThen (readUnsigned 2) fun swSub =>
  readNothing (.product ⟨slot, name, tb, alpha, beta, f, density, densitySource, swSource, swSub⟩)

def readMappingItem : List Byte → Parse StageEntry :=
  readThen (readUnsigned 1) fun code =>
  readThen (readUnsigned 1) fun entry =>
  readNothing (.mapping code entry)

def readProverItem : List Byte → Parse StageEntry :=
  readThen (readUnsigned 4) fun bpv =>
  readThen (readUnsigned 2) fun gamma =>
  readThen readSigned fun tref =>
  readThen readSigned fun tpSub =>
  readThen (readUnsigned 2) fun ppSub =>
  readThen (readUnsigned 1) fun k =>
  readThen (readUnsigned 1) fun maxAttempts =>
  readThen (readUnsigned 2) fun repeatLimit =>
  readThen (readUnsigned 2) fun deviationLimit =>
  readThen (readUnsigned 1) fun stabilityLimit =>
  readThen (readUnsigned 1) fun valveTimeout =>
  readThen (readUnsigned 1) fun passTimeout =>
  readThen (readUnsigned 1) fun autoAccept =>
  readNothing (.prover ⟨bpv, gamma, tref, tpSub, ppSub, k, maxAttempts, repeatLimit, deviationLimit, stabilityLimit,
    valveTimeout, passTimeout, autoAccept⟩)

def readStationItem : List Byte → Parse StageEntry :=
  readThen (readUnsigned 1) fun staleTimeout =>
  readThen (readUnsigned 2) fun holdLimit =>
  readThen (readUnsigned 4) fun grabVolume =>
  readThen (readUnsigned 2) fun grabWidth =>
  readThen (readUnsigned 2) fun grabInterval =>
  readThen (readUnsigned 2) fun canCapacity =>
  readThen (readUnsigned 2) fun polarity =>
  readNothing (.station ⟨staleTimeout, holdLimit, grabVolume, grabWidth, grabInterval, canCapacity, polarity⟩)

/-- The item that a body holds, if it has the shape of the open kind: every field present and nothing after. DEDUCED
(log entry 17). -/
def itemOfBody? (kind : SectionKind) (body : List Byte) : Option StageEntry :=
  let parsed := match kind with
    | .meter => readMeterItem body
    | .curves => readCurveItem body
    | .products => readProductItem body
    | .productMap => readMappingItem body
    | .prover => readProverItem body
    | .station => readStationItem body
  match parsed with
  | .done e [] => some e
  | .done _ (_ :: _) => none
  | .short => none
  | .either _ _ => none

/-! ### Validity (section 3.2), judged at the commit -/

/-- The meter record that an item gives, if valid (R47). -/
def MeterItem.valid? (m : MeterItem) : Option Meter :=
  match PulseMode.ofCode? m.mode, FilterWidth.ofCode? m.width with
  | some mode, some width =>
    if 1000 ≤ m.kx ∧ m.kx ≤ 99999999 ∧ m.phaseErrorLimit ≤ 255 ∧ m.cutoff ≤ 99998 ∧ 1 ≤ m.maxRate ∧ m.maxRate ≤ 99999
        ∧ m.cutoff < m.maxRate ∧ -2000 ≤ m.tSub ∧ m.tSub ≤ 12000 ∧ m.pSub ≤ 10000 then
      some ⟨m.kx, mode, width, m.phaseErrorLimit, m.cutoff, m.maxRate, m.tSub, m.pSub⟩
    else none
  | _, _ => none

/-- The rates are strictly increasing (R48). -/
def ratesRise : Curve → Bool
  | [] => true
  | [_] => true
  | p :: q :: ps => decide (p.rate < q.rate) && ratesRise (q :: ps)

/-- A point within its valid values (R48). -/
def CurvePoint.valid (p : CurvePoint) : Bool :=
  decide (1 ≤ p.rate ∧ p.rate ≤ Config.maxPointRate ∧ 950000 ≤ p.mf ∧ p.mf ≤ 1050000)

/-- A valid curve (R48): 0 to 6 points, strictly increasing rates, every rate and MF within its valid values. -/
def curveValid (c : Curve) : Bool := decide (c.length ≤ 6) && ratesRise c && c.all CurvePoint.valid

/-- The slot that a number names. -/
def slotOfNumber? (n : Nat) : Option Slot := allEight[n]?

/-- The slot and content that a PRODUCTS item gives, if valid (R49). -/
def ProductItem.valid? (p : ProductItem) : Option (Slot × Product) :=
  match slotOfNumber? p.slot, DensitySource.ofCode? p.densitySource, SwSource.ofCode? p.swSource with
  | some slot, some densitySource, some swSource =>
    if p.name.length ≤ 12 ∧ p.name.all printable = true ∧ 0 ≤ p.tb ∧ p.tb ≤ 3000 ∧ 1 ≤ p.alpha ∧ p.alpha ≤ 20000
        ∧ -5000 ≤ p.beta ∧ p.beta ≤ 5000 ∧ p.f ≤ 2000 ∧ 6000 ≤ p.density ∧ p.density ≤ 10500 ∧ p.swSub ≤ 5000 then
      some (slot, ⟨p.name, p.tb, p.alpha, p.beta, p.f, p.density, densitySource, swSource, p.swSub⟩)
    else none
  | _, _, _ => none

/-- The entry that a product map item gives, if valid: 0 to 7 a slot, 8 NONE (R50, R212). -/
def mapEntry? (entry : Nat) : Option (Option Slot) :=
  if entry = 8 then some none else (slotOfNumber? entry).map some

/-- on, off: numbered in R51's order. -/
def onOff? : Nat → Option Bool
  | 0 => some true
  | 1 => some false
  | _ => none

/-- The prover record that an item gives, if valid (R51). -/
def ProverItem.valid? (p : ProverItem) : Option ProverParams :=
  match onOff? p.autoAccept with
  | none => none
  | some autoAccept =>
    if 100000 ≤ p.bpv ∧ p.bpv ≤ 99999999 ∧ p.gamma ≤ 1000 ∧ -2000 ≤ p.tref ∧ p.tref ≤ 12000 ∧ -2000 ≤ p.tpSub
        ∧ p.tpSub ≤ 12000 ∧ p.ppSub ≤ 10000 ∧ 2 ≤ p.k ∧ p.k ≤ 10 ∧ p.k ≤ p.maxAttempts ∧ p.maxAttempts ≤ 20
        ∧ p.repeatLimit ≤ 5000 ∧ p.deviationLimit ≤ 20000 ∧ 1 ≤ p.stabilityLimit ∧ p.stabilityLimit ≤ 100
        ∧ 5 ≤ p.valveTimeout ∧ p.valveTimeout ≤ 120 ∧ 10 ≤ p.passTimeout ∧ p.passTimeout ≤ 200 then
      some ⟨p.bpv, p.gamma, p.tref, p.tpSub, p.ppSub, p.k, p.maxAttempts, p.repeatLimit, p.deviationLimit,
        p.stabilityLimit, p.valveTimeout, p.passTimeout, autoAccept⟩
    else none

/-- The polarities of the eleven outputs in R52's order: a set bit is active low. DEDUCED (log entry 14). -/
def polarityOf (n : Nat) : Vector Bool 11 :=
  #v[n.testBit 0, n.testBit 1, n.testBit 2, n.testBit 3, n.testBit 4, n.testBit 5, n.testBit 6, n.testBit 7,
     n.testBit 8, n.testBit 9, n.testBit 10]

/-- The station record that an item gives, if valid (R52). -/
def StationItem.valid? (p : StationItem) : Option StationParams :=
  if 2 ≤ p.staleTimeout ∧ p.staleTimeout ≤ 30 ∧ 10 ≤ p.holdLimit ∧ p.holdLimit ≤ 600 ∧ 10 ≤ p.grabVolume
      ∧ p.grabVolume ≤ 100000 ∧ 50 ≤ p.grabWidth ∧ p.grabWidth ≤ 1000 ∧ 500 ≤ p.grabInterval ∧ p.grabInterval ≤ 30000
      ∧ p.grabWidth ≤ p.grabInterval ∧ 1 ≤ p.canCapacity ∧ p.canCapacity ≤ 60000 ∧ p.polarity < 2048 then
    some ⟨p.staleTimeout, p.holdLimit, p.grabVolume, p.grabWidth, p.grabInterval, p.canCapacity, polarityOf p.polarity⟩
  else none

/-! ### Forming the new content (R47 to R52, R57) -/

/-- A whole meter record set for each of the runs. -/
def Params.setMeters (p : Params) (runs : List Run) (m : Meter) : Params :=
  { p with meter := runs.foldl (fun xs (r : Run) => xs.set r m) p.meter }

/-- One slot's curve replaced in one run. -/
def Params.setCurve (p : Params) (r : Run) (slot : Slot) (c : Curve) : Params :=
  { p with curves := modAt p.curves r (fun cs => cs.set slot c) }

/-- One slot's curve replaced in each of the runs. -/
def Params.setCurves (p : Params) (runs : List Run) (slot : Slot) (c : Curve) : Params :=
  runs.foldl (fun p r => p.setCurve r slot c) p

/-- One item applied to the content; none when it breaks a validity condition. -/
def Params.applyItem (p : Params) (runs : List Run) : StageEntry → Option Params
  | .meter m => m.valid?.map (p.setMeters runs)
  | .curve slot points =>
    match slotOfNumber? slot with
    | none => none
    | some sl => if curveValid points then some (p.setCurves runs sl points) else none
  | .product item => item.valid?.map (fun x => { p with products := p.products.set x.1 x.2 })
  | .mapping code entry => (mapEntry? entry).map (fun e => { p with productMap := mapSet p.productMap code e })
  | .prover item => item.valid?.map (fun x => { p with prover := x })
  | .station item => item.valid?.map (fun x => { p with station := x })

/-- The items applied in order. -/
def Params.applyItems (p : Params) (runs : List Run) : List StageEntry → Option Params
  | [] => some p
  | e :: es =>
    match p.applyItem runs e with
    | none => none
    | some p1 => p1.applyItems runs es

/-- The slot or code that an item addresses. -/
def StageEntry.address : StageEntry → Nat
  | .meter _ => 0
  | .curve slot _ => slot
  | .product p => p.slot
  | .mapping code _ => code
  | .prover _ => 0
  | .station _ => 0

/-- The new content of every target section (R57, step 4): none when an item is invalid or two address one slot or
code. -/
def Params.newContent? (p : Params) (st : Staging) : Option Params :=
  if (st.items.map StageEntry.address).Nodup then p.applyItems (runsOf (st.runs.getD noRuns)) st.items else none

/-! ### The seal and the holds -/

/-- The seal state is the filtered level of SEAL (R61). -/
def State.seal (s : State) : SealState := if s.sealInput.filtered then .closed else .opened

/-- The lock flag of a section. -/
def State.locked (s : State) (ref : SectionRef) : Bool := s.locks[ref.number]

/-- A section is held against commits while a prove that uses it is in progress (R59). -/
def State.heldByProve (s : State) (ref : SectionRef) : Bool :=
  match s.psq.state with
  | .idle => false
  | _ =>
    match ref with
    | .prover => true
    | .meter r => decide (s.psq.run = some r)
    | .curves r => decide (s.psq.run = some r)
    | .products => false
    | .productMap => false
    | .station => false

/-! ### Staging (R53 to R58) -/

/-- The most items that a staging of a kind announces (R44). -/
def itemLimit : SectionKind → Nat
  | .meter => 1 | .curves => 8 | .products => 8 | .productMap => 16 | .prover => 1 | .station => 1

/-- Kinds that belong to runs. -/
def kindHasRuns : SectionKind → Bool
  | .meter => true | .curves => true | .products => false | .productMap => false | .prover => false
  | .station => false

/-- The run set fits the kind: present and not empty for METER and CURVES, absent for the others (R53). -/
def runSetFits (kind : SectionKind) (runs : Option RunSet) : Bool :=
  match runs with
  | none => !kindHasRuns kind
  | some rs => kindHasRuns kind && !(runsOf rs).isEmpty

/-- STAGE OPEN (R53). -/
def takeStageOpen (kind : SectionKind) (runs : Option RunSet) (count : Nat) (s : State) : State × Reply :=
  if runSetFits kind runs && decide (1 ≤ count ∧ count ≤ itemLimit kind) then
    ({ s with staging := some ⟨kind, runs, count, [], s.now + Config.stagingTime⟩ }, .justOk)
  else refuse s .badParam

/-- STAGE ITEM (R54). DEDUCED (log entry 22): no rule states the range of the number of items held, which the announced
count bounds, so it takes 2 bytes (R208). -/
def takeStageItem (body : List Byte) (s : State) : State × Reply :=
  match s.staging with
  | none => refuse s .notAllowed
  | some st =>
    match itemOfBody? st.kind body with
    | none => refuse s .badParam
    | some item =>
      if st.announced ≤ st.items.length then ({ s with staging := none }, ⟨.stageError, []⟩)
      else
        ({ s with staging := some { st with items := st.items ++ [item], deadline := s.now + Config.stagingTime } },
          .okWith [.u16 (st.items.length + 1)])

/-- STAGE CANCEL (R56). -/
def takeStageCancel (s : State) : State × Reply :=
  match s.staging with
  | none => refuse s .notAllowed
  | some _ => ({ s with staging := none }, .justOk)

/-- The inactivity deadline is reached (R55). -/
def stagingExpiry (s : State) : State :=
  match s.staging with
  | none => s
  | some st => { s.atMoment st.deadline with staging := none }.addFlag .stagingAbandoned

/-- The SECTION_COMMIT entries, one for each target section in order (R58). -/
def State.auditCommit (s : State) (old : Params) : List SectionRef → State
  | [] => s
  | ref :: refs =>
    (s.appendAudit (.sectionCommit ref.number.val (sectionDigest old ref) (sectionDigest s.params ref))).auditCommit
      old refs

/-- A successful commit (R58). -/
def State.applyCommit (s : State) (new : Params) (targets : List SectionRef) : State × Reply :=
  (({ s with params := new, staging := none }).auditCommit s.params targets,
    .okWith (listField targets (fun ref => [.u8 ref.number.val, .u16 (sectionDigest new ref).toNat])))

/-- STAGE COMMIT (R57): the checks in order; after every outcome the staging is discarded. -/
def takeStageCommit (s : State) : State × Reply :=
  match s.staging with
  | none => refuse s .notAllowed
  | some st =>
    if st.items.length < st.announced then ({ s with staging := none }, ⟨.stageError, []⟩)
    else if decide (s.seal = .closed) && (targetSections st.kind st.runs).any s.locked then
      ({ s with staging := none }, ⟨.isSealed, []⟩)
    else if (targetSections st.kind st.runs).any s.heldByProve then ({ s with staging := none }, ⟨.busy, []⟩)
    else
      match s.params.newContent? st with
      | none => ({ s with staging := none }, ⟨.badParam, []⟩)
      | some new => s.applyCommit new (targetSections st.kind st.runs)

/-! ### Locks (R62) and READ SECTION (R64) -/

/-- LOCK SECTION (R62). -/
def takeLockSection (number : Nat) (s : State) : State × Reply :=
  match sectionOfNumber? number with
  | none => refuse s .badParam
  | some ref =>
    match s.seal with
    | .closed => refuse s .isSealed
    | .opened =>
      if s.locked ref then (s, .justOk)
      else ({ s with locks := s.locks.set ref.number true }.appendAudit (.lock number), .justOk)

/-- The numbers of the locked sections, rising. -/
def State.lockedNumbers (s : State) : List Nat := (allSections.filter s.locked).map (fun ref => ref.number.val)

/-- UNLOCK ALL (R62). -/
def takeUnlockAll (s : State) : State × Reply :=
  match s.seal with
  | .closed => refuse s .isSealed
  | .opened =>
    ({ s with locks := Vector.replicate 12 false }.appendAudit (.unlockAll s.lockedNumbers), .justOk)

/-- READ SECTION (R64, R212). -/
def takeReadSection (number : Nat) (s : State) : State × Reply :=
  match sectionOfNumber? number with
  | none => refuse s .badParam
  | some ref =>
    (s, .okWith ([.u8 number, markField (s.locked ref), .u16 (sectionDigest s.params ref).toNat]
      ++ sectionContent s.params ref))

/-! ### The seal input (R61) -/

/-- The filter accepts a change of the seal state. -/
def sealAccept (s : State) : State :=
  match s.sealInput.since with
  | none => s
  | some t =>
    let s1 := { s.atMoment (t + Config.slowFilter) with sealInput := s.sealInput.accept }
    let s2 := { s1.appendAudit (.sealChange s.seal s1.seal false) with recordedSeal := s1.seal }
    s2.setAlarm (.station .sealOpen) (decide (s2.seal = .opened))

/-- A raw change of SEAL; a change that has held for the filter width is taken before it. -/
def sealInputTo (closed : Bool) (s : State) : State :=
  let s1 := if s.sealInput.held Config.slowFilter s.now then sealAccept s else s
  { s1 with sealInput := s1.sealInput.change closed s1.now }

/-! ### The commands -/

def execStageOpen (kind : SectionKind) (runs : Option RunSet) (count : Nat) (s : State) :
    Host.Outcome State Fault Refusal :=
  .next (s.request (takeStageOpen kind runs count))

def execStageItem (body : List Byte) (s : State) : Host.Outcome State Fault Refusal :=
  .next (s.request (takeStageItem body))

def execStageCommit (s : State) : Host.Outcome State Fault Refusal := .next (s.request takeStageCommit)

def execStageCancel (s : State) : Host.Outcome State Fault Refusal := .next (s.request takeStageCancel)

def execStagingInactivityExpiry (s : State) : Host.Outcome State Fault Refusal := .next (s.event stagingExpiry)

def execLockSection (number : Nat) (s : State) : Host.Outcome State Fault Refusal :=
  .next (s.request (takeLockSection number))

def execUnlockAll (s : State) : Host.Outcome State Fault Refusal := .next (s.request takeUnlockAll)

def execReadSection (number : Nat) (s : State) : Host.Outcome State Fault Refusal :=
  .next (s.request (takeReadSection number))

/-- The level of a pin changes whether or not the module takes events; while it takes none, no change is timed. -/
def execSealInputChange (closed : Bool) (s : State) : Host.Outcome State Fault Refusal :=
  match s.phase with
  | .running => .next (s.event (sealInputTo closed))
  | _ => .next { s with sealInput := s.sealInput.follow closed }

def execSealChange (s : State) : Host.Outcome State Fault Refusal := .next (s.event sealAccept)

end Sys2Proof.Machine
end

