-- ==== Sys2Proof/Machine/Flags.lean ====
section
/-! DEFINITION. The flag sets: of a period record (R82), of a batch (R124) and of events (R195), their union, and the two
bytes in which the link carries them (R208, R212). -/

namespace Sys2Proof.Machine

/-- The bits of a record's flag set in R82's order. -/
def RecordFlags.bits (f : RecordFlags) : List Bool :=
  [f.mfDefault, f.unverifiedPulses, f.countSaturated, f.ctlClamped, f.cplClamped, f.valueHeld, f.valueSubstituted,
   f.valueClamped, f.valueOverride]

/-- The union of two record flag sets (R124). -/
def RecordFlags.union (f g : RecordFlags) : RecordFlags where
  mfDefault := f.mfDefault || g.mfDefault
  unverifiedPulses := f.unverifiedPulses || g.unverifiedPulses
  countSaturated := f.countSaturated || g.countSaturated
  ctlClamped := f.ctlClamped || g.ctlClamped
  cplClamped := f.cplClamped || g.cplClamped
  valueHeld := f.valueHeld || g.valueHeld
  valueSubstituted := f.valueSubstituted || g.valueSubstituted
  valueClamped := f.valueClamped || g.valueClamped
  valueOverride := f.valueOverride || g.valueOverride

/-- The bits of a batch's flag set: the record flags, then SAMPLING_OFF, ARCHIVE_WAIT, TARGET_REACHED (R212). -/
def BatchFlags.bits (f : BatchFlags) : List Bool :=
  f.record.bits ++ [f.samplingOff, f.archiveWait, f.targetReached]

/-- The bits of the event flag set in R195's order. -/
def EventFlags.bits (f : EventFlags) : List Bool :=
  [f.batchClosed, f.ticketStored, f.proveFinished, f.alarmChanged, f.slowdownReached, f.targetReached,
   f.stagingAbandoned, f.restarted]

/-- Whether any of the values used carries the quality (R36). -/
def anyQuality (q : Quality) (vs : List ValueUsed) : Bool := vs.any (fun v => decide (v.quality = q))

/-- The flags of a period record (R82). -/
def recordFlags (h : Handover) (curveEmpty ctlClamped cplClamped : Bool) (used : List ValueUsed) : RecordFlags where
  mfDefault := curveEmpty
  unverifiedPulses := decide (h.pulseState = .singleAOnly ∨ h.pulseState = .singleBOnly)
  countSaturated := h.saturated
  ctlClamped := ctlClamped
  cplClamped := cplClamped
  valueHeld := anyQuality .held used
  valueSubstituted := anyQuality .substituted used
  valueClamped := anyQuality .liveClamped used
  valueOverride := anyQuality .overridden used

end Sys2Proof.Machine
end

