-- ==== Sys2Proof/Machine/Tickets.lean ====
section
/-! DEFINITION. Building a ticket from a batch (section 6.6) and the Ticket Archive's own operations that other blocks
cause (Chapter 9): starting a write, suspending and resuming an erase, and the reclaim test. -/

namespace Sys2Proof.Machine

/-! ### Averages and units -/

/-- A flow-weighted average: the sum divided by Σ IV, rounded half away; absent while Σ IV is 0 (R93). -/
def average? (sum iv : Int) : Option Int := if iv = 0 then none else some (roundHalfAway sum iv.toNat)

/-- Litres truncated from millilitres, and kilograms truncated from grams (section 5.1). -/
def thousandth (n : Nat) : Nat := n / 1000

/-- Water in litres: GSV less NSV in millilitres, then truncated (R96, R122). -/
def waterLitres (q : Quantities) : Nat := thousandth (q.gsv - q.nsv)

/-! ### The ticket (R122, R123) -/

/-- The run entry of a contribution, with the run's cumulative totals at the close. -/
def runEntry (c : Contribution) (cum : CumulativeTotals) : RunEntry where
  run := c.run
  openIV := thousandth c.openIV
  closeIV := thousandth c.closeIV
  ivRollovers := cum.iv.rollovers
  openGSV := thousandth c.openGSV
  closeGSV := thousandth c.closeGSV
  gsvRollovers := cum.gsv.rollovers
  iv := thousandth c.totals.iv
  gv := thousandth c.totals.gv
  gsv := thousandth c.totals.gsv
  nsv := thousandth c.totals.nsv
  mass := thousandth c.totals.mass
  t := average? c.sums.t c.sums.iv
  p := average? c.sums.p c.sums.iv
  mf := average? c.sums.mf c.sums.iv
  ctl := average? c.sums.ctl c.sums.iv
  cpl := average? c.sums.cpl c.sums.iv

/-- The ticket of a batch as it stands at the close. -/
def buildTicket (number : Nat) (b : Batch) (name : Text) (cums : PerRun CumulativeTotals) : Ticket where
  number := number
  batchId := b.record.id
  vessel := b.record.vessel
  code := b.record.code
  slot := b.slot
  name := name
  startTime := b.startTime
  endTime := b.endTime.getD 0
  endReason := b.endReason.getD .request
  iv := thousandth b.totals.iv
  gv := thousandth b.totals.gv
  gsv := thousandth b.totals.gsv
  nsv := thousandth b.totals.nsv
  water := waterLitres b.totals
  mass := thousandth b.totals.mass
  t := average? b.sums.t b.sums.iv
  p := average? b.sums.p b.sums.iv
  sw := average? b.sumSW b.sums.iv
  rho := average? b.sumRho b.sums.iv
  ccf := average? b.sums.ccf b.sums.iv
  entries := (b.contributions.filter (fun c => decide (0 < c.totals.iv))).map (fun c => runEntry c cums[c.run])
  due := b.sampling.due
  taken := b.sampling.taken
  missed := b.sampling.missed
  can := b.can
  mfChanges := b.mfChanges
  flags := b.flags

/-! ### Archive memory -/

def State.modArchive (s : State) (f : Archive → Archive) : State := { s with archive := f s.archive }

def Archive.modSector (a : Archive) (i : Sector) (f : ArchiveSector → ArchiveSector) : Archive :=
  { a with sectors := modAt a.sectors i f }

def ArchiveSector.setSlot (x : ArchiveSector) (j : Sector) (st : SlotState) : ArchiveSector :=
  { x with slots := x.slots.set j st }

/-- The lowest-numbered EMPTY slot of a sector. -/
def ArchiveSector.emptySlot? (x : ArchiveSector) : Option Sector := allEight.find? (fun j => decide (x.slots[j] = .empty))

/-- The sectors in ring order after a sector, the sector itself last (R173). -/
def ringAfter (i : Sector) : List Sector := [i + 1, i + 2, i + 3, i + 4, i + 5, i + 6, i + 7, i]

/-- How many sectors are ERASED. -/
def Archive.erasedCount (a : Archive) : Nat := allEight.countP (fun i => decide (a.sectors[i].state = .erased))

/-- The slot of the OPEN sector that a write takes (R173, case 1). -/
def Archive.openSlot? (a : Archive) : Option (Sector × Sector) :=
  match allEight.find? (fun i => decide (a.sectors[i].state = .opened)) with
  | none => none
  | some i => a.sectors[i].emptySlot?.map (fun j => (i, j))

/-- The sector that a write opens (R173, case 2). -/
def Archive.sectorToOpen? (a : Archive) : Option Sector :=
  (ringAfter a.newest).find? (fun i => decide (a.sectors[i].state = .erased))

/-- The sector becomes OPEN and takes the open counter. -/
def Archive.openSector (a : Archive) (i : Sector) : Archive :=
  { a.modSector i (fun x => { x with state := .opened, openNumber := some a.openCounter }) with
    openCounter := a.openCounter + 1 }

/-- The slot and the archive in which a write starts: the OPEN sector's lowest EMPTY slot, or slot 0 of the ERASED
sector that is opened; none when no slot is free (R173). -/
def Archive.chooseSlot? (a : Archive) : Option (Archive × Sector × Sector) :=
  match a.openSlot? with
  | some (i, j) => some (a, i, j)
  | none =>
    match a.sectorToOpen? with
    | some i => some (a.openSector i, i, 0)
    | none => none

/-- The slot becomes WRITING, its sector the newest, and FULL when it was the last EMPTY slot (R173). -/
def Archive.beginWrite (a : Archive) (i j : Sector) : Archive :=
  { a.modSector i (fun x =>
      let y := x.setSlot j .writing
      if y.emptySlot?.isNone then { y with state := .full } else y) with
    newest := i }

/-! ### Erase progress (R177) -/

/-- A write's start suspends the erase in progress, which keeps the erasing time that remains. -/
def State.suspendErase (s : State) : State :=
  match s.erase with
  | none => s
  | some e =>
    match e.since with
    | none => s
    | some t =>
      { s.modArchive (fun a => a.modSector e.sector (fun x => { x with state := .eraseSuspended })) with
        erase := some { e with remaining := e.remaining - (s.now - t), since := none } }

/-- A suspended erase resumes when no write has started. -/
def State.resumeErase (s : State) : State :=
  match s.write, s.erase with
  | none, some e =>
    match e.since with
    | some _ => s
    | none =>
      { s.modArchive (fun a => a.modSector e.sector (fun x => { x with state := .erasing })) with
        erase := some { e with since := some s.now } }
  | none, none => s
  | some _, _ => s

/-! ### Starting a write (R173) -/

/-- The head of the pending queue becomes WRITING or QUEUED. -/
def markHead (writing : Bool) : List PendingTicket → List PendingTicket
  | [] => []
  | p :: ps => { p with writing := writing } :: ps

/-- The write of the head ticket starts in a slot. DESIGN CHOICE (log entry 20): the sender says when the write
completes. -/
def State.startWrite (s : State) (a : Archive) (i j : Sector) : State :=
  let s1 := { s with
    archive := a.beginWrite i j
    write := some ⟨i, j⟩
    ret := { s.ret with pendingTickets := markHead true s.ret.pendingTickets } }
  (s1.clearAlarm (.station .archiveFull)).suspendErase

/-- The TAR tries to start a write: the head ticket is QUEUED and no write is in flight (R173). -/
def State.tryStartWrite (s : State) : State :=
  match s.ret.pendingTickets, s.write with
  | p :: _, none =>
    if p.writing then s
    else
      match s.archive.chooseSlot? with
      | some (a, i, j) => s.startWrite a i j
      | none => s.raiseAlarm (.station .archiveFull)
  | [], _ => s
  | _ :: _, some _ => s

/-! ### Reclaim (R176) -/

/-- Of two sectors, the first was opened earlier: open numbers are compared as R9 compares ticks. -/
def Archive.openedBefore (a : Archive) (i j : Sector) : Bool :=
  match a.sectors[i].openNumber, a.sectors[j].openNumber with
  | some m, some n => decide (m ≠ n) && atOrAfter n m
  | none, _ => false
  | some _, none => false

/-- The FULL sector whose open number is lowest. -/
def Archive.oldestFull? (a : Archive) : Option Sector :=
  (allEight.filter (fun i => decide (a.sectors[i].state = .full))).foldl
    (fun best i =>
      match best with
      | none => some i
      | some j => if a.openedBefore i j then some i else some j)
    none

/-- A slot whose ticket is no longer needed. -/
def SlotState.released : SlotState → Bool
  | .retrieved _ => true
  | .defective => true
  | .empty => false
  | .writing => false
  | .valid _ => false

/-- The reclaim test: the oldest FULL sector starts its erase when every condition of R176 holds. -/
def State.testReclaim (s : State) : State :=
  match s.archive.oldestFull? with
  | none => s
  | some i =>
    if s.erase.isNone && s.write.isNone && decide (s.archive.erasedCount < 2)
        && s.archive.sectors[i].slots.toList.all SlotState.released then
      { s.modArchive (fun a => a.modSector i (fun x => { x with state := .erasing })) with
        erase := some ⟨i, Config.eraseTime, some s.now⟩ }
    else s

end Sys2Proof.Machine
end

