-- ==== Sys2Proof/Machine/Batches.lean ====
section
/-! DEFINITION. The Batch Controller (Chapter 6): the batch set and its requests, the end moment, the close test and
the close of a batch, and the end and target tests that a crediting makes. -/

namespace Sys2Proof.Machine

/-! ### The close test (R119 to R121) -/

/-- The entries of the owed-grab queue that name a batch (R157). -/
def State.queuedGrabs (s : State) (id : Nat) : Nat := s.smc.queue.countP (fun e => decide (e.batchId = id))

/-- The number after a ticket number: after the last one the counter becomes 0 (R121). -/
def nextTicketNumber (n : Nat) : Nat := if n = Config.top32 then 0 else n + 1

/-- The batch closes: it takes the ticket counter's number, which becomes the number mark (R172); its ticket joins the
pending queue; it leaves the ending list; BATCH_CLOSED is set (R121). A ticket joining the queue is a reason to start
a write (R172). -/
def State.closeBatch (s : State) (b : Batch) : State :=
  let number := s.ret.ticketCounter
  let ticket := buildTicket number b s.params.products[b.slot].name s.ret.runTotals
  let s1 := s.modArchive (fun a => { a with numberMark := number })
  let s2 := s1.modRet (fun ret =>
    { ret with
      ticketCounter := nextTicketNumber number
      pendingTickets := ret.pendingTickets ++ [⟨ticket, false⟩]
      ending := ret.ending.filter (fun x => decide (x.record.id ≠ b.record.id)) })
  (s2.addFlag .batchClosed).tryStartWrite

/-- The first two conditions of R119: no run is owing and no owed grab names the batch. -/
def State.readyToClose (s : State) (b : Batch) : Bool :=
  (runsOf b.owing).isEmpty && decide (s.queuedGrabs b.record.id = 0)

/-- The pending ticket queue has a free place. -/
def State.pendingHasPlace (s : State) : Bool := decide (s.ret.pendingTickets.length < Config.pendingLimit)

/-- ARCHIVE_WAIT joins the flag set of a batch that waits on the archive alone (R119). -/
def Batch.waitsOnArchive (b : Batch) : Batch := { b with flags := { b.flags with archiveWait := true } }

/-- The close test of one ENDING batch (R119). -/
def State.closeTest (s : State) (b : Batch) : State :=
  if s.readyToClose b then
    if s.pendingHasPlace then if s.ret.ticketCounter = 0 then s else s.closeBatch b
    else s.modBatch b.record.id Batch.waitsOnArchive
  else s

/-- The ENDING batches are tested oldest first, each closed before the next is tested (R120). -/
def State.closeTests (s : State) : State := s.ret.ending.foldl State.closeTest s

/-! ### The end moment (R108, R111) -/

/-- The owing runs at an end moment: the runs IN_SERVICE, less a run whose final partial period is being credited. -/
def State.owingAtEnd (s : State) (leaving : Option Run) : RunSet :=
  match leaving with
  | none => s.runsInService
  | some r => s.runsInService.set r false

/-- The ACTIVE batch becomes ENDING. -/
def State.endActive (s : State) (b : Batch) (reason : EndReason) (leaving : Option Run) : State :=
  s.modRet (fun ret =>
    { ret with
      active := none
      endPending := false
      ending := ret.ending ++
        [{ b with endTime := some s.clock, endReason := some reason, owing := s.owingAtEnd leaving }] })

/-! ### Activation (R107) -/

/-- The can that receives the batch's grabs: the one named, or the selected one. -/
def State.resolveCan (s : State) (rec : BatchRecord) : Can := (rec.can.bind canOfNumber?).getD s.ret.selectedCan

/-- A batch at its activation: the running state of R103 at its initial values. -/
def newBatch (rec : BatchRecord) (slot : Slot) (can : Can) (start : Seconds) : Batch where
  record := rec
  slot := slot
  can := can
  startTime := start
  totals := .zero
  sums := .zero
  sumSW := 0
  sumRho := 0
  contributions := []
  flags := .none
  sampling := ⟨0, 0, 0, 0⟩
  mfChanges := 0
  endTime := none
  endReason := none
  owing := noRuns

/-- The batch at the head of the queue is activated. -/
def State.activate (s : State) (rec : BatchRecord) (slot : Slot) : State :=
  (s.modRet (fun ret =>
    { ret with
      queue := ret.queue.tail
      active := some (newBatch rec slot (s.resolveCan rec) s.clock)
      endPending := false
      lastSlot := slot
      slowdown := false
      stop := false })).clearAlarm (.station .flowNoBatch)

/-- The head of the queue with the slot its code maps to, if it can be started (R107). -/
def State.startable? (s : State) : Option (BatchRecord × Slot) :=
  match s.ret.queue with
  | [] => none
  | rec :: _ => (mapSlot? s.params.productMap rec.code).map (fun slot => (rec, slot))

/-! ### Requests (R105 to R110) -/

/-- A field of the record is within its valid values (R102). -/
def batchFieldsValid (b : BatchRecord) : Bool :=
  decide (1 ≤ b.id ∧ b.id ≤ 999999) && decide (b.code ≤ 255)
    && (match b.vessel with
        | none => true
        | some t => decide (1 ≤ t.length ∧ t.length ≤ 16) && t.all printable)
    && (match b.target with
        | none => b.margin.isNone
        | some t => decide (1 ≤ t ∧ t ≤ 999999999) && (match b.margin with
            | none => true
            | some m => decide (m < t)))
    && (match b.density with
        | none => true
        | some d => decide (6000 ≤ d ∧ d ≤ 10500))
    && (match b.can with
        | none => true
        | some c => decide (c = 1 ∨ c = 2))

/-- The batch id is held by a QUEUED, ACTIVE or ENDING batch (R105). -/
def State.holdsBatchId (s : State) (id : Nat) : Bool :=
  s.ret.queue.any (fun b => decide (b.id = id)) || (s.heldBatch? id).isSome

/-- BATCH QUEUE ADD (R105). DEDUCED (log entry 22): no rule states the range of the position, so it takes 2 bytes
(R208). -/
def takeBatchQueueAdd (rec : BatchRecord) (s : State) : State × Reply :=
  if !batchFieldsValid rec then refuse s .badParam
  else if s.holdsBatchId rec.id then refuse s .duplicate
  else if Config.queueLimit ≤ s.ret.queue.length then refuse s .full
  else if (mapSlot? s.params.productMap rec.code).isNone then refuse s .notFound
  else
    (s.modRet (fun ret => { ret with queue := ret.queue ++ [rec] }), .okWith [.u16 (s.ret.queue.length + 1)])

/-- BATCH QUEUE REMOVE (R106). -/
def takeBatchQueueRemove (id : Nat) (s : State) : State × Reply :=
  if 1 ≤ id ∧ id ≤ 999999 then
    if s.ret.queue.any (fun b => decide (b.id = id)) then
      (s.modRet (fun ret => { ret with queue := ret.queue.filter (fun b => decide (b.id ≠ id)) }), .justOk)
    else refuse s .notFound
  else refuse s .badParam

/-- The reply of an activation: the batch id, the slot and the can (R107). -/
def startReply (rec : BatchRecord) (slot : Slot) (can : Can) : List Field :=
  [.u32 rec.id, .u8 slot.val, .u8 (canNumber can)]

/-- BATCH START (R107). -/
def takeBatchStart (s : State) : State × Reply :=
  if s.ret.active.isSome then refuse s .notAllowed
  else
    match s.startable? with
    | none => refuse s .notFound
    | some (rec, slot) => (s.activate rec slot, .okWith (startReply rec slot (s.resolveCan rec)))

/-- The reply of an end: the batch id and the owing runs (R108). DEDUCED (log entry 22): the owing runs are one run
set. -/
def State.endReply (s : State) (b : Batch) : List Field := [.u32 b.record.id, runSetField (s.owingAtEnd none)]

/-- BATCH END (R108). -/
def takeBatchEnd (s : State) : State × Reply :=
  match s.ret.active with
  | none => refuse s .notAllowed
  | some b =>
    if Config.endingLimit ≤ s.ret.ending.length then refuse s .full
    else ((s.endActive b .request none).closeTests, .okWith (s.endReply b))

/-- BATCH CHANGE (R109): the end and the start in one event, refused whole. -/
def takeBatchChange (s : State) : State × Reply :=
  match s.ret.active with
  | none => refuse s .notAllowed
  | some b =>
    if Config.endingLimit ≤ s.ret.ending.length then refuse s .full
    else
      match s.startable? with
      | none => refuse s .notFound
      | some (rec, slot) =>
        ((s.endActive b .change none).closeTests.activate rec slot,
          .okWith (s.endReply b ++ startReply rec slot (s.resolveCan rec)))

/-- A batch record as given (R102, R110). DEDUCED (log entry 22): the target and the margin, figures in litres with a
stated range, take 4 bytes. -/
def recordFields (b : BatchRecord) : List Field :=
  [.u32 b.id, .u8 b.code] ++ optField b.vessel (fun t => [.text t]) ++ optField b.target (fun n => [.u32 n])
    ++ optField b.margin (fun n => [.u32 n]) ++ optField b.density (fun n => [.u16 n])
    ++ optField b.can (fun n => [.u8 n])

/-- BATCH LIST (R110). DEDUCED (log entry 22): the owing runs are one run set; the number of owed grabs queued, a count
without a stated range, takes 2 bytes; and the fields of the ACTIVE batch, the end-pending mark among them, share one
presence byte. -/
def takeBatchList (s : State) : State × Reply :=
  (s, .okWith
    (listField s.ret.queue recordFields
      ++ optField s.ret.active (fun b =>
          [.u32 b.record.id, .u8 b.record.code, .u8 b.slot.val, .u8 (canNumber b.can), .u32 b.startTime,
           markField s.ret.endPending, flagField b.flags.bits])
      ++ listField s.ret.ending (fun b =>
          [.u32 b.record.id, .u8 b.record.code, .u8 b.slot.val, .u32 (b.endTime.getD 0),
           .u8 (b.endReason.getD .request).code, runSetField b.owing, .u16 (s.queuedGrabs b.record.id),
           flagField b.flags.bits])
      ++ [markField s.ret.slowdown, markField s.ret.stop, .u8 s.ret.lastSlot.val]))

/-! ### The target tests of a crediting (R115 to R117) -/

/-- The slowdown point in mL: (target − margin) × 1,000, or target × 1,000 without a margin (R115). -/
def slowdownPoint (target : Nat) (margin : Option Nat) : Nat := (target - margin.getD 0) * 1000

/-- The slowdown test of a crediting to the ACTIVE batch (R115). -/
def State.slowdownTest (s : State) (b : Batch) : State :=
  match b.record.target with
  | none => s
  | some target =>
    if slowdownPoint target b.record.margin ≤ b.totals.nsv ∧ s.ret.slowdown = false then
      (s.modRet (fun ret => { ret with slowdown := true })).addFlag .slowdownReached
    else s

/-- The ACTIVE batch becomes ENDING with reason TARGET if an ENDING place is free; else its end-pending mark is set
(R116, R117). -/
def State.endForTarget (s : State) (b : Batch) (leaving : Option Run) : State :=
  if s.ret.ending.length < Config.endingLimit then s.endActive b .target leaving
  else s.modRet (fun ret => { ret with endPending := true })

/-- TARGET_REACHED joins the flag set of a batch (R116). -/
def Batch.reachedTarget (b : Batch) : Batch := { b with flags := { b.flags with targetReached := true } }

/-- The target test of a crediting to the ACTIVE batch (R116), and the end-pending test of a later one (R117). -/
def State.targetTest (s : State) (b : Batch) (leaving : Option Run) : State :=
  match b.record.target with
  | none => s
  | some target =>
    if s.ret.endPending then s.endForTarget b leaving
    else if target * 1000 ≤ b.totals.nsv ∧ b.flags.targetReached = false then
      let s1 := (s.modBatch b.record.id Batch.reachedTarget).modRet (fun ret => { ret with stop := true })
      (s1.addFlag .targetReached).endForTarget b.reachedTarget leaving
    else s

/-- Both tests, made only when the credited batch is ACTIVE at the moment of crediting (R115). -/
def State.batchTests (s : State) (target : CreditTarget) (leaving : Option Run) : State :=
  match target, s.ret.active with
  | .batch id, some b => if b.record.id = id then (s.slowdownTest b).targetTest b leaving else s
  | .batch _, none => s
  | .unbatched, _ => s

/-! ### The commands -/

def execBatchQueueAdd (record : BatchRecord) (s : State) : Host.Outcome State Fault Refusal :=
  .next (s.request (takeBatchQueueAdd record))

def execBatchQueueRemove (id : Nat) (s : State) : Host.Outcome State Fault Refusal :=
  .next (s.request (takeBatchQueueRemove id))

def execBatchStart (s : State) : Host.Outcome State Fault Refusal := .next (s.request takeBatchStart)

def execBatchEnd (s : State) : Host.Outcome State Fault Refusal := .next (s.request takeBatchEnd)

def execBatchChange (s : State) : Host.Outcome State Fault Refusal := .next (s.request takeBatchChange)

def execBatchList (s : State) : Host.Outcome State Fault Refusal := .next (s.request takeBatchList)

end Sys2Proof.Machine
end

