-- ==== Sys2Proof/Machine/Arithmetic.lean ====
section
/-! DEFINITION. The correction arithmetic as pure functions: the ten stages of a period (section 4.3) and the factors
that a prove shares with them (R143). All of it is exact integer arithmetic; each rounding is the one its rule names. -/

namespace Sys2Proof.Machine

/-- A value held within two limits. -/
def clampInt (lo hi v : Int) : Int := if v < lo then lo else if hi < v then hi else v

/-! ### Stage 2, the flow rate (R70) -/

def flowRate (iv len : Nat) : Nat := if len = 0 then 0 else roundHalfUp (iv * 36) len

/-! ### Stage 3, the meter factor (R71, R72) -/

/-- The straight line from one point to the next at a rate between them; the quotient is rounded half away. -/
def interpolate (p1 p2 : CurvePoint) (q : Nat) : Nat :=
  ((p1.mf : Int) + roundHalfAway (((p2.mf : Int) - p1.mf) * ((q : Int) - p1.rate)) (p2.rate - p1.rate)).toNat

/-- The factor at a rate, from a point and the points after it in rising order of rate: held outside the points. -/
def curveFrom (p : CurvePoint) : List CurvePoint → Nat → Nat
  | [], _ => p.mf
  | p2 :: ps, q =>
    if p2.rate ≤ q then curveFrom p2 ps q
    else if q ≤ p.rate then p.mf
    else interpolate p p2 q

/-- The factor that a curve gives at a rate; none when it holds no points. -/
def curveFactor? (c : Curve) (q : Nat) : Option Nat :=
  match c with
  | [] => none
  | p :: ps => some (curveFrom p ps q)

/-- Stage 3: the curve's factor, or 1,000,000 when the curve holds no points (R72). -/
def meterFactor (c : Curve) (q : Nat) : Nat := (curveFactor? c q).getD 1000000

/-! ### Stages 4 to 6, the liquid corrections (R74 to R76) -/

/-- CTL before the clamp. -/
def ctlRaw (tb : Int) (alpha : Nat) (beta : Int) (t : Int) : Int :=
  1000000 + roundHalfAway (beta * (t - tb) ^ 2 - (alpha : Int) * (t - tb) * 10000) 10000000

/-- CTL, clamped to 900,000 to 1,100,000. -/
def ctlOf (tb : Int) (alpha : Nat) (beta : Int) (t : Int) : Nat :=
  (clampInt 900000 1100000 (ctlRaw tb alpha beta t)).toNat

/-- Stage 4 clamped CTL. -/
def ctlIsClamped (tb : Int) (alpha : Nat) (beta : Int) (t : Int) : Bool :=
  decide (ctlRaw tb alpha beta t < 900000 ∨ 1100000 < ctlRaw tb alpha beta t)

/-- CPL before the clamp; a pressure in kPa gauge is not negative. -/
def cplRaw (f : Nat) (p : Int) : Nat := 1000000 + roundHalfUp (f * p.toNat) 1000

/-- CPL, at most 1,050,000. -/
def cplOf (f : Nat) (p : Int) : Nat := min (cplRaw f p) 1050000

/-- Stage 5 clamped CPL. -/
def cplIsClamped (f : Nat) (p : Int) : Bool := decide (1050000 < cplRaw f p)

/-- CCF, half up and not clamped (R76). -/
def ccfOf (mf ctl cpl : Nat) : Nat := roundHalfUp (mf * ctl * cpl) 1000000000000

/-- CSW (R79). -/
def cswOf (sw : Int) : Nat := 1000000 - 10 * sw.toNat

/-! ### Stages 1, 7, 8, 9 and 10, floor with remainder (R69, R77 to R80) -/

/-- The dividend of stage 1, in nanopulses. -/
def ivDividend (good : Nat) (rem : Remainders) : Nat := good * 1000000000 + rem.rIV

/-- The five increments of a period from the pulses, the remainders carried in, and the factors. -/
def increments (good kx mf ccf csw rho : Nat) (rem : Remainders) : Quantities where
  iv := ivDividend good rem / kx
  gv := (ivDividend good rem / kx * mf + rem.rGV) / 1000000
  gsv := (ivDividend good rem / kx * ccf + rem.rGSV) / 1000000
  nsv := ((ivDividend good rem / kx * ccf + rem.rGSV) / 1000000 * csw + rem.rNSV) / 1000000
  mass := ((ivDividend good rem / kx * ccf + rem.rGSV) / 1000000 * rho + rem.rM) / 10000

/-- The five remainders that the same divisions leave. -/
def newRemainders (good kx mf ccf csw rho : Nat) (rem : Remainders) : Remainders where
  rIV := ivDividend good rem % kx
  rGV := (ivDividend good rem / kx * mf + rem.rGV) % 1000000
  rGSV := (ivDividend good rem / kx * ccf + rem.rGSV) % 1000000
  rNSV := ((ivDividend good rem / kx * ccf + rem.rGSV) / 1000000 * csw + rem.rNSV) % 1000000
  rM := ((ivDividend good rem / kx * ccf + rem.rGSV) / 1000000 * rho + rem.rM) % 10000

/-! ### The prover's factors (R142, R143) -/

/-- The mean of four samples, rounded half away. -/
def meanOf (vs : List Int) : Int := roundHalfAway vs.sum 4

/-- CTSp, clamped to 990,000 to 1,010,000. -/
def ctsOf (gamma : Nat) (tref tpMean : Int) : Nat :=
  (clampInt 990000 1010000 (1000000 + roundHalfAway ((gamma : Int) * (tpMean - tref)) 1000)).toNat

/-- The flow rate of a round trip (R142). -/
def tripRate (ni kx ticks : Nat) : Nat := roundHalfUp (ni * 36 * 1000000000) (kx * ticks)

/-- The intermediate meter factor (R143). -/
def tripFactor (bpv cts ctlP cplP kx ni ctlM cplM : Nat) : Nat :=
  roundHalfUp (bpv * cts * ctlP * cplP * kx) (ni * ctlM * cplM * 100000)

/-- The interpolated count of a pass, in 10⁻⁴ pulse (R139). -/
def passCount (n detectorTicks pulseTicks : Nat) : Nat := roundHalfUp (n * 10000 * detectorTicks) pulseTicks

/-- The distance between two figures. -/
def distance (a b : Nat) : Nat := (a - b) + (b - a)

end Sys2Proof.Machine
end

