-- ==== Sys2Proof/Machine/Values.lean ====
section
/-! DEFINITION. The Live Value Store (Chapter 2): arrivals, timers, overrides, the value in force, and the requests
LIVE VALUES, READ VALUES, OVERRIDE SET and OVERRIDE RELEASE. -/

namespace Sys2Proof.Machine

/-! ### The twelve values (R24) -/

/-- The lower limit of a value's accepted range. -/
def valueLow : ValueId → Int
  | .t _ => -2000 | .p _ => 0 | .tp => -2000 | .pp => 0 | .rho => 6000 | .sw => 0

/-- The upper limit of a value's accepted range. -/
def valueHigh : ValueId → Int
  | .t _ => 12000 | .p _ => 10000 | .tp => 12000 | .pp => 10000 | .rho => 10500 | .sw => 5000

/-- A value lies within its accepted range; a limit is within. -/
def valueInRange (v : ValueId) (x : Int) : Bool := decide (valueLow v ≤ x ∧ x ≤ valueHigh v)

/-- The quality alarm of a value (R39). -/
def qualityAlarm : ValueId → AlarmId
  | .t r => .run r .tQuality
  | .p r => .run r .pQuality
  | .tp => .station .tpQuality
  | .pp => .station .ppQuality
  | .rho => .station .rhoQuality
  | .sw => .station .swQuality

/-- The clamp alarm of a value; TP and PP have none (R40). -/
def clampAlarm? : ValueId → Option AlarmId
  | .t r => some (.run r .tClamped)
  | .p r => some (.run r .pClamped)
  | .tp => none
  | .pp => none
  | .rho => some (.station .rhoClamped)
  | .sw => some (.station .swClamped)

/-- The state of one value. -/
def State.value (s : State) (v : ValueId) : LiveValue := s.values[valueIndex v]

def State.modValue (s : State) (v : ValueId) (f : LiveValue → LiveValue) : State :=
  { s with values := modAt s.values (valueIndex v) f }

/-- A ladder quality as a quality in force. -/
def Ladder.toQuality : Ladder → Quality
  | .live => .live | .liveClamped => .liveClamped | .held => .held | .substituted => .substituted

/-- The quality in force: OVERRIDE while an override is present, and otherwise the ladder quality (R25). -/
def LiveValue.quality (v : LiveValue) : Quality :=
  match v.manual with
  | some _ => .overridden
  | none => v.ladder.toQuality

/-! ### The value in force (R33 to R36) -/

/-- The substitute of a value, resolved as it is read (R34). -/
def State.substitute (s : State) (ctx : SubstituteContext) : ValueId → Int
  | .t r => s.params.meter[r].tSub
  | .p r => s.params.meter[r].pSub
  | .tp => s.params.prover.tpSub
  | .pp => s.params.prover.ppSub
  | .rho => (ctx.density.getD s.params.products[ctx.slot].density : Nat)
  | .sw => (s.params.products[ctx.slot].swSub : Nat)

/-- The value in force with its quality in force (R33). -/
def State.valueInForce (s : State) (ctx : SubstituteContext) (v : ValueId) : ValueUsed :=
  match (s.value v).manual with
  | some x => ⟨x, .overridden⟩
  | none =>
    match (s.value v).ladder with
    | .substituted => ⟨s.substitute ctx v, .substituted⟩
    | .live => ⟨(s.value v).lastGood.getD (s.substitute ctx v), .live⟩
    | .liveClamped => ⟨(s.value v).lastGood.getD (s.substitute ctx v), .liveClamped⟩
    | .held => ⟨(s.value v).lastGood.getD (s.substitute ctx v), .held⟩

/-- The ρ that a run's period computation uses (R35). -/
def State.rhoUsed (s : State) (r : Run) : ValueUsed :=
  match s.params.products[s.productInForce r].densitySource with
  | .nominal => ⟨s.substitute (s.runContext r) .rho, .live⟩
  | .live => s.valueInForce (s.runContext r) .rho

/-- The SW that a run's period computation uses (R35). -/
def State.swUsed (s : State) (r : Run) : ValueUsed :=
  match s.params.products[s.productInForce r].swSource with
  | .zero => ⟨0, .live⟩
  | .live => s.valueInForce (s.runContext r) .sw

/-- The four values that a run's period computation uses: T, P, SW, ρ (R36). -/
def State.valuesUsed (s : State) (r : Run) : List ValueUsed :=
  [s.valueInForce (s.runContext r) (.t r), s.valueInForce (s.runContext r) (.p r), s.swUsed r, s.rhoUsed r]

/-- The summary flag VALUE_NOT_LIVE (R42). -/
def State.valueNotLive (s : State) (r : Run) : Bool := (s.valuesUsed r).any (fun v => decide (v.quality ≠ .live))

/-! ### Quality alarms (R39) -/

/-- The quality condition follows the quality in force: raised while it is HELD or SUBSTITUTED. -/
def State.syncQualityAlarm (s : State) (v : ValueId) : State :=
  s.setAlarm (qualityAlarm v) (decide ((s.value v).quality = .held ∨ (s.value v).quality = .substituted))

/-! ### Arrivals (R26 to R30) -/

/-- Both timers start again from a good arrival, with the STATION times as they stand (R27). -/
def State.restartTimers (s : State) (lv : LiveValue) : LiveValue :=
  { lv with
    stale := some (s.now + s.params.station.staleTimeout * Config.ticksPerSecond)
    hold := some (s.now + s.params.station.holdLimit * Config.ticksPerSecond)
    arrival := some s.now }

/-- An OK entry within range (R28). -/
def State.goodArrival (s : State) (v : ValueId) (x : Int) : State :=
  let s1 := s.modValue v (fun lv => { s.restartTimers lv with lastGood := some x, ladder := .live, clampRaised := false })
  let s2 := match clampAlarm? v with
    | some a => s1.clearAlarm a
    | none => s1
  s2.syncQualityAlarm v

/-- An OK entry outside the range: clamped to the nearer limit (R29). -/
def State.clampedArrival (s : State) (v : ValueId) (x : Int) : State :=
  let s1 := s.modValue v (fun lv =>
    { s.restartTimers lv with
      lastGood := some (clampInt (valueLow v) (valueHigh v) x)
      ladder := .liveClamped
      clampRaised := (clampAlarm? v).isSome })
  let s2 := match clampAlarm? v with
    | some a => s1.raiseAlarm a
    | none => s1
  s2.syncQualityAlarm v

/-- A LIVE or LIVE_CLAMPED value becomes HELD and its stale timer stops; another keeps its state. -/
def LiveValue.toHeld (lv : LiveValue) : LiveValue :=
  match lv.ladder with
  | .live => { lv with ladder := .held, stale := none }
  | .liveClamped => { lv with ladder := .held, stale := none }
  | .held => lv
  | .substituted => lv

/-- A FAULT entry (R30). -/
def State.faultArrival (s : State) (v : ValueId) : State := (s.modValue v LiveValue.toHeld).syncQualityAlarm v

/-- One entry of a LIVE VALUES request. -/
def State.applyEntry (s : State) (v : ValueId) (e : LiveEntry) : State :=
  match e.status with
  | .fault => s.faultArrival v
  | .ok => if valueInRange v e.value then s.goodArrival v e.value else s.clampedArrival v e.value

/-- The entries of a request that is not refused, in order. -/
def State.applyEntries (s : State) : List LiveEntry → State
  | [] => s
  | e :: es =>
    match valueOfIndex? e.index with
    | some v => (s.applyEntry v e).applyEntries es
    | none => s.applyEntries es

/-- No index is above 11 and none appears twice (R26, R41). -/
def indicesValid (is : List Nat) : Bool := is.all (fun i => decide (i ≤ 11)) && decide is.Nodup

/-- The reply of one entry: the index and the quality in force (R26). -/
def State.entryReply (s : State) (e : LiveEntry) : List Field :=
  match valueOfIndex? e.index with
  | some v => [.u8 e.index, .u8 (s.value v).quality.code]
  | none => []

/-- LIVE VALUES (R26). -/
def takeLiveValues (entries : List LiveEntry) (s : State) : State × Reply :=
  if entries.isEmpty || !indicesValid (entries.map LiveEntry.index) then refuse s .badParam
  else
    let s1 := s.applyEntries entries
    (s1, .okWith (listField entries s1.entryReply))

/-! ### Timers (R31, R32) -/

/-- The stale timer's expiry (R31). -/
def staleExpiry (v : ValueId) (s : State) : State :=
  match (s.value v).stale with
  | none => s
  | some d => ((s.atMoment d).modValue v (fun lv => { lv.toHeld with stale := none })).syncQualityAlarm v

/-- The hold timer's expiry (R32). -/
def holdExpiry (v : ValueId) (s : State) : State :=
  match (s.value v).hold with
  | none => s
  | some d =>
    ((s.atMoment d).modValue v (fun lv =>
      { lv with ladder := .substituted, stale := none, hold := none })).syncQualityAlarm v

/-! ### Overrides (R37, R38) -/

/-- OVERRIDE SET (R37). -/
def takeOverrideSet (index : Nat) (value : Int) (s : State) : State × Reply :=
  match valueOfIndex? index with
  | none => refuse s .badParam
  | some v =>
    if valueInRange v value then
      let before := s.valueInForce s.auditContext v
      let s1 := (s.modValue v (fun lv => { lv with manual := some value })).syncQualityAlarm v
      (s1.appendAudit (.overrideSet index before value), .justOk)
    else refuse s .badParam

/-- OVERRIDE RELEASE (R38). -/
def takeOverrideRelease (index : Nat) (s : State) : State × Reply :=
  match valueOfIndex? index with
  | none => refuse s .badParam
  | some v =>
    match (s.value v).manual with
    | none => refuse s .notAllowed
    | some x =>
      let s1 := (s.modValue v (fun lv => { lv with manual := none })).syncQualityAlarm v
      (s1.appendAudit (.overrideRelease index x (s1.valueInForce s1.auditContext v)), .justOk)

/-! ### Reading (R41) -/

/-- The age of a good arrival in whole seconds, holding at 65,535. -/
def State.ageOf (s : State) (m : Moment) : Nat := min 65535 ((s.now - m) / Config.ticksPerSecond)

/-- A figure of a value in the class of the value's accepted range (R208): the ranges of T and TP reach below 0, those of
P, PP, RHO and SW lie within 0 to 65,535. -/
def valueField (v : ValueId) (x : Int) : Field := if valueLow v < 0 then .s32 x else .u16 x.toNat

/-- A value used with its quality. -/
def usedFields (v : ValueId) (x : ValueUsed) : List Field := [valueField v x.value, .u8 x.quality.code]

/-- What READ VALUES gives of one value. -/
def State.valueReply (s : State) (v : ValueId) : List Field :=
  [.u8 (s.value v).quality.code, .u8 (s.value v).ladder.code]
    ++ optField (s.value v).lastGood (fun x => [valueField v x])
    ++ optField (s.value v).manual (fun x => [valueField v x])
    ++ optField (s.value v).arrival (fun m => [.u16 (s.ageOf m)])
    ++ [markField (s.value v).clampRaised]

/-- The values asked for, in index order. -/
def valuesAsked : ListMark → List Nat → List ValueId
  | .all, _ => allValues
  | .list, is => allValues.filter (fun v => is.contains (valueIndex v).val)

/-- READ VALUES (R41). -/
def takeReadValues (mark : ListMark) (indices : List Nat) (s : State) : State × Reply :=
  match mark with
  | .list =>
    if indices.isEmpty || !indicesValid indices then refuse s .badParam
    else (s, .okWith (listField (valuesAsked .list indices) s.valueReply))
  | .all =>
    if indices.isEmpty then (s, .okWith (listField (valuesAsked .all indices) s.valueReply))
    else refuse s .badParam

/-! ### The commands -/

def execLiveValues (entries : List LiveEntry) (s : State) : Host.Outcome State Fault Refusal :=
  .next (s.request (takeLiveValues entries))

def execStaleTimerExpiry (v : ValueId) (s : State) : Host.Outcome State Fault Refusal :=
  .next (s.event (staleExpiry v))

def execHoldTimerExpiry (v : ValueId) (s : State) : Host.Outcome State Fault Refusal :=
  .next (s.event (holdExpiry v))

def execReadValues (mark : ListMark) (indices : List Nat) (s : State) : Host.Outcome State Fault Refusal :=
  .next (s.request (takeReadValues mark indices))

def execOverrideSet (index : Nat) (value : Int) (s : State) : Host.Outcome State Fault Refusal :=
  .next (s.request (takeOverrideSet index value))

def execOverrideRelease (index : Nat) (s : State) : Host.Outcome State Fault Refusal :=
  .next (s.request (takeOverrideRelease index))

end Sys2Proof.Machine
end

