-- ==== Sys2Proof/Machine/Totals.lean ====
section
/-! DEFINITION. The snapshot latch and the reading of totals (section 5.4): FREEZE and READ TOTALS. -/

namespace Sys2Proof.Machine

/-! ### FREEZE (R95) -/

/-- The batches that hold totals, each with its state: the ACTIVE batch, then the ENDING batches in order. -/
def State.batchesHeld (s : State) : List (BatchState × Batch) :=
  s.ret.active.toList.map (fun b => (.active, b)) ++ s.ret.ending.map (fun b => (.ending, b))

/-- The snapshot of a FREEZE taken now (R95). -/
def State.takeSnapshot (s : State) : Snapshot where
  seq := s.snapshotSeq + 1
  time := s.clock
  runTotals := s.ret.runTotals
  pulseCounts := s.ret.pulseCounts
  station := s.ret.station
  unbatched := s.ret.unbatched
  batches := s.batchesHeld

/-- FREEZE (R95). -/
def takeFreeze (s : State) : State × Reply :=
  ({ s with snapshot := some s.takeSnapshot, snapshotSeq := s.snapshotSeq + 1 },
    .okWith [counterField (s.snapshotSeq + 1), .u32 s.clock])

/-! ### READ TOTALS (R96) -/

/-- A cumulative figure: the truncated total with its rollover count. -/
def cumulativeFields (c : Cumulative) : List Field := [.u64 (thousandth c.total), counterField c.rollovers]

def cumulativeTotalsFields (c : CumulativeTotals) : List Field :=
  cumulativeFields c.iv ++ cumulativeFields c.gv ++ cumulativeFields c.gsv ++ cumulativeFields c.nsv
    ++ cumulativeFields c.mass

def pulseCountFields (c : PulseCounts) : List Field := [.u64 c.good, .u64 c.reverse, .u64 c.phaseErrors]

/-- Litres and kilograms of the five quantities, then water (R96). -/
def quantityFields (q : Quantities) : List Field :=
  [.u64 (thousandth q.iv), .u64 (thousandth q.gv), .u64 (thousandth q.gsv), .u64 (thousandth q.nsv),
   .u64 (thousandth q.mass), .u64 (waterLitres q)]

/-- An average of a temperature, which is signed. -/
def signedAverage (a : Option Int) : List Field := optField a (fun v => [.s32 v])

/-- An average of a value of two bytes. -/
def shortAverage (a : Option Int) : List Field := optField a (fun v => [.u16 v.toNat])

/-- An average of a factor. -/
def factorAverage (a : Option Int) : List Field := optField a (fun v => [.u32 v.toNat])

/-- The averages T, P, MF, CTL, CPL and CCF. -/
def averageFields (x : Sums) : List Field :=
  signedAverage (average? x.t x.iv) ++ shortAverage (average? x.p x.iv) ++ factorAverage (average? x.mf x.iv)
    ++ factorAverage (average? x.ctl x.iv) ++ factorAverage (average? x.cpl x.iv)
    ++ factorAverage (average? x.ccf x.iv)

/-- A cumulative figure of a contribution in litres, with the rollover count of the run total. -/
def openCloseFields (opening closing : Nat) (rollovers : Counter) : List Field :=
  [.u64 (thousandth opening), counterField rollovers, .u64 (thousandth closing), counterField rollovers]

/-- A run contribution (R96), with the rollover counts that the source holds for its run. DEDUCED (log entry 22): those
counts, and the order opening IV, closing IV, opening GSV, closing GSV. -/
def contributionFields (cums : PerRun CumulativeTotals) (c : Contribution) : List Field :=
  [.u8 (runNumber c.run)] ++ openCloseFields c.openIV c.closeIV cums[c.run].iv.rollovers
    ++ openCloseFields c.openGSV c.closeGSV cums[c.run].gsv.rollovers ++ quantityFields c.totals ++ averageFields c.sums

/-- The part BATCH of a source. -/
def batchTotalsFields (cums : PerRun CumulativeTotals) (x : BatchState × Batch) : List Field :=
  [.u32 x.2.record.id, .u8 x.1.code, .u8 x.2.record.code, .u8 x.2.slot.val]
    ++ quantityFields x.2.totals ++ averageFields x.2.sums ++ shortAverage (average? x.2.sumSW x.2.sums.iv)
    ++ shortAverage (average? x.2.sumRho x.2.sums.iv) ++ listField x.2.contributions (contributionFields cums)

/-- What a source holds: for LIVE the state as it stands, for SNAPSHOT the latch. -/
def State.totalsSource? (s : State) : TotalsSource → Option Snapshot
  | .live => some s.takeSnapshot
  | .snapshot => s.snapshot

/-- The header: the mark LIVE, or the snapshot sequence number and time (R96). DEDUCED (log entry 22): the mark SNAPSHOT
stands before the two. -/
def totalsHeader (source : TotalsSource) (x : Snapshot) : List Field :=
  match source with
  | .live => [.u8 0]
  | .snapshot => [.u8 1, counterField x.seq, .u32 x.time]

/-- The part STATION of a source. -/
def stationTotalsFields (x : Snapshot) : List Field :=
  cumulativeTotalsFields x.station ++ cumulativeTotalsFields x.unbatched
    ++ listField x.batches (fun b => [.u32 b.2.record.id, .u8 b.1.code])

/-- The part RUN of a source. -/
def runTotalsFields (x : Snapshot) (r : Run) : List Field :=
  cumulativeTotalsFields x.runTotals[r] ++ pulseCountFields x.pulseCounts[r]

/-- The status or the fields of a part of a source: the fields that the part does not use must be absent and the one
that it needs present (R96, R213). -/
def readPart (x : Snapshot) (part : TotalsPart) (run batchId : Option Nat) : Status × List Field :=
  match part, run, batchId with
  | .station, none, none => (.ok, stationTotalsFields x)
  | .run, some n, none =>
    match runOfNumber? n with
    | some r => (.ok, runTotalsFields x r)
    | none => (.badParam, [])
  | .batch, none, some id =>
    match x.batches.find? (fun b => decide (b.2.record.id = id)) with
    | some b => (.ok, batchTotalsFields x.runTotals b)
    | none => (.notFound, [])
  | .station, _, _ => (.badParam, [])
  | .run, _, _ => (.badParam, [])
  | .batch, _, _ => (.badParam, [])

/-- The fields of the request fit its part (R213), and a run number is 1 to 4 (R96). -/
def partFits (part : TotalsPart) (run batchId : Option Nat) : Bool :=
  match part with
  | .station => run.isNone && batchId.isNone
  | .run => (run.bind runOfNumber?).isSome && batchId.isNone
  | .batch => run.isNone && batchId.isSome

/-- READ TOTALS (R96). DESIGN CHOICE (log entry 30): where several refusals apply, a malformed request comes first,
then an EMPTY latch, then an id that the source does not hold. -/
def takeReadTotals (source : TotalsSource) (part : TotalsPart) (run batchId : Option Nat) (s : State) :
    State × Reply :=
  if partFits part run batchId then
    match s.totalsSource? source with
    | none => refuse s .noSnapshot
    | some x =>
      match readPart x part run batchId with
      | (.ok, fields) => (s, .okWith (totalsHeader source x ++ fields))
      | (st, _) => refuse s st
  else refuse s .badParam

/-! ### The commands -/

def execFreeze (s : State) : Host.Outcome State Fault Refusal := .next (s.request takeFreeze)

def execReadTotals (source : TotalsSource) (part : TotalsPart) (run batchId : Option Nat) (s : State) :
    Host.Outcome State Fault Refusal :=
  .next (s.request (takeReadTotals source part run batchId))

end Sys2Proof.Machine
end

