-- ==== Sys2Proof/Machine/ArchiveCommands.lean ====
section
/-! DEFINITION. The Ticket Archive and the Audit Trail (Chapter 9): the completions of a write and an erase, and the requests
TICKET READ, TICKET ACK, ARCHIVE STATUS and AUDIT READ. -/

namespace Sys2Proof.Machine

/-! ### Completions (R174, R175, R178) -/

/-- What follows every write completion: the next write is tried, a suspended erase resumes when none has started, and
reclaim is tested (R174, R175). -/
def State.afterWrite (s : State) : State := (s.tryStartWrite.resumeErase).testReclaim

/-- A good write completion (R174). -/
def State.storeTicket (s : State) (w : WriteInFlight) (t : Ticket) (rest : List PendingTicket) : State :=
  let s1 := { s with
    archive := s.archive.modSector w.sector (fun x => x.setSlot w.slot (.valid t))
    write := none
    ret := { s.ret with pendingTickets := rest } }
  ((s1.addFlag .ticketStored).closeTests).afterWrite

/-- A write completion whose read-back does not agree (R175). -/
def State.defectWrite (s : State) (w : WriteInFlight) : State :=
  let s1 := { s with
    archive := s.archive.modSector w.sector (fun x => x.setSlot w.slot .defective)
    write := none
    ret := { s.ret with pendingTickets := markHead false s.ret.pendingTickets } }
  s1.afterWrite

/-- The completion of a ticket write; its read-back agrees or not. -/
def writeCompletion (agrees : Bool) (s : State) : State :=
  match s.write, s.ret.pendingTickets with
  | some w, p :: rest => if agrees then s.storeTicket w p.ticket rest else s.defectWrite w
  | some _, [] => s
  | none, _ => s

/-- The completion of an erase that is running (R178). -/
def eraseCompletion (s : State) : State :=
  match s.erase with
  | none => s
  | some e =>
    match e.since with
    | none => s
    | some t =>
      (({ s.atMoment (t + e.remaining) with
          archive := { s.archive with sectors := s.archive.sectors.set e.sector .erased }
          erase := none }).tryStartWrite).testReclaim

/-! ### Finding a ticket (R171, R179) -/

/-- The ticket that a slot holds. -/
def SlotState.ticket? : SlotState → Option Ticket
  | .valid t => some t
  | .retrieved t => some t
  | .empty => none
  | .writing => none
  | .defective => none

/-- The sectors whose tickets are in the archive: OPEN or FULL. -/
def SectorState.holdsTickets : SectorState → Bool
  | .opened => true
  | .full => true
  | .erased => false
  | .erasing => false
  | .eraseSuspended => false

/-- Every slot of the archive by its sector and its number in the sector. -/
def allSlots : List (Sector × Sector) := allEight.flatMap (fun i => allEight.map (fun j => (i, j)))

/-- The state of a slot. -/
def Archive.slot (a : Archive) (ij : Sector × Sector) : SlotState := a.sectors[ij.1].slots[ij.2]

/-- The ticket in the archive that a slot holds. -/
def Archive.ticketAt? (a : Archive) (ij : Sector × Sector) : Option Ticket :=
  if a.sectors[ij.1].state.holdsTickets then (a.slot ij).ticket? else none

/-- The slot that holds a ticket number in the archive. -/
def Archive.findTicket? (a : Archive) (number : Nat) : Option (Sector × Sector) :=
  allSlots.find? (fun ij => decide ((a.ticketAt? ij).map Ticket.number = some number))

/-- The numbers of the tickets in the archive. -/
def Archive.ticketNumbers (a : Archive) : List Nat := allSlots.filterMap (fun ij => (a.ticketAt? ij).map Ticket.number)

/-- The pending ticket of a number. -/
def State.pendingTicket? (s : State) (number : Nat) : Option PendingTicket :=
  s.ret.pendingTickets.find? (fun p => decide (p.ticket.number = number))

/-! ### The ticket on the link (R122, R123, R212) -/

/-- A run entry: each cumulative figure is followed by its rollover count (R123, R212). DEDUCED (log entry 22): the four
figures stand in the order opening IV, closing IV, opening GSV, closing GSV. -/
def runEntryFields (e : RunEntry) : List Field :=
  [.u8 (runNumber e.run), .u64 e.openIV, counterField e.ivRollovers, .u64 e.closeIV, counterField e.ivRollovers,
   .u64 e.openGSV, counterField e.gsvRollovers, .u64 e.closeGSV, counterField e.gsvRollovers, .u64 e.iv, .u64 e.gv,
   .u64 e.gsv, .u64 e.nsv, .u64 e.mass]
    ++ signedAverage e.t ++ shortAverage e.p ++ factorAverage e.mf ++ factorAverage e.ctl ++ factorAverage e.cpl

/-- A ticket in the order of the table of R122. -/
def ticketFields (t : Ticket) : List Field :=
  [.u32 t.number, .u32 t.batchId] ++ optField t.vessel (fun v => [.text v])
    ++ [.u8 t.code, .u8 t.slot.val, .text t.name, .u32 t.startTime, .u32 t.endTime, .u8 t.endReason.code, .u64 t.iv,
        .u64 t.gv, .u64 t.gsv, .u64 t.nsv, .u64 t.water, .u64 t.mass]
    ++ signedAverage t.t ++ shortAverage t.p ++ shortAverage t.sw ++ shortAverage t.rho ++ factorAverage t.ccf
    ++ listField t.entries runEntryFields
    ++ [.u32 t.due, .u32 t.taken, .u32 t.missed, .u8 (canNumber t.can), .u16 t.mfChanges, flagField t.flags.bits]

/-- The status of a slot that holds a ticket: VALID, then RETRIEVED; PENDING is 2 (R212). -/
def SlotState.ticketStatus : SlotState → Nat
  | .retrieved _ => 1
  | .valid _ => 0
  | .empty => 0
  | .writing => 0
  | .defective => 0

/-- A sector or slot number, absent for a pending ticket. -/
def placeFields (place : Option Sector) : List Field := optField place (fun n => [.u8 n.val])

/-! ### Requests (R179 to R181) -/

/-- TICKET READ (R179). -/
def takeTicketRead (number : Nat) (s : State) : State × Reply :=
  if number = 0 then refuse s .badParam
  else
    match s.archive.findTicket? number with
    | some ij =>
      match (s.archive.slot ij).ticket? with
      | some t =>
        (s, .okWith ([.u8 (s.archive.slot ij).ticketStatus] ++ placeFields (some ij.1) ++ placeFields (some ij.2)
          ++ ticketFields t))
      | none => refuse s .notFound
    | none =>
      match s.pendingTicket? number with
      | some p => (s, .okWith ([.u8 2] ++ placeFields none ++ placeFields none ++ ticketFields p.ticket))
      | none => refuse s .notFound

/-- A VALID slot becomes RETRIEVED; another keeps its state. -/
def SlotState.retrieve : SlotState → SlotState
  | .valid t => .retrieved t
  | .retrieved t => .retrieved t
  | .empty => .empty
  | .writing => .writing
  | .defective => .defective

/-- TICKET ACK (R180). -/
def takeTicketAck (number : Nat) (s : State) : State × Reply :=
  if number = 0 then refuse s .badParam
  else
    match s.archive.findTicket? number with
    | some ij =>
      ((s.modArchive (fun a => a.modSector ij.1 (fun x => x.setSlot ij.2 x.slots[ij.2].retrieve))).testReclaim, .justOk)
    | none => if (s.pendingTicket? number).isSome then refuse s .notAllowed else refuse s .notFound

/-- The slots of the sectors that are ERASED, OPEN or FULL. -/
def Archive.countedSlots (a : Archive) : List SlotState :=
  (allSlots.filter (fun ij =>
    decide (a.sectors[ij.1].state = .erased) || a.sectors[ij.1].state.holdsTickets)).map a.slot

/-- The place of a slot state in R171's order. -/
def SlotState.code : SlotState → Nat
  | .empty => 0
  | .writing => 1
  | .valid _ => 2
  | .retrieved _ => 3
  | .defective => 4

/-- How many counted slots are in a state. -/
def Archive.countSlots (a : Archive) (code : Nat) : Nat := a.countedSlots.countP (fun x => decide (x.code = code))

/-- The erasing time that remains, in whole milliseconds (R172, R177). DEDUCED (log entry 22). -/
def State.eraseRemaining (s : State) (e : EraseInProgress) : Nat :=
  match e.since with
  | none => e.remaining / Config.ticksPerMs
  | some t => (e.remaining - (s.now - t)) / Config.ticksPerMs

/-- A condition is raised while its alarm is ACTIVE_UNACK or ACTIVE_ACK (R189). -/
def State.alarmRaised (s : State) (a : AlarmId) : Bool :=
  match (s.alarm a).state with
  | .activeUnack => true
  | .activeAck => true
  | .normal => false
  | .returnedUnack => false

/-- The summary of slots and sectors of ARCHIVE STATUS. DEDUCED (log entry 22): counts of no stated range take 2
bytes. -/
def archiveFields (a : Archive) : List Field :=
  [.u16 (a.countSlots 0), .u16 (a.countSlots 1), .u16 (a.countSlots 2), .u16 (a.countSlots 3), .u16 (a.countSlots 4),
   .u16 (64 - a.countedSlots.length)]
    ++ a.sectors.toList.flatMap (fun x => .u8 x.state.code :: optField x.openNumber (fun n => [counterField n]))
    ++ [.u8 a.newest.val]
    ++ optField a.ticketNumbers.min? (fun n => [.u32 n]) ++ optField a.ticketNumbers.max? (fun n => [.u32 n])

/-- ARCHIVE STATUS (R181). DEDUCED (log entry 22): the erase and the write are each one presence byte before their
fields. -/
def takeArchiveStatus (s : State) : State × Reply :=
  (s, .okWith
    (archiveFields s.archive
      ++ optField s.erase (fun e =>
          [.u8 e.sector.val, .u8 s.archive.sectors[e.sector].state.code, .u16 (s.eraseRemaining e)])
      ++ optField s.write (fun w =>
          [.u8 w.sector.val, .u8 w.slot.val, .u32 ((s.ret.pendingTickets.head?.map (fun p => p.ticket.number)).getD 0)])
      ++ listField s.ret.pendingTickets (fun p => [.u32 p.ticket.number, .u8 (if p.writing then 1 else 0)])
      ++ [.u32 s.ret.ticketCounter, .u32 s.archive.numberMark,
          markField (s.alarmRaised (.station .archiveFull))]))

/-! ### AUDIT READ (R183) -/

def StartCause.warmCode : StartCause → Nat
  | .request => 1
  | .reset => 0
  | .retainedInvalid => 0

def StartCause.coldCode : StartCause → Nat
  | .request => 1
  | .reset => 0
  | .retainedInvalid => 0

/-- The place of an entry's kind in the table of R182. -/
def AuditBody.code : AuditBody → Nat
  | .coldStart _ => 0
  | .warmStart _ _ _ => 1
  | .sectionCommit _ _ _ => 2
  | .lock _ => 3
  | .unlockAll _ => 4
  | .sealChange _ _ _ => 5
  | .overrideSet _ _ _ => 6
  | .overrideRelease _ _ _ => 7
  | .proveAccepted _ _ _ _ => 8
  | .proveRejected _ _ _ _ => 9
  | .runService _ _ _ => 10
  | .timeSet _ _ => 11

/-- A subject or a detail of an audit entry, present or absent. -/
def detailField (o : Option (List Field)) : List Field := optField o (fun fs => fs)

/-- A figure of the value of an index, in the class of the value's range (R208). -/
def indexedField (i : Nat) (x : Int) : Field :=
  match valueOfIndex? i with
  | some v => valueField v x
  | none => .s32 x

/-- Subject, old detail and new detail of an entry (R182). DEDUCED (log entry 18): the old detail "inserted" of
PROVE_ACCEPTED is an absent old detail, and the new detail "none locked" of UNLOCK_ALL is a list of no sections. -/
def AuditBody.details : AuditBody → List Field
  | .coldStart c => detailField none ++ detailField none ++ detailField (some [.u8 c.coldCode])
  | .warmStart a b c => detailField none ++ detailField (some [.u32 a]) ++ detailField (some [.u32 b, .u8 c.warmCode])
  | .sectionCommit n a b =>
    detailField (some [.u8 n]) ++ detailField (some [.u16 a.toNat]) ++ detailField (some [.u16 b.toNat])
  | .lock n => detailField (some [.u8 n]) ++ detailField (some [markField false]) ++ detailField (some [markField true])
  | .unlockAll ns =>
    detailField none ++ detailField (some (listField ns (fun n => [.u8 n]))) ++ detailField (some [.u8 0])
  | .sealChange a b found =>
    detailField none ++ detailField (some [.u8 a.code]) ++ detailField (some [.u8 b.code, markField found])
  | .overrideSet i b v =>
    detailField (some [.u8 i]) ++ detailField (some [indexedField i b.value, .u8 b.quality.code])
      ++ detailField (some [indexedField i v])
  | .overrideRelease i v a =>
    detailField (some [.u8 i]) ++ detailField (some [indexedField i v])
      ++ detailField (some [indexedField i a.value, .u8 a.quality.code])
  | .proveAccepted r slot old new =>
    detailField (some [.u8 (runNumber r), .u8 slot.val])
      ++ detailField (old.map (fun p => [.u32 p.rate, .u32 p.mf])) ++ detailField (some [.u32 new.rate, .u32 new.mf])
  | .proveRejected r slot mf rate =>
    detailField (some [.u8 (runNumber r), .u8 slot.val]) ++ detailField none ++ detailField (some [.u32 mf, .u32 rate])
  | .runService r a b =>
    detailField (some [.u8 (runNumber r)]) ++ detailField (some [.u8 a.code]) ++ detailField (some [.u8 b.code])
  | .timeSet a b => detailField none ++ detailField (some [.u32 a]) ++ detailField (some [.u32 b])

/-- An audit entry on the link. -/
def auditFields (e : AuditEntry) : List Field :=
  [counterField e.seq, .u32 e.time, .u8 e.body.code] ++ e.body.details

/-- A number lies in the ring (R183). -/
def inRing (oldest newest n : Counter) : Bool := decide ((n - oldest).toNat ≤ (newest - oldest).toNat)

/-- A number lies at or beyond the next sequence number (R183). -/
def beyondNewest (newest n : Counter) : Bool := decide ((n - newest - 1).toNat < 2147483648)

/-- The entries that an AUDIT READ returns, and the mark GAP (R183). -/
def auditAnswer (entries : List AuditEntry) (start : Counter) : List AuditEntry × Bool :=
  match entries.head?, entries.getLast? with
  | some first, some last =>
    if inRing first.seq last.seq start then
      ((entries.filter (fun e => decide ((start - first.seq).toNat ≤ (e.seq - first.seq).toNat))).take
        Config.auditReadLimit, false)
    else if beyondNewest last.seq start then ([], false)
    else (entries.take Config.auditReadLimit, true)
  | _, _ => ([], false)

/-- AUDIT READ (R183). -/
def takeAuditRead (start : Counter) (s : State) : State × Reply :=
  (s, .okWith
    (listField (auditAnswer s.audit.entries start).1 auditFields
      ++ [markField (auditAnswer s.audit.entries start).2]
      ++ optField s.audit.entries.head? (fun e => [counterField e.seq])
      ++ optField s.audit.entries.getLast? (fun e => [counterField e.seq])
      ++ [counterField s.auditNext]))

/-! ### The commands -/

def execWriteCompletion (agrees : Bool) (s : State) : Host.Outcome State Fault Refusal :=
  .next (s.event (writeCompletion agrees))

def execEraseCompletion (s : State) : Host.Outcome State Fault Refusal := .next (s.event eraseCompletion)

def execTicketRead (number : Nat) (s : State) : Host.Outcome State Fault Refusal :=
  .next (s.request (takeTicketRead number))

def execTicketAck (number : Nat) (s : State) : Host.Outcome State Fault Refusal :=
  .next (s.request (takeTicketAck number))

def execArchiveStatus (s : State) : Host.Outcome State Fault Refusal := .next (s.request takeArchiveStatus)

def execAuditRead (start : Counter) (s : State) : Host.Outcome State Fault Refusal :=
  .next (s.request (takeAuditRead start))

end Sys2Proof.Machine
end

