-- ==== Sys2Proof/Machine/PulsePort.lean ====
section
/-! DEFINITION. What the Pulse Input Unit does for the Prover Sequencer (section 1.6): captures (R20) and the pass watch
(R21) of a run. -/

namespace Sys2Proof.Machine

/-- What a completed capture reports (R20). -/
structure CaptureReport where
  entry : HistoryEntry
  short : Bool
  deriving DecidableEq, Repr

/-- The oldest entry whose stamp is at or after a tick, short unless an older entry is not (R20); `reached` says whether
such an older entry has been seen. DESIGN CHOICE (log entry 31): where the oldest entry held is at or after the tick and a
newer one is not, which the comparison modulo 2³² allows and none of R20's three cases covers, the oldest entry is
reported at once and marked short. -/
def searchHistory (t : Stamp) : Bool → List HistoryEntry → Option CaptureReport
  | _, [] => none
  | reached, e :: es => if atOrAfter e.stamp t then some ⟨e, !reached⟩ else searchHistory t true es

/-- The PSQ arms a capture on a run at a tick: it completes at once from the stamp history, or it waits (R20). -/
def State.armCapture (s : State) (r : Run) (t : Stamp) : State × Option CaptureReport :=
  match searchHistory t false s.pulses[r].history with
  | some report => (s.modRun r (fun x => { x with capture := none }), some report)
  | none => (s.modRun r (fun x => { x with capture := some t }), none)

/-- The PSQ cancels a capture on a run. -/
def State.cancelCapture (s : State) (r : Run) : State := s.modRun r (fun x => { x with capture := none })

/-- The marks with which a pass watch opens at a tick (R21). -/
def RunPulse.openingMarks (x : RunPulse) (t : Stamp) : PassWatch where
  integrity :=
    (match x.lastPhaseError with
     | some e => atOrAfter e t
     | none => false)
    || decide (x.settings.mode = .dual ∧ x.pulseState ≠ .dualOk)
  reverse :=
    match x.lastReverse with
    | some e => atOrAfter e t
    | none => false

/-- The PSQ opens a pass watch on a run at a tick; one that is open is replaced (R21). -/
def State.openWatch (s : State) (r : Run) (t : Stamp) : State :=
  s.modRun r (fun x => { x with watch := some (x.openingMarks t) })

/-- The watch of a run is removed (R4, R21, R150). -/
def State.removeWatch (s : State) (r : Run) : State := s.modRun r (fun x => { x with watch := none })

/-- The marks that an open watch holds; none are set when no watch is open. -/
def State.watchMarks (s : State) (r : Run) : PassWatch := s.pulses[r].watch.getD ⟨false, false⟩

/-- The integrity mark of an open watch is set (R21). -/
def RunPulse.markIntegrity (x : RunPulse) : RunPulse :=
  { x with watch := x.watch.map (fun w => { w with integrity := true }) }

/-- The reverse mark of an open watch is set (R21). -/
def RunPulse.markReverse (x : RunPulse) : RunPulse :=
  { x with watch := x.watch.map (fun w => { w with reverse := true }) }

end Sys2Proof.Machine
end

