-- ==== Sys2Proof/Machine/Proving.lean ====
section
/-! DEFINITION. The Prover Sequencer (Chapter 7): routing and launching, passes and round trips, the judgement and
application of a result, failures, completions, the prover inputs and the PROVE requests. -/

namespace Sys2Proof.Machine

/-! ### States -/

/-- The states in which the prover is physically in use: from ROUTING to REV_TAIL (section 7.2). -/
def ProverState.proving : ProverState → Bool
  | .idle => false
  | .routing => true
  | .fwdLaunch => true
  | .fwdTravel => true
  | .fwdCount => true
  | .fwdTail => true
  | .revLaunch => true
  | .revTravel => true
  | .revCount => true
  | .revTail => true
  | .resultPending => false

/-- The proving states after ROUTING (R133). -/
def ProverState.afterRouting (p : ProverState) : Bool := p.proving && decide (p ≠ .routing)

/-- The prove run, or run 1 where no prove is served. -/
def State.proveRun (s : State) : Run := s.psq.run.getD 0

/-- The recorded slot, or slot 0 where no prove is served. -/
def State.proveSlot (s : State) : Slot := s.psq.slot.getD 0

/-- ROUTEr of a run is made inactive. -/
def ProverSeq.releaseRoute (x : ProverSeq) : ProverSeq := { x with route := noRuns }

/-- The valve, pass and tail timers are stopped. -/
def ProverSeq.stopTimers (x : ProverSeq) : ProverSeq :=
  { x with valveTimer := none, passTimer := none, tailTimer := none }

/-! ### Completion, failure, abort (R150, R152, R153) -/

/-- The last prove result that a completion writes, from the prove marker (R153). -/
def lastProveOf (m : ProveMarker) (time : Seconds) (attempts : Nat) (outcome : ProveOutcome) : LastProve where
  time := time
  startTime := m.startTime
  slot := m.slot
  attempts := attempts
  outcome := outcome

/-- The retained part of a completion: the prove run's last result is replaced and the marker cleared; and the event
flag PROVE_FINISHED is set (R153). -/
def State.recordOutcome (s : State) (attempts : Nat) (outcome : ProveOutcome) : State :=
  match s.ret.marker with
  | none => s.addFlag .proveFinished
  | some m =>
    (s.modRet (fun ret =>
      { ret with
        lastProve := ret.lastProve.set m.run (some (lastProveOf m s.clock attempts outcome))
        marker := none })).addFlag .proveFinished

/-- The PSQ enters IDLE: what is present only outside IDLE becomes absent, and the route is released (R128, R129). -/
def ProverSeq.toIdle (x : ProverSeq) : ProverSeq :=
  { x.stopTimers.releaseRoute with
    state := .idle
    run := none
    slot := none
    qstart := none
    pass := .none
    fwd := none
    samples := []
    result := none }

/-- A prove completes with an outcome (R153). -/
def State.completeProve (s : State) (outcome : ProveOutcome) : State :=
  (s.recordOutcome s.psq.attempts outcome).modPsq ProverSeq.toIdle

/-- A capture armed on the prove run is cancelled and an open pass watch removed, without a report (R150, R152). -/
def State.dropPass (s : State) : State := (s.cancelCapture s.proveRun).removeWatch s.proveRun

/-- A prove fails (R150). -/
def State.failProve (s : State) (cause : ProveCause) : State :=
  ((s.dropPass).raiseAlarm (.station .proveFailed)).completeProve (.failed cause)

/-! ### Launching (R131, R132) -/

/-- The forward launch condition. -/
def ProverSeq.fwdReady (x : ProverSeq) : Bool := x.valveFwd.filtered && !x.valveRev.filtered

/-- The reverse launch condition. -/
def ProverSeq.revReady (x : ProverSeq) : Bool := x.valveRev.filtered && !x.valveFwd.filtered

/-- The completion of a launch: the valve timer stops, the pass timer starts, and the sphere travels. -/
def State.completeLaunch (s : State) (travel : ProverState) : State :=
  s.modPsq (fun x =>
    { x with
      state := travel
      valveTimer := none
      passTimer := some (s.now + s.params.prover.passTimeout * Config.ticksPerSecond) })

/-- In a LAUNCH state whose condition holds, the launch completes. -/
def State.tryLaunch (s : State) : State :=
  match s.psq.state with
  | .fwdLaunch => if s.psq.fwdReady then s.completeLaunch .fwdTravel else s
  | .revLaunch => if s.psq.revReady then s.completeLaunch .revTravel else s
  | .idle => s
  | .routing => s
  | .fwdTravel => s
  | .fwdCount => s
  | .fwdTail => s
  | .revTravel => s
  | .revCount => s
  | .revTail => s
  | .resultPending => s

/-- The deadline of a valve timer started now. -/
def State.valveDeadline (s : State) : Moment := s.now + s.params.prover.valveTimeout * Config.ticksPerSecond

/-- The entry to a LAUNCH state: PROVER_DIR is set, the valve timer starts, and the launch completes at once when its
condition already holds (R132). -/
def State.enterLaunch (s : State) (reverse : Bool) : State :=
  (s.modPsq (fun x =>
    { x with
      state := if reverse then .revLaunch else .fwdLaunch
      dirReverse := reverse
      pass := .none
      valveTimer := some s.valveDeadline })).tryLaunch

/-- In ROUTING with ROUTE_OK active, the PSQ enters FWD_LAUNCH (R131). -/
def State.tryRoute (s : State) : State :=
  match s.psq.state with
  | .routing => if s.psq.routeOk.filtered then s.enterLaunch false else s
  | .idle => s
  | .fwdLaunch => s
  | .fwdTravel => s
  | .fwdCount => s
  | .fwdTail => s
  | .revLaunch => s
  | .revTravel => s
  | .revCount => s
  | .revTail => s
  | .resultPending => s

/-! ### Applying a result (R149) -/

/-- A point is near the prove rate: within ±5 % of it. -/
def nearRate (rate : Nat) (p : CurvePoint) : Bool := decide (20 * distance p.rate rate ≤ rate)

/-- The point nearest in rate, the lower on a tie, of points in rising order of rate. -/
def nearestPoint? (rate : Nat) : Curve → Option CurvePoint
  | [] => none
  | p :: ps =>
    match nearestPoint? rate ps with
    | none => some p
    | some q => if distance q.rate rate < distance p.rate rate then some q else some p

/-- A point inserted in order of rate. -/
def insertPoint (x : CurvePoint) : Curve → Curve
  | [] => [x]
  | p :: ps => if x.rate < p.rate then x :: p :: ps else p :: insertPoint x ps

/-- The point of a rate replaced by another point. -/
def replacePoint (old new : CurvePoint) (c : Curve) : Curve := c.map (fun p => if p = old then new else p)

/-- The point that the new one replaces, or none when it is inserted: the nearest of the near points, else, in a full
curve, the nearest point (R149). -/
def replacedPoint? (c : Curve) (rate : Nat) : Option CurvePoint :=
  match nearestPoint? rate (c.filter (nearRate rate)) with
  | some p => some p
  | none => if c.length < 6 then none else nearestPoint? rate c

/-- The new curve (R149). -/
def newCurveOf (c : Curve) (x : CurvePoint) : Curve :=
  match replacedPoint? c x.rate with
  | some p => replacePoint p x c
  | none => insertPoint x c

/-- One accepted result is added to the MF changes count, which holds at 65,535 (R103). -/
def Batch.countMFChange (b : Batch) : Batch := { b with mfChanges := min 65535 (b.mfChanges + 1) }

/-- The PSQ applies a result to the curve of the recorded slot of the prove run (R149). -/
def State.applyResult (s : State) (res : ProveResult) (who : AcceptedBy) : State :=
  let r := s.proveRun
  let slot := s.proveSlot
  let point : CurvePoint := ⟨res.rate, res.newMF⟩
  let curve := s.params.curves[r][slot]
  let s1 := { s with params := s.params.setCurve r slot (newCurveOf curve point) }
  let s2 := s1.appendAudit (.proveAccepted r slot (replacedPoint? curve res.rate) point)
  let s3 := match s2.batchInForce? r with
    | some b => s2.modBatch b.record.id Batch.countMFChange
    | none => s2
  s3.completeProve (.accepted who res)

/-! ### Judging the prove (R145, R146) -/

/-- The last `k` entries of a list. -/
def lastOf {α : Type} (k : Nat) (xs : List α) : List α := xs.drop (xs.length - k)

/-- The valid round trips with their figures, in order of number. -/
def validTrips (trips : List RoundTrip) : List (Nat × TripFigures) :=
  trips.filterMap (fun t => t.figures.map (fun f => (t.number, f)))

/-- The window: the last k valid records (R145). -/
def windowOf (k : Nat) (trips : List RoundTrip) : List (Nat × TripFigures) := lastOf k (validTrips trips)

/-- The highest of some figures. -/
def highest (xs : List Nat) : Nat := xs.foldl max 0

/-- The lowest of some figures. -/
def lowest : List Nat → Nat
  | [] => 0
  | x :: xs => xs.foldl min x

/-- The mean of some figures, rounded half up. -/
def meanUp (xs : List Nat) : Nat := roundHalfUp xs.sum xs.length

/-- The repeatability of a window in ppm (R145). -/
def repeatability (imfs : List Nat) : Nat := roundHalfUp ((highest imfs - lowest imfs) * 1000000) (lowest imfs)

/-- The result of a successful prove, against the curve as it stands now (R146). -/
def resultOf (window : List (Nat × TripFigures)) (curve : Curve) (deviationLimit : Nat) : ProveResult :=
  let imfs := window.map (fun w => w.2.imf)
  let newMF := meanUp imfs
  let rate := meanUp (window.map (fun w => w.2.qrun))
  let currentMF := curveFactor? curve rate
  { newMF := newMF
    rate := rate
    repeatability := repeatability imfs
    trips := window.map Prod.fst
    currentMF := currentMF
    newCurve := currentMF.isNone
    deviation := currentMF.map (fun c => roundHalfUp (distance newMF c * 1000000) c)
    deviates := match currentMF with
      | none => false
      | some c => decide (deviationLimit * c < distance newMF c * 1000000) }

/-- The result waits for PROVE ACCEPT or PROVE REJECT (R146, R147). -/
def State.holdResult (s : State) (res : ProveResult) : State :=
  (s.modPsq (fun x => { x.stopTimers.releaseRoute with state := .resultPending, result := some res })).modRet
    (fun ret => { ret with marker := ret.marker.map (fun m => { m with result := some res }) })

/-- The prove succeeds (R146): the result is applied at once, or waits. -/
def State.succeed (s : State) (window : List (Nat × TripFigures)) : State :=
  let res := resultOf window s.params.curves[s.proveRun][s.proveSlot] s.params.prover.deviationLimit
  if s.params.prover.autoAccept && !res.newCurve && !res.deviates then s.applyResult res .auto
  else s.holdResult res

/-- The evaluation after each round trip (R145). -/
def State.evaluateProve (s : State) : State :=
  let window := windowOf s.params.prover.k s.psq.trips
  if window.length = s.params.prover.k
      ∧ repeatability (window.map (fun w => w.2.imf)) ≤ s.params.prover.repeatLimit then
    s.succeed window
  else if s.psq.attempts = s.params.prover.maxAttempts then s.failProve .noRepeat
  else s.enterLaunch false

/-! ### Round trips (R140 to R144) -/

/-- The value sample of a detector event (R140). -/
def State.takeSample (s : State) : ValueSample where
  t := s.valueInForce (s.runContext s.proveRun) (.t s.proveRun)
  p := s.valueInForce (s.runContext s.proveRun) (.p s.proveRun)
  tp := s.valueInForce (s.runContext s.proveRun) .tp
  pp := s.valueInForce (s.runContext s.proveRun) .pp

/-- Every value of a sample is LIVE (R140). -/
def ValueSample.allLive (x : ValueSample) : Bool :=
  decide (x.t.quality = .live ∧ x.p.quality = .live ∧ x.tp.quality = .live ∧ x.pp.quality = .live)

/-- The figures of a round trip whose passes are valid (R142, R143). -/
def tripFigures (ni ticks : Nat) (samples : List ValueSample) (m : Meter) (pr : Product) (pv : ProverParams) :
    TripFigures :=
  let meanT := meanOf (samples.map (fun x => x.t.value))
  let meanP := meanOf (samples.map (fun x => x.p.value))
  let meanTP := meanOf (samples.map (fun x => x.tp.value))
  let meanPP := meanOf (samples.map (fun x => x.pp.value))
  let ctlM := ctlOf pr.tb pr.alpha pr.beta meanT
  let cplM := cplOf pr.f meanP
  let ctlP := ctlOf pr.tb pr.alpha pr.beta meanTP
  let cplP := cplOf pr.f meanPP
  let ctsP := ctsOf pv.gamma pv.tref meanTP
  { qrun := tripRate ni m.kx ticks
    meanT := meanT
    meanP := meanP
    meanTP := meanTP
    meanPP := meanPP
    ctlM := ctlM
    cplM := cplM
    ctlP := ctlP
    cplP := cplP
    ctsP := ctsP
    imf := tripFactor pv.bpv ctsP ctlP cplP m.kx ni ctlM cplM }

/-- The stability test of R142. -/
def unstable (qrun qstart limit : Nat) : Bool :=
  decide (limit * qstart < distance qrun qstart * 1000) || decide (Config.maxPointRate < qrun)

/-- The range test of R143. -/
def outsideMFRange (imf : Nat) : Bool := decide (imf < 950000 ∨ 1050000 < imf)

/-- The interpolated count of a pass, when it was valid (R144). -/
def PassResult.count? : PassResult → Option Nat
  | .valid ni _ => some ni
  | .invalid _ => none

/-- The reason and the figures of a round trip whose passes are valid: LIVE_QUALITY, then FLOW_UNSTABLE, then MF_RANGE
(R141). -/
def judgeFigures (samples : List ValueSample) (qstart limit : Nat) (f : TripFigures) :
    Option TripReason × Option TripFigures :=
  if !samples.all ValueSample.allLive then (some .liveQuality, none)
  else if unstable f.qrun qstart limit then (some .flowUnstable, none)
  else if outsideMFRange f.imf then (some .mfRange, none)
  else (none, some f)

/-- The reason and the figures of a round trip: the forward pass's reason, the reverse pass's, then the tests (R141). -/
def State.judgeTrip (s : State) (fwd rev : PassResult) : Option TripReason × Option TripFigures :=
  match fwd, rev with
  | .invalid r, _ => (some (.pass r), none)
  | .valid _ _, .invalid r => (some (.pass r), none)
  | .valid niF ticksF, .valid niR ticksR =>
    judgeFigures s.psq.samples (s.psq.qstart.getD 0) s.params.prover.stabilityLimit
      (tripFigures (niF + niR) (ticksF + ticksR) s.psq.samples s.params.meter[s.proveRun]
        s.params.products[s.proveSlot] s.params.prover)

/-- The round trip completes (R141): it is numbered, judged and appended, the prove is evaluated, and the current round
trip is emptied. -/
def State.completeTrip (s : State) (fwd rev : PassResult) : State :=
  let n := s.psq.attempts + 1
  let judged := s.judgeTrip fwd rev
  let trip : RoundTrip := ⟨n, judged.1, fwd.count?, rev.count?, judged.2⟩
  let s1 := s.modPsq (fun x =>
    { x with attempts := n, trips := x.trips ++ [trip], pass := .none, fwd := none, samples := [] })
  let s2 := s1.modRet (fun ret => { ret with marker := ret.marker.map (fun m => { m with attempts := n }) })
  s2.evaluateProve

/-! ### Passes (R136 to R139) -/

/-- The good pulses of a pass from tp1 up to tp2 (R139). -/
def passPulses (tp1 tp2 : HistoryEntry) : Nat := (tp2.index - tp1.index).toNat

/-- The judgement of a pass (R139): the first reason that applies, or the interpolated count. -/
def judgePass (x : CurrentPass) (marks : PassWatch) (tailExpired : Bool) : PassResult :=
  if tailExpired then .invalid .noTailPulse
  else if marks.integrity || x.short then .invalid .pulseIntegrity
  else if marks.reverse then .invalid .reversePulses
  else
    match x.tp1, x.tp2, x.td1, x.td2 with
    | some tp1, some tp2, some td1, some td2 =>
      if passPulses tp1 tp2 < Config.minPassPulses then .invalid .insufficientPulses
      else
        .valid (passCount (passPulses tp1 tp2) (ticksBetween td1 td2) (ticksBetween tp1.stamp tp2.stamp))
          (ticksBetween td1 td2)
    | _, _, _, _ => .invalid .insufficientPulses

/-- A pass ends (R138): the tail timer is stopped, the pass watch closed, and the pass judged; from FWD_TAIL the reverse
launch follows, from REV_TAIL the round trip completes. -/
def State.endPass (s : State) (tailExpired : Bool) : State :=
  let result := judgePass s.psq.pass (s.watchMarks s.proveRun) tailExpired
  let s1 := (s.removeWatch s.proveRun).modPsq (fun x => { x with tailTimer := none })
  match s.psq.state with
  | .fwdTail => (s1.modPsq (fun x => { x with fwd := some result })).enterLaunch true
  | .revTail => s1.completeTrip (s.psq.fwd.getD (.invalid .insufficientPulses)) result
  | .idle => s
  | .routing => s
  | .fwdLaunch => s
  | .fwdTravel => s
  | .fwdCount => s
  | .revLaunch => s
  | .revTravel => s
  | .revCount => s
  | .resultPending => s

/-- A capture reports to the PSQ: tp1 while the pass counts (R136), the tail pulse in a TAIL state (R138). -/
def State.captureReported (s : State) (rep : CaptureReport) : State :=
  let withTp1 := s.modPsq (fun x =>
    { x with pass := { x.pass with tp1 := some rep.entry, short := x.pass.short || rep.short } })
  let withTp2 := s.modPsq (fun x =>
    { x with pass := { x.pass with tp2 := some rep.entry, short := x.pass.short || rep.short } })
  match s.psq.state with
  | .fwdCount => withTp1
  | .revCount => withTp1
  | .fwdTail => withTp2.endPass false
  | .revTail => withTp2.endPass false
  | .idle => s
  | .routing => s
  | .fwdLaunch => s
  | .fwdTravel => s
  | .revLaunch => s
  | .revTravel => s
  | .resultPending => s

/-- A capture is armed, and its report taken when it completes at once. -/
def State.armAndReport (s : State) (r : Run) (t : Stamp) : State :=
  match s.armCapture r t with
  | (s1, some rep) => s1.captureReported rep
  | (s1, none) => s1

/-- The first detector of a pass in a TRAVEL state (R136). -/
def State.openPass (s : State) (count : ProverState) (td1 : Stamp) : State :=
  let s1 := s.modPsq (fun x =>
    { x with
      state := count
      pass := { CurrentPass.none with td1 := some td1 }
      samples := x.samples ++ [s.takeSample] })
  (s1.openWatch s.proveRun td1).armAndReport s.proveRun td1

/-- The second detector of a pass in a COUNT state (R137). -/
def State.closeCount (s : State) (tail : ProverState) (td2 : Stamp) : State :=
  let s1 := s.modPsq (fun x =>
    { x with
      state := tail
      passTimer := none
      tailTimer := some (s.now + Config.tailTime)
      pass := { x.pass with td2 := some td2 }
      samples := x.samples ++ [s.takeSample] })
  (s1.cancelCapture s.proveRun).armAndReport s.proveRun td2

/-- The PSQ acts on a detector event that passed the lockout, by its state (R134). -/
def State.actOnDetector (s : State) (d : Detector) (stamp : Stamp) : State :=
  match s.psq.state, d with
  | .fwdTravel, .det1 => s.openPass .fwdCount stamp
  | .fwdTravel, .det2 => s.failProve .detectorOrder
  | .revTravel, .det2 => s.openPass .revCount stamp
  | .revTravel, .det1 => s.failProve .detectorOrder
  | .fwdCount, .det1 => s.failProve .detectorOrder
  | .fwdCount, .det2 => s.closeCount .fwdTail stamp
  | .revCount, .det2 => s.failProve .detectorOrder
  | .revCount, .det1 => s.closeCount .revTail stamp
  | .idle, _ => s
  | .routing, _ => s
  | .fwdLaunch, _ => s
  | .revLaunch, _ => s
  | .fwdTail, _ => s
  | .revTail, _ => s
  | .resultPending, _ => s

/-! ### Prover inputs (R127, R131 to R134) -/

def ProverSeq.input (x : ProverSeq) : ProverInput → InputFilter
  | .routeOk => x.routeOk
  | .valveFwd => x.valveFwd
  | .valveRev => x.valveRev
  | .det1 => x.det1
  | .det2 => x.det2

def ProverSeq.setInput (x : ProverSeq) (i : ProverInput) (f : InputFilter) : ProverSeq :=
  match i with
  | .routeOk => { x with routeOk := f }
  | .valveFwd => { x with valveFwd := f }
  | .valveRev => { x with valveRev := f }
  | .det1 => { x with det1 := f }
  | .det2 => { x with det2 := f }

/-- The filter width of a prover input (R127). -/
def proverFilter : ProverInput → Nat
  | .routeOk => Config.slowFilter
  | .valveFwd => Config.slowFilter
  | .valveRev => Config.slowFilter
  | .det1 => Config.detectorFilter
  | .det2 => Config.detectorFilter

def detectorInput : Detector → ProverInput
  | .det1 => .det1
  | .det2 => .det2

def valveInput : ValveSwitch → ProverInput
  | .fwd => .valveFwd
  | .rev => .valveRev

/-- The input's filter accepts the change being timed, at the moment its width has elapsed. -/
def State.acceptInput (s : State) (i : ProverInput) (since : Moment) : State :=
  (s.atMoment (since + proverFilter i)).modPsq (fun x => x.setInput i (x.input i).accept)

/-- Filtered ROUTE_OK changes: active completes ROUTING (R131); inactive fails a prove after ROUTING (R133). -/
def routeOkAccept (s : State) : State :=
  match s.psq.routeOk.since with
  | none => s
  | some t =>
    let s1 := s.acceptInput .routeOk t
    if s1.psq.routeOk.filtered then s1.tryRoute
    else if s1.psq.state.afterRouting then s1.failProve .routeLost
    else s1

/-- A filtered valve input changes, and may complete a launch (R132). -/
def valveAccept (v : ValveSwitch) (s : State) : State :=
  match (s.psq.input (valveInput v)).since with
  | none => s
  | some t => (s.acceptInput (valveInput v) t).tryLaunch

def ProverSeq.lockout (x : ProverSeq) : Detector → Option Moment
  | .det1 => x.lockout1
  | .det2 => x.lockout2

def ProverSeq.setLockout (x : ProverSeq) (d : Detector) (m : Option Moment) : ProverSeq :=
  match d with
  | .det1 => { x with lockout1 := m }
  | .det2 => { x with lockout2 := m }

/-- A detector input has been active for its filter width: one detector event, stamped with the tick at which the raw
input became active. While the lockout timer runs it is ignored; otherwise it starts that timer and the PSQ acts on it
(R127, R134). -/
def detectorAccept (d : Detector) (s : State) : State :=
  match (s.psq.input (detectorInput d)).since with
  | none => s
  | some t =>
    if (s.psq.input (detectorInput d)).raw then
      let s1 := s.acceptInput (detectorInput d) t
      match s1.psq.lockout d with
      | some _ => s1
      | none =>
        (s1.modPsq (fun x => x.setLockout d (some (s1.now + Config.lockoutTime)))).actOnDetector d (stampOf t)
    else s

/-- A detector input has been inactive for its filter width: the filtered level goes inactive, without an event
(R127). -/
def detectorReturn (d : Detector) (s : State) : State :=
  match (s.psq.input (detectorInput d)).since with
  | none => s
  | some t => if (s.psq.input (detectorInput d)).raw then s else s.acceptInput (detectorInput d) t

/-- The lockout timer of a detector expires (R127). -/
def lockoutExpiry (d : Detector) (s : State) : State :=
  match s.psq.lockout d with
  | none => s
  | some m => (s.atMoment m).modPsq (fun x => x.setLockout d none)

/-- The filter of a prover input accepts the change that it is timing. -/
def proverAccept (i : ProverInput) (s : State) : State :=
  match i with
  | .routeOk => routeOkAccept s
  | .valveFwd => valveAccept .fwd s
  | .valveRev => valveAccept .rev s
  | .det1 => if s.psq.det1.raw then detectorAccept .det1 s else detectorReturn .det1 s
  | .det2 => if s.psq.det2.raw then detectorAccept .det2 s else detectorReturn .det2 s

/-- A raw change of a prover input; a change that has held for the filter width is taken before it. -/
def proverInputTo (i : ProverInput) (active : Bool) (s : State) : State :=
  let s1 := if (s.psq.input i).held (proverFilter i) s.now then proverAccept i s else s
  s1.modPsq (fun x => x.setInput i ((x.input i).change active s1.now))

/-! ### Timers (R131, R132, R135, R138) -/

/-- The valve timer expires in ROUTING or a LAUNCH state. -/
def valveExpiry (s : State) : State :=
  match s.psq.valveTimer with
  | none => s
  | some d => ((s.atMoment d).modPsq (fun x => { x with valveTimer := none })).failProve .valveTimeout

/-- The pass timer expires in a TRAVEL or COUNT state. -/
def passExpiry (s : State) : State :=
  match s.psq.passTimer with
  | none => s
  | some d => ((s.atMoment d).modPsq (fun x => { x with passTimer := none })).failProve .sphereTimeout

/-- The tail timer expires in a TAIL state: the capture is cancelled and the pass ends with NO_TAIL_PULSE. -/
def tailExpiry (s : State) : State :=
  match s.psq.tailTimer with
  | none => s
  | some d => ((s.atMoment d).cancelCapture s.proveRun).endPass true

/-! ### Requests (R130, R148, R152, R154) -/

/-- The run may be proved: IN_SERVICE and FLOWING, and not in pulse mode DUAL with a pulse state other than DUAL_OK
(R130, checks 3 and 4). -/
def State.mayProve (s : State) (r : Run) : Bool :=
  decide (s.ret.service[r] = .inService ∧ s.pulses[r].flow = some .flowing)
    && decide (¬ (s.pulses[r].settings.mode = .dual ∧ s.pulses[r].pulseState ≠ .dualOk))

/-- The Q of the run's latest period record (R130). -/
def State.latestQ (s : State) (r : Run) : Nat :=
  match s.cen[r].latest with
  | some rec => rec.q
  | none => 0

/-- An accepted PROVE START, up to the entry to ROUTING (R130). -/
def State.beginProve (s : State) (r : Run) : State :=
  let s1 := s.modPsq (fun x =>
    { x with
      state := .routing
      run := some r
      slot := some (s.productInForce r)
      qstart := some (s.latestQ r)
      attempts := 0
      pass := .none
      fwd := none
      samples := []
      trips := []
      result := none
      route := noRuns.set r true
      valveTimer := some s.valveDeadline })
  (s1.modRet (fun ret =>
    { ret with marker := some ⟨r, s.productInForce r, s.clock, 0, none⟩ })).clearAlarm (.station .proveFailed)

/-- PROVE START (R130); ROUTING passes on at once when ROUTE_OK is already active (R131). -/
def takeProveStart (number : Nat) (s : State) : State × Reply :=
  match runOfNumber? number with
  | none => refuse s .badParam
  | some r =>
    if s.psq.state ≠ .idle then refuse s .busy
    else if s.mayProve r then
      ((s.beginProve r).tryRoute, .okWith [.u64 (s.latestQ r), .u8 (s.productInForce r).val])
    else refuse s .notAllowed

/-- PROVE ACCEPT (R148). DEDUCED (log entry 22): the prove rate takes 4 bytes, as its stated range gives. -/
def takeProveAccept (s : State) : State × Reply :=
  match s.psq.state, s.psq.result with
  | .resultPending, some res =>
    (s.applyResult res .request, .okWith [.u32 res.newMF, .u32 res.rate, .u32 res.rate, .u32 res.newMF])
  | _, _ => refuse s .notAllowed

/-- PROVE REJECT (R148). -/
def takeProveReject (s : State) : State × Reply :=
  match s.psq.state, s.psq.result with
  | .resultPending, some res =>
    ((s.appendAudit (.proveRejected s.proveRun s.proveSlot res.newMF res.rate)).completeProve (.rejected res), .justOk)
  | _, _ => refuse s .notAllowed

/-- PROVE ABORT (R152). -/
def takeProveAbort (s : State) : State × Reply :=
  if s.psq.state.proving then (s.dropPass.completeProve (.aborted false), .justOk)
  else refuse s .notAllowed

/-- A pass result of READ PROVE. DEDUCED (log entries 13 and 22): R154 gives it no bytes; it is one enumerated byte,
VALID 0 and the reasons of R129 from 1 to 4, then the interpolated count Ni as an optional field, present when valid.
-/
def passFields (x : PassResult) : List Field :=
  match x with
  | .valid ni _ => .u8 0 :: optField (some ni) (fun n => [.u64 n])
  | .invalid r => .u8 (1 + r.code) :: optField (none : Option Nat) (fun n => [.u64 n])

/-- A round-trip record (R144). -/
def tripFields (t : RoundTrip) : List Field :=
  [.u8 t.number, .u8 (tripReasonCode t.reason)]
    ++ optField t.niFwd (fun n => [.u64 n]) ++ optField t.niRev (fun n => [.u64 n])
    ++ optField t.figures (fun f =>
        [.u64 f.qrun, .s32 f.meanT, .u16 f.meanP.toNat, .s32 f.meanTP, .u16 f.meanPP.toNat, .u32 f.ctlM, .u32 f.cplM,
         .u32 f.ctlP, .u32 f.cplP, .u32 f.ctsP, .u32 f.imf])

/-- A pending result (R146), in the order of the rule's list. DEDUCED (log entry 22): the repeatability, the deviation and
the prove rate, by its stated range, take 4 bytes. -/
def resultFields (x : ProveResult) : List Field :=
  [.u32 x.newMF, .u32 x.rate, .u32 x.repeatability] ++ listField x.trips (fun n => [.u8 n])
    ++ optField x.currentMF (fun n => [.u32 n]) ++ [markField x.newCurve]
    ++ optField x.deviation (fun n => [.u32 n]) ++ [markField x.deviates]

/-- The result's figures in a last prove result, in the order of R153's table. DEDUCED (log entry 22): their widths are
those of a pending result. -/
def lastResultFields (x : ProveResult) : List Field :=
  [.u32 x.newMF, .u32 x.rate, .u32 x.repeatability] ++ listField x.trips (fun n => [.u8 n])
    ++ optField x.currentMF (fun n => [.u32 n]) ++ optField x.deviation (fun n => [.u32 n])
    ++ [markField x.newCurve, markField x.deviates]

/-- The result's figures that a last prove result holds (R153). -/
def ProveOutcome.result? : ProveOutcome → Option ProveResult
  | .accepted _ res => some res
  | .rejected res => some res
  | .failed _ => none
  | .aborted _ => none
  | .discarded res => some res

def ProveOutcome.acceptedBy? : ProveOutcome → Option AcceptedBy
  | .accepted who _ => some who
  | .rejected _ => none
  | .failed _ => none
  | .aborted _ => none
  | .discarded _ => none

/-- A last prove result (R153). -/
def lastProveFields (x : LastProve) : List Field :=
  [.u32 x.time, .u32 x.startTime, .u8 x.slot.val, .u8 x.outcome.code]
    ++ optField x.outcome.reasonCode (fun n => [.u8 n])
    ++ [.u8 x.attempts]
    ++ optField x.outcome.result? lastResultFields
    ++ optField x.outcome.acceptedBy? (fun w => [.u8 w.code])

/-- READ PROVE (R154). DEDUCED (log entries 13 and 22): a logical state and a filtered level are 1 while active; the
fields that are given outside IDLE share one presence byte, and so do those of a proving state; the outputs and the
inputs come last. -/
def takeReadProve (s : State) : State × Reply :=
  (s, .okWith
    ([.u8 s.psq.state.code]
      ++ optField s.psq.run (fun r =>
          [.u8 (runNumber r), .u8 s.proveSlot.val, .u64 (s.psq.qstart.getD 0), .u8 s.psq.attempts])
      ++ optField (if s.psq.state.proving then some s.psq else none) (fun x =>
          optField x.fwd passFields ++ [.u8 x.samples.length])
      ++ listField s.psq.trips tripFields
      ++ optField s.psq.result resultFields
      ++ s.ret.lastProve.toList.flatMap (fun o => optField o lastProveFields)
      ++ s.psq.route.toList.map markField
      ++ [markField s.psq.dirReverse, markField s.psq.routeOk.filtered, markField s.psq.valveFwd.filtered,
          markField s.psq.valveRev.filtered, markField s.psq.det1.filtered, markField s.psq.det2.filtered]))

/-! ### The commands -/

def execProveStart (number : Nat) (s : State) : Host.Outcome State Fault Refusal :=
  .next (s.request (takeProveStart number))

def execProveAccept (s : State) : Host.Outcome State Fault Refusal := .next (s.request takeProveAccept)

def execProveReject (s : State) : Host.Outcome State Fault Refusal := .next (s.request takeProveReject)

def execProveAbort (s : State) : Host.Outcome State Fault Refusal := .next (s.request takeProveAbort)

def execReadProve (s : State) : Host.Outcome State Fault Refusal := .next (s.request takeReadProve)

def execRouteOkChange (s : State) : Host.Outcome State Fault Refusal := .next (s.event routeOkAccept)

def execValveInputChange (valve : ValveSwitch) (s : State) : Host.Outcome State Fault Refusal :=
  .next (s.event (valveAccept valve))

/-- The level of a pin changes whether or not the module takes events; while it takes none, no change is timed. -/
def execProverInputChange (input : ProverInput) (active : Bool) (s : State) : Host.Outcome State Fault Refusal :=
  match s.phase with
  | .running => .next (s.event (proverInputTo input active))
  | _ => .next (s.modPsq (fun x => x.setInput input ((x.input input).follow active)))

def execDetectorEvent (d : Detector) (s : State) : Host.Outcome State Fault Refusal :=
  .next (s.event (detectorAccept d))

def execDetectorReturnInactive (d : Detector) (s : State) : Host.Outcome State Fault Refusal :=
  .next (s.event (detectorReturn d))

def execDetectorLockoutExpiry (d : Detector) (s : State) : Host.Outcome State Fault Refusal :=
  .next (s.event (lockoutExpiry d))

def execValveTimerExpiry (s : State) : Host.Outcome State Fault Refusal := .next (s.event valveExpiry)

def execPassTimerExpiry (s : State) : Host.Outcome State Fault Refusal := .next (s.event passExpiry)

def execTailTimerExpiry (s : State) : Host.Outcome State Fault Refusal := .next (s.event tailExpiry)

end Sys2Proof.Machine
end

