-- ==== Sys2Proof/Machine/Pulses.lean ====
section
/-! DEFINITION. The pulse channels of the Pulse Input Unit (sections 1.3 to 1.5): channel filters, the phase decoder, good
and reverse pulses, phase errors, and the completion of a capture. -/

namespace Sys2Proof.Machine

/-! ### Channel filters (R8) -/

/-- The ticks of a channel filter width. -/
def filterTicks : FilterWidth → Nat
  | .off => 0
  | .us2 => 2 * Config.ticksPerUs
  | .us10 => 10 * Config.ticksPerUs
  | .us50 => 50 * Config.ticksPerUs

/-- The ticks from the beginning of a raw change to the moment at which its edge has been handed to the decoder: the
filter width, and with the filter OFF the one tick of the change. The edges of a tick are handed over together (R9, R12),
so the hand-over of an edge ends its tick, and a raw change that follows it belongs to a later one. DESIGN CHOICE (log
entry 29). -/
def handoverTicks (w : FilterWidth) : Nat := max 1 (filterTicks w)

def RunPulse.channel (x : RunPulse) : Channel → InputFilter
  | .a => x.chA
  | .b => x.chB

def RunPulse.setChannel (x : RunPulse) (ch : Channel) (f : InputFilter) : RunPulse :=
  match ch with
  | .a => { x with chA := f }
  | .b => { x with chB := f }

/-- The present filtered levels of the two channels. -/
def RunPulse.levels (x : RunPulse) : LevelPair := ⟨x.chA.filtered, x.chB.filtered⟩

def otherChannel : Channel → Channel
  | .a => .b
  | .b => .a

/-! ### The decoder (R11) -/

/-- The pair that follows a pair in the order 00, 10, 11, 01, 00. -/
def nextPair : LevelPair → LevelPair
  | ⟨false, false⟩ => ⟨true, false⟩
  | ⟨true, false⟩ => ⟨true, true⟩
  | ⟨true, true⟩ => ⟨false, true⟩
  | ⟨false, true⟩ => ⟨false, false⟩

/-- The decoder's step from its reference to a new pair: forward, backward, or none between pairs that do not follow one
another. -/
def decoderStep (reference new : LevelPair) : Int :=
  if nextPair reference = new then 1 else if nextPair new = reference then -1 else 0

/-- A count that holds once it has reached 65,535 (R11, R12, R13). -/
def countUp (n : Nat) : Nat := min Config.countTop (n + 1)

/-- One transition of a channel is counted (R11). -/
def PeriodCounts.transition (c : PeriodCounts) : Channel → PeriodCounts
  | .a => { c with transitionsA := countUp c.transitionsA }
  | .b => { c with transitionsB := countUp c.transitionsB }

/-! ### Good forward pulses, reverse pulses and phase errors (R12 to R14, R19) -/

/-- The stamp history with one more entry: at 256 entries the oldest is removed first (R19). -/
def pushHistory (h : List HistoryEntry) (e : HistoryEntry) : List HistoryEntry :=
  h.drop (h.length + 1 - Config.historyLimit) ++ [e]

/-- The period's count p with one more good pulse, or the saturation mark when p already holds (R14). -/
def PeriodCounts.goodPulse (c : PeriodCounts) : PeriodCounts :=
  if Config.countTop ≤ c.good then { c with saturated := true } else { c with good := c.good + 1 }

/-- The three things that a good forward pulse does (R13). -/
def RunPulse.countGood (x : RunPulse) (stamp : Stamp) : RunPulse :=
  { x with
    counts := x.counts.goodPulse
    goodIndex := x.goodIndex + 1
    history := pushHistory x.history ⟨stamp, x.goodIndex + 1⟩ }

/-- One reverse pulse (R13), with its mark on an open pass watch (R21). -/
def RunPulse.countReverse (x : RunPulse) (stamp : Stamp) : RunPulse :=
  { x with
    counts := { x.counts with reverse := countUp x.counts.reverse }
    lastReverse := some stamp }.markReverse

/-- One phase error (R12), with its mark on an open pass watch (R21). -/
def RunPulse.countPhaseError (x : RunPulse) (stamp : Stamp) : RunPulse :=
  { x with
    counts := { ((x.counts.transition .a).transition .b) with phaseErrors := countUp x.counts.phaseErrors }
    reference := x.levels
    lastPhaseError := some stamp }.markIntegrity

/-- A good forward pulse of a run: it is counted, and it completes a waiting capture whose tick it is at or after
(R20). -/
def State.goodPulse (s : State) (r : Run) (stamp : Stamp) : State :=
  let s1 := s.modRun r (fun x => x.countGood stamp)
  match s.pulses[r].capture with
  | none => s1
  | some t =>
    if atOrAfter stamp t then
      (s1.cancelCapture r).captureReported ⟨⟨stamp, s1.pulses[r].goodIndex⟩, false⟩
    else s1

/-- The quarter accumulator after a step: at +4 a good forward pulse, at −4 a reverse pulse, and 0 again (R13). -/
def State.quarterStep (s : State) (r : Run) (step : Int) (stamp : Stamp) : State :=
  let q := s.pulses[r].quarter + step
  if q = 4 then (s.modRun r (fun x => { x with quarter := 0 })).goodPulse r stamp
  else if q = -4 then s.modRun r (fun x => { x with quarter := 0 }.countReverse stamp)
  else s.modRun r (fun x => { x with quarter := q })

/-- The live channel of a degraded run (R16). -/
def liveChannel? : PulseState → Option Channel
  | .singleAOnly => some .a
  | .singleBOnly => some .b
  | .dualOk => none
  | .singleMode => none

/-- A rising edge of the live channel of a degraded run is one good forward pulse (R16). -/
def State.liveEdge (s : State) (r : Run) (ch : Channel) (stamp : Stamp) : State :=
  if liveChannel? s.pulses[r].pulseState = some ch ∧ (s.pulses[r].channel ch).filtered = true then
    s.goodPulse r stamp
  else s

/-- An edge of a run in pulse mode DUAL that arrives alone in its tick (R11, R16). -/
def State.loneEdge (s : State) (r : Run) (ch : Channel) (stamp : Stamp) : State :=
  let step := decoderStep s.pulses[r].reference s.pulses[r].levels
  let s1 := s.modRun r (fun x => { x with reference := x.levels, counts := x.counts.transition ch })
  match s.pulses[r].pulseState with
  | .dualOk => s1.quarterStep r step stamp
  | .singleAOnly => s1.liveEdge r ch stamp
  | .singleBOnly => s1.liveEdge r ch stamp
  | .singleMode => s1

/-- The edges of both channels of a run in pulse mode DUAL in one tick: a phase error, which changes the counting of no
pulse (R12, R16). -/
def State.pairEdge (s : State) (r : Run) (stamp : Stamp) : State :=
  let s1 := s.modRun r (fun x => x.countPhaseError stamp)
  (s1.liveEdge r .a stamp).liveEdge r .b stamp

/-- A rising edge of channel A in pulse mode SINGLE_A is one good forward pulse (R10). DEDUCED (log entry 21):
SINGLE_A counts no transitions. -/
def State.singleEdge (s : State) (r : Run) (stamp : Stamp) : State :=
  if s.pulses[r].chA.filtered then s.goodPulse r stamp else s

/-- One accepted edge reaches the decoder of an in-service run; on a run out of service only the filtered level changes
(R4, R10, R11). -/
def State.decodeEdge (s : State) (r : Run) (ch : Channel) (stamp : Stamp) : State :=
  match s.ret.service[r] with
  | .outOfService => s
  | .inService =>
    match s.pulses[r].settings.mode, ch with
    | .dual, ch => s.loneEdge r ch stamp
    | .singleA, .a => s.singleEdge r stamp
    | .singleA, .b => s

/-- The accepted edges of both channels, begun in one tick, reach the decoder together (R9, R12). -/
def State.decodePair (s : State) (r : Run) (stamp : Stamp) : State :=
  match s.ret.service[r] with
  | .outOfService => s
  | .inService =>
    match s.pulses[r].settings.mode with
    | .dual => s.pairEdge r stamp
    | .singleA => s.singleEdge r stamp

/-! ### Acceptance (R8, R9) -/

/-- The channel's filtered level changes once its width has elapsed, and with the filter OFF at the end of the tick (R8,
R9). -/
def State.acceptChannel (s : State) (r : Run) (ch : Channel) (since : Moment) : State :=
  (s.atMoment (since + handoverTicks s.pulses[r].settings.width)).modRun r
    (fun x => x.setChannel ch (x.channel ch).accept)

/-- The filter of one channel accepts the change that it is timing and hands the edge to the decoder. -/
def State.acceptAlone (s : State) (r : Run) (ch : Channel) : State :=
  match (s.pulses[r].channel ch).since with
  | none => s
  | some t => (s.acceptChannel r ch t).decodeEdge r ch (stampOf t)

/-- The filter of a channel accepts the change that it is timing. Edges are handed to the decoder in the order of
their stamps: a change of the other channel that began earlier is accepted first, and one that began in the same tick
is handed over together with this one (R9). After an acceptance the tick of its edge is over, so no other edge can
begin in it and reach the decoder alone. DEDUCED (log entry 10). -/
def filterAccept (r : Run) (ch : Channel) (s : State) : State :=
  match (s.pulses[r].channel ch).since, (s.pulses[r].channel (otherChannel ch)).since with
  | none, _ => s
  | some _, none => s.acceptAlone r ch
  | some t, some u =>
    if u < t then (s.acceptAlone r (otherChannel ch)).acceptAlone r ch
    else if u = t then ((s.acceptChannel r ch t).acceptChannel r (otherChannel ch) t).decodePair r (stampOf t)
    else s.acceptAlone r ch

/-- A raw change of a pulse input; a change that has held for the filter width is taken before it. DEDUCED (log entry
10). -/
def pulseInputTo (r : Run) (ch : Channel) (level : Bool) (s : State) : State :=
  let s1 :=
    if (s.pulses[r].channel ch).held (filterTicks s.pulses[r].settings.width) s.now then filterAccept r ch s else s
  s1.modRun r (fun x => x.setChannel ch ((x.channel ch).change level s1.now))

/-! ### The commands -/

/-- The level of a pin changes whether or not the module takes events; while it takes none, no change is timed. -/
def execPulseInputChange (r : Run) (ch : Channel) (level : Bool) (s : State) : Host.Outcome State Fault Refusal :=
  match s.phase with
  | .running => .next (s.event (pulseInputTo r ch level))
  | _ => .next (s.modRun r (fun x => x.setChannel ch ((x.channel ch).follow level)))

def execPulseFilterAccept (r : Run) (ch : Channel) (s : State) : Host.Outcome State Fault Refusal :=
  .next (s.event (filterAccept r ch))

end Sys2Proof.Machine
end

