-- ==== Sys2Proof/Machine/Sampling.lean ====
section
/-! DEFINITION. The Sampler Controller (Chapter 8): due grabs from credited volume, the owed-grab queue and its head, grabs,
can swaps, halts, and the requests CAN RESET, SAMPLER ENABLE and READ SAMPLER. -/

namespace Sys2Proof.Machine

/-! ### Counts -/

def Batch.modSampling (f : Sampling → Sampling) (b : Batch) : Batch := { b with sampling := f b.sampling }

def Sampling.addMissed (x : Sampling) : Sampling := { x with missed := x.missed + 1 }

/-- The count of a can. -/
def State.canCount (s : State) : Can → Nat
  | .can1 => s.ret.canCount1
  | .can2 => s.ret.canCount2

def State.setCanCount (s : State) (c : Can) (n : Nat) : State :=
  match c with
  | .can1 => s.modRet (fun ret => { ret with canCount1 := n })
  | .can2 => s.modRet (fun ret => { ret with canCount2 := n })

/-- The can-full input of a can. -/
def Sampler.fullInput (x : Sampler) : Can → InputFilter
  | .can1 => x.full1
  | .can2 => x.full2

def Sampler.setFullInput (x : Sampler) (c : Can) (f : InputFilter) : Sampler :=
  match c with
  | .can1 => { x with full1 := f }
  | .can2 => { x with full2 := f }

/-- A can is full at its rated number of grabs, or when its filtered switch is active (R161). -/
def State.canIsFull (s : State) (c : Can) : Bool :=
  decide (s.params.station.canCapacity ≤ s.canCount c) || (s.smc.fullInput c).filtered

/-! ### Discarding the queue (R164, R166) -/

/-- One grab of a batch is counted as missed. -/
def State.missGrab (s : State) (id : Nat) : State := s.modBatch id (Batch.modSampling Sampling.addMissed)

/-- Every entry leaves the queue as missed; SAMPLER_MISSED is raised and cleared if one or more were removed (R167). -/
def State.discardQueue (s : State) : State :=
  match s.smc.queue with
  | [] => s
  | q =>
    (q.foldl (fun s e => s.missGrab e.batchId) (s.modSmc (fun x => { x with queue := [] }))).pulseAlarm
      (.station .samplerMissed)

/-! ### Serving the head of the queue (R161 to R164) -/

/-- A swap starts (R163): the selected can changes to the head entry's can. -/
def State.startSwap (s : State) (c : Can) : State :=
  (s.modRet (fun ret => { ret with selectedCan := c })).modSmc (fun x =>
    { x with
      state := .swapping
      canSelect := decide (c = .can2)
      swapTimer := some (s.now + Config.swapTime) })

/-- The sampler halts on a full can (R164). -/
def State.halt (s : State) (c : Can) : State :=
  ((s.modSmc (fun x => { x with state := .halted, haltedCan := some c })).discardQueue).raiseAlarm
    (.station .samplerHalted)

/-- A grab starts from the head entry (R162). -/
def State.startGrab (s : State) (e : OwedGrab) (rest : List OwedGrab) : State :=
  let s1 := s.setCanCount e.can (s.canCount e.can + 1)
  let s2 := s1.modBatch e.batchId (Batch.modSampling (fun x => { x with taken := x.taken + 1 }))
  s2.modSmc (fun x =>
    { x with
      state := .grabbing
      queue := rest
      grab := true
      widthTimer := some (s.now + s.params.station.grabWidth * Config.ticksPerMs)
      intervalTimer := some (s.now + s.params.station.grabInterval * Config.ticksPerMs) })

/-- In READY with entries queued, the head of the queue is examined: wrong can, can full, or grab (R161). -/
def State.examineHead (s : State) : State :=
  match s.smc.state, s.smc.queue with
  | .ready, e :: rest =>
    if e.can ≠ s.ret.selectedCan then s.startSwap e.can
    else if s.canIsFull e.can then s.halt e.can
    else s.startGrab e rest
  | .ready, [] => s
  | .off, _ => s
  | .grabbing, _ => s
  | .swapping, _ => s
  | .halted, _ => s

/-! ### Due grabs (R158 to R160) -/

/-- One due grab of a batch is handled: queued, or missed when the queue is full or the sampler HALTED (R159, R160). -/
def State.dueGrab (s : State) (id : Nat) (can : Can) : State :=
  let s1 := s.modBatch id (Batch.modSampling (fun x => { x with due := x.due + 1 }))
  if decide (s.smc.state = .halted) || decide (Config.owedLimit ≤ s.smc.queue.length) then
    (s1.missGrab id).pulseAlarm (.station .samplerMissed)
  else s1.modSmc (fun x => { x with queue := x.queue ++ [⟨id, can⟩] })

/-- The due grabs of one crediting, handled in turn. -/
def State.dueGrabs (s : State) (id : Nat) (can : Can) : Nat → State
  | 0 => s
  | n + 1 => (s.dueGrab id can).dueGrabs id can n

/-- SAMPLING_OFF joins the batch's flag set (R160). -/
def Batch.markSamplingOff (b : Batch) : Batch := { b with flags := { b.flags with samplingOff := true } }

/-- The SMC takes a credited GSVinc of a batch (R158, R160): the accumulator is reduced by the grab volume once for
each grab that falls due. DESIGN CHOICE (log entry 15): a record with GSVinc 0 is such a crediting too, so the first one
after a commit that lowered the grab volume makes due what the accumulator holds. -/
def State.sampleBatch (s : State) (b : Batch) (gsv : Nat) : State :=
  match s.ret.enable with
  | .off => if 0 < gsv then s.modBatch b.record.id Batch.markSamplingOff else s
  | .on =>
    let volume := s.params.station.grabVolume * 1000
    let total := b.sampling.accumulator + gsv
    let s1 := s.modBatch b.record.id (Batch.modSampling (fun x => { x with accumulator := total % volume }))
    (s1.dueGrabs b.record.id b.can (total / volume)).examineHead

/-- The SMC's part of a crediting: nothing for UNBATCHED volume (R158). -/
def State.sampleCredit (s : State) (target : CreditTarget) (gsv : Nat) : State :=
  match target with
  | .unbatched => s
  | .batch id =>
    match s.heldBatch? id with
    | some b => s.sampleBatch b gsv
    | none => s

/-! ### Timers (R162, R163) -/

/-- The grab pulse width ends (R162). -/
def widthExpiry (s : State) : State :=
  match s.smc.widthTimer with
  | none => s
  | some d => (s.atMoment d).modSmc (fun x => { x with widthTimer := none, grab := false })

/-- The grab interval ends (R162): the pulse, if it has not ended, ends first. -/
def intervalExpiry (s : State) : State :=
  match s.smc.intervalTimer with
  | none => s
  | some d =>
    (((s.atMoment d).modSmc (fun x =>
      { x with state := .ready, widthTimer := none, intervalTimer := none, grab := false })).examineHead).closeTests

/-- The can swap completes (R163). -/
def swapExpiry (s : State) : State :=
  match s.smc.swapTimer with
  | none => s
  | some d => (((s.atMoment d).modSmc (fun x => { x with state := .ready, swapTimer := none })).examineHead).closeTests

/-! ### Leaving HALTED (R165) -/

/-- A HALTED sampler returns to READY. -/
def State.leaveHalt (s : State) : State :=
  match s.smc.state with
  | .halted =>
    (s.modSmc (fun x => { x with state := .ready, haltedCan := none })).clearAlarm (.station .samplerHalted)
  | .off => s
  | .ready => s
  | .grabbing => s
  | .swapping => s

/-- The filter of a can-full input accepts a change; going inactive it releases a HALTED sampler (R164, R165). -/
def canfullAccept (c : Can) (s : State) : State :=
  match (s.smc.fullInput c).since with
  | none => s
  | some t =>
    let s1 := (s.atMoment (t + Config.slowFilter)).modSmc (fun x => x.setFullInput c (x.fullInput c).accept)
    if (s1.smc.fullInput c).filtered then s1 else s1.leaveHalt

/-- A raw change of a can-full input; a change that has held for the filter width is taken before it. -/
def canfullInputTo (c : Can) (active : Bool) (s : State) : State :=
  let s1 := if (s.smc.fullInput c).held Config.slowFilter s.now then canfullAccept c s else s
  s1.modSmc (fun x => x.setFullInput c ((x.fullInput c).change active s1.now))

/-! ### Requests (R166, R168) -/

/-- CAN RESET (R166), which is one retained update. -/
def takeCanReset (number : Nat) (s : State) : State × Reply :=
  match canOfNumber? number with
  | none => refuse s .badParam
  | some c => ((s.setCanCount c 0).leaveHalt.retainedUpdate, .justOk)

/-- SAMPLER ENABLE ON while the enable is OFF. -/
def State.enableSampler (s : State) : State :=
  (s.modRet (fun ret => { ret with enable := .on })).modSmc (fun x => { x with state := .ready })

/-- SAMPLER ENABLE OFF while the enable is ON: every timer stops, GRAB goes inactive, a halt ends, the queue is
discarded as missed, and the batches are tested for closing. -/
def State.disableSampler (s : State) : State :=
  let s1 := s.leaveHalt.modRet (fun ret => { ret with enable := .off })
  let s2 := s1.modSmc (fun x =>
    { x with
      state := .off
      haltedCan := none
      widthTimer := none
      intervalTimer := none
      swapTimer := none
      grab := false })
  s2.discardQueue.closeTests

/-- SAMPLER ENABLE (R166). -/
def takeSamplerEnable (enable : Switch) (s : State) : State × Reply :=
  match enable, s.ret.enable with
  | .on, .off => (s.enableSampler, .justOk)
  | .off, .on => (s.disableSampler, .justOk)
  | .on, .on => (s, .justOk)
  | .off, .off => (s, .justOk)

/-- The ACTIVE batch, then the ENDING batches in order. -/
def State.liveBatches (s : State) : List Batch := s.ret.active.toList ++ s.ret.ending

/-- READ SAMPLER (R168). DEDUCED (log entries 13 and 22): a filtered level and a logical state are 1 while active, the
number of queued grabs takes 2 bytes, the sample accumulator takes 4 by its stated range, and the ACTIVE batch and the
ENDING batches are one list, the ACTIVE one first. -/
def takeReadSampler (s : State) : State × Reply :=
  (s, .okWith
    ([.u8 (switchCode s.ret.enable), .u8 s.smc.state.code]
      ++ optField s.smc.haltedCan (fun c => [.u8 (canNumber c)])
      ++ [.u8 (canNumber s.ret.selectedCan), .u16 s.ret.canCount1, .u16 s.ret.canCount2,
          markField s.smc.full1.filtered, markField s.smc.full2.filtered, markField s.smc.grab,
          markField s.smc.canSelect]
      ++ listField s.smc.queue (fun e => [.u32 e.batchId, .u8 (canNumber e.can)])
      ++ listField s.liveBatches (fun b =>
          [.u32 b.record.id, .u8 (canNumber b.can), .u32 b.sampling.accumulator, .u32 b.sampling.due,
           .u32 b.sampling.taken, .u32 b.sampling.missed, .u16 (s.queuedGrabs b.record.id)])))

/-! ### The commands -/

def execCanReset (number : Nat) (s : State) : Host.Outcome State Fault Refusal :=
  .next (s.request (takeCanReset number))

def execSamplerEnable (enable : Switch) (s : State) : Host.Outcome State Fault Refusal :=
  .next (s.request (takeSamplerEnable enable))

def execReadSampler (s : State) : Host.Outcome State Fault Refusal := .next (s.request takeReadSampler)

def execWidthTimerExpiry (s : State) : Host.Outcome State Fault Refusal := .next (s.event widthExpiry)

def execIntervalTimerExpiry (s : State) : Host.Outcome State Fault Refusal := .next (s.event intervalExpiry)

def execSwapTimerExpiry (s : State) : Host.Outcome State Fault Refusal := .next (s.event swapExpiry)

/-- The level of a pin changes whether or not the module takes events; while it takes none, no change is timed. -/
def execCanfullInputChange (can : Can) (active : Bool) (s : State) : Host.Outcome State Fault Refusal :=
  match s.phase with
  | .running => .next (s.event (canfullInputTo can active))
  | _ => .next (s.modSmc (fun x => x.setFullInput can ((x.fullInput can).follow active)))

def execCanfullChange (can : Can) (s : State) : Host.Outcome State Fault Refusal :=
  .next (s.event (canfullAccept can))

end Sys2Proof.Machine
end

