-- ==== Sys2Proof/Machine/Periods.lean ====
section
/-! DEFINITION. The run period (Chapters 1, 4 and 5): the expiry with its alarm and pulse-state tests, the computation of a
period record, its crediting with the flow decision, and the requests RUN SERVICE and READ RUN. -/

namespace Sys2Proof.Machine

/-! ### Pulse-state tests (R7, R15, R17) -/

/-- The settings of METER r that the PIU reads (R7). -/
def settingsOf (m : Meter) : PulseSettings := ⟨m.mode, m.width, m.phaseErrorLimit⟩

/-- A channel made 16 transitions or more. -/
def activeChannel (transitions : Nat) : Bool := decide (Config.activeTransitions ≤ transitions)

/-- The pulse state that the tests give from the counts of the period just ended (R15, R17). -/
def testedState (c : PeriodCounts) : PulseState → PulseState
  | .dualOk =>
    if activeChannel c.transitionsA && decide (c.transitionsB = 0) then .singleAOnly
    else if activeChannel c.transitionsB && decide (c.transitionsA = 0) then .singleBOnly
    else .dualOk
  | .singleAOnly =>
    if activeChannel c.transitionsA && activeChannel c.transitionsB && decide (c.phaseErrors = 0) then .dualOk
    else if decide (c.transitionsA = 0) && activeChannel c.transitionsB then .singleBOnly
    else .singleAOnly
  | .singleBOnly =>
    if activeChannel c.transitionsA && activeChannel c.transitionsB && decide (c.phaseErrors = 0) then .dualOk
    else if decide (c.transitionsB = 0) && activeChannel c.transitionsA then .singleAOnly
    else .singleBOnly
  | .singleMode => .singleMode

/-- A pulse state in which one channel of two is counted. -/
def PulseState.degraded : PulseState → Bool
  | .singleAOnly => true
  | .singleBOnly => true
  | .dualOk => false
  | .singleMode => false

/-- The pulse-state tests of an expiry without a mode change (R15, R17). -/
def State.pulseTests (s : State) (r : Run) : State :=
  let old := s.pulses[r].pulseState
  let new := testedState s.pulses[r].counts old
  let s1 := s.modRun r (fun x => { x with pulseState := new })
  if decide (old = .dualOk) && new.degraded then
    (s1.modRun r (fun x => { x with quarter := 0 })).raiseAlarm (.run r .pulseDegraded)
  else if old.degraded && decide (new = .dualOk) then
    (s1.modRun r (fun x => { x with quarter := 0, reference := x.levels })).clearAlarm (.run r .pulseDegraded)
  else s1

/-- A pulse mode read at an expiry that differs from the mode of the period just ended (R7). -/
def State.changeMode (s : State) (r : Run) : PulseMode → State
  | .singleA =>
    (s.modRun r (fun x => { x with pulseState := .singleMode, quarter := 0 })).clearAlarm (.run r .pulseDegraded)
  | .dual => s.modRun r (fun x => { x with pulseState := .dualOk, quarter := 0, reference := x.levels })

/-- The tests of step 2, or the mode change that replaces their outcome (R7). -/
def State.judgePulses (s : State) (r : Run) : State :=
  if s.pulses[r].settings.mode = s.params.meter[r].mode then s.pulseTests r
  else s.changeMode r s.params.meter[r].mode

/-- The period's alarm evaluation (R14, R18), with the phase-error limit in force for the period just ended. -/
def State.periodAlarms (s : State) (r : Run) : State :=
  let c := s.pulses[r].counts
  let s1 := s.setAlarm (.run r .pulseError) (decide (s.pulses[r].settings.phaseErrorLimit < c.phaseErrors))
  let s2 := s1.setAlarm (.run r .reverseFlow) (decide (1 ≤ c.reverse))
  if c.saturated then s2.pulseAlarm (.run r .countOverrun) else s2

/-- An expiry that leaves a run in pulse mode DUAL in a pulse state other than DUAL_OK sets the integrity mark of an
open pass watch (R21). -/
def RunPulse.markDegraded (x : RunPulse) : RunPulse :=
  if x.settings.mode = .dual ∧ x.pulseState ≠ .dualOk then x.markIntegrity else x

/-- Step 3 of an expiry: the counts are set to 0, the settings read, and the timer starts again (R5). -/
def State.nextPeriod (s : State) (r : Run) : State :=
  s.modRun r (fun x =>
    { x with
      counts := .zero
      settings := settingsOf s.params.meter[r]
      timerFrom := some s.now }.markDegraded)

/-- What the PIU hands over (R5). -/
def State.handoverOf (s : State) (r : Run) (len : Nat) (final : Bool) : Handover where
  good := s.pulses[r].counts.good
  reverse := s.pulses[r].counts.reverse
  phaseErrors := s.pulses[r].counts.phaseErrors
  pulseState := s.pulses[r].pulseState
  saturated := s.pulses[r].counts.saturated
  len := len
  final := final
  endTime := s.clock

/-! ### The computation (Chapter 4) -/

/-- The four values that a run's period uses (R33, R35, R67). -/
structure PeriodValues where
  t : ValueUsed
  p : ValueUsed
  sw : ValueUsed
  rho : ValueUsed
  deriving DecidableEq, Repr

/-- The values as they stand at the computation. -/
def State.periodValues (s : State) (r : Run) : PeriodValues where
  t := s.valueInForce (s.runContext r) (.t r)
  p := s.valueInForce (s.runContext r) (.p r)
  sw := s.swUsed r
  rho := s.rhoUsed r

/-- The record of a period from its handover and its inputs (R67, R69 to R80, R82 to R84), with the new remainders. -/
def computeRecord (h : Handover) (m : Meter) (curve : Curve) (pr : Product) (pl : Placement) (v : PeriodValues)
    (rem : Remainders) (seq : Counter) : ComputedPeriod :=
  let q := flowRate (ivDividend h.good rem / m.kx) h.len
  let mf := meterFactor curve q
  let ctl := ctlOf pr.tb pr.alpha pr.beta v.t.value
  let cpl := cplOf pr.f v.p.value
  let ccf := ccfOf mf ctl cpl
  let inc := increments h.good m.kx mf ccf (cswOf v.sw.value) v.rho.value.toNat rem
  { record :=
      { seq := seq
        endTime := h.endTime
        len := h.len
        final := h.final
        good := h.good
        reverse := h.reverse
        phaseErrors := h.phaseErrors
        pulseState := h.pulseState
        iv := inc.iv
        gv := inc.gv
        gsv := inc.gsv
        nsv := inc.nsv
        mass := inc.mass
        q := q
        mf := mf
        ctl := ctl
        cpl := cpl
        ccf := ccf
        t := v.t
        p := v.p
        sw := v.sw
        rho := v.rho
        slot := pl.slot
        target := pl.target
        flags := recordFlags h curve.isEmpty (ctlIsClamped pr.tb pr.alpha pr.beta v.t.value)
          (cplIsClamped pr.f v.p.value) [v.t, v.p, v.sw, v.rho] }
    rem := newRemainders h.good m.kx mf ccf (cswOf v.sw.value) v.rho.value.toNat rem
    closing := pl.closing }

/-- The computed period of a run's handover, every input taken as it stands (R67, R68). -/
def State.computedPeriod (s : State) (r : Run) (h : Handover) : ComputedPeriod :=
  computeRecord h s.params.meter[r] s.params.curves[r][(s.place r).slot] s.params.products[(s.place r).slot]
    (s.place r) (s.periodValues r) s.ret.rem[r] (s.ret.periodSeq[r] + 1)

/-- MF_UNDEFINED and HIGH_RATE follow the period, and are cleared at a final partial period (R72, R73, R85). -/
def State.computationAlarms (s : State) (r : Run) (rec : PeriodRecord) : State :=
  if rec.final then (s.clearAlarm (.run r .mfUndefined)).clearAlarm (.run r .highRate)
  else
    (s.setAlarm (.run r .mfUndefined) rec.flags.mfDefault).setAlarm (.run r .highRate)
      (decide (s.params.meter[r].maxRate < rec.q))

/-- Step 4: the Correction Engine computes the period that was handed over. -/
def computeStep (r : Run) (s : State) : State :=
  match s.cen[r].handover with
  | none => s
  | some h =>
    let c := s.computedPeriod r h
    (s.modCen r (fun x => { x with handover := none, computed := some c })).computationAlarms r c.record

/-! ### Crediting (R89 to R93) -/

/-- An increment added to a cumulative total, with rollover (R91). -/
def Cumulative.add (c : Cumulative) (n : Nat) : Cumulative :=
  if Config.rolloverLimit ≤ c.total + n then ⟨c.total + n - Config.rolloverLimit, c.rollovers + 1⟩
  else ⟨c.total + n, c.rollovers⟩

def CumulativeTotals.add (c : CumulativeTotals) (q : Quantities) : CumulativeTotals where
  iv := c.iv.add q.iv
  gv := c.gv.add q.gv
  gsv := c.gsv.add q.gsv
  nsv := c.nsv.add q.nsv
  mass := c.mass.add q.mass

def Quantities.add (a b : Quantities) : Quantities :=
  ⟨a.iv + b.iv, a.gv + b.gv, a.gsv + b.gsv, a.nsv + b.nsv, a.mass + b.mass⟩

/-- The five increments of a record. -/
def PeriodRecord.quantities (rec : PeriodRecord) : Quantities := ⟨rec.iv, rec.gv, rec.gsv, rec.nsv, rec.mass⟩

/-- A record's counts added to the run pulse counts, which hold at 2⁶⁴ − 1 (R92). -/
def PulseCounts.add (c : PulseCounts) (rec : PeriodRecord) : PulseCounts where
  good := min Config.pulseCountTop (c.good + rec.good)
  reverse := min Config.pulseCountTop (c.reverse + rec.reverse)
  phaseErrors := min Config.pulseCountTop (c.phaseErrors + rec.phaseErrors)

/-- A record's products added to the sums that a batch and a contribution both hold (R93); with an IVinc of 0 every
product is 0. -/
def Sums.add (x : Sums) (rec : PeriodRecord) : Sums where
  t := x.t + rec.t.value * rec.iv
  p := x.p + rec.p.value * rec.iv
  mf := x.mf + rec.mf * rec.iv
  ctl := x.ctl + rec.ctl * rec.iv
  cpl := x.cpl + rec.cpl * rec.iv
  ccf := x.ccf + rec.ccf * rec.iv
  iv := x.iv + rec.iv

/-- A contribution as it is created: opened at the run's cumulative figures before the crediting (R90). -/
def newContribution (r : Run) (before : CumulativeTotals) : Contribution :=
  ⟨r, before.iv.total, before.gsv.total, before.iv.total, before.gsv.total, .zero, .zero⟩

/-- A contribution after a crediting (R90, R93). -/
def Contribution.credit (c : Contribution) (rec : PeriodRecord) (after : CumulativeTotals) : Contribution :=
  { c with
    totals := c.totals.add rec.quantities
    sums := c.sums.add rec
    closeIV := after.iv.total
    closeGSV := after.gsv.total }

/-- The contributions of a batch after a crediting, in order of run number (R90). -/
def creditContributions (r : Run) (rec : PeriodRecord) (before after : CumulativeTotals) :
    List Contribution → List Contribution
  | [] => [(newContribution r before).credit rec after]
  | c :: cs =>
    if c.run = r then c.credit rec after :: cs
    else if r < c.run then (newContribution r before).credit rec after :: c :: cs
    else c :: creditContributions r rec before after cs

/-- A batch after a crediting (R90, R93). -/
def Batch.credit (b : Batch) (r : Run) (rec : PeriodRecord) (before after : CumulativeTotals) : Batch :=
  { b with
    totals := b.totals.add rec.quantities
    sums := b.sums.add rec
    sumSW := b.sumSW + rec.sw.value * rec.iv
    sumRho := b.sumRho + rec.rho.value * rec.iv
    contributions := creditContributions r rec before after b.contributions
    flags := { b.flags with record := b.flags.record.union rec.flags } }

/-- The run's and the station's part of a crediting: totals, pulse counts, remainders, sequence number (R81, R84, R89),
and the record as the run's latest. -/
def State.creditRun (s : State) (r : Run) (c : ComputedPeriod) : State :=
  (s.modRet (fun ret =>
    { ret with
      rem := ret.rem.set r c.rem
      periodSeq := ret.periodSeq.set r c.record.seq
      runTotals := ret.runTotals.set r (ret.runTotals[r].add c.record.quantities)
      station := ret.station.add c.record.quantities
      pulseCounts := ret.pulseCounts.set r (ret.pulseCounts[r].add c.record) })).modCen r
    (fun x => { x with computed := none, latest := some c.record })

/-- The credit target's part of a crediting (R90). -/
def State.creditTarget (s : State) (r : Run) (rec : PeriodRecord) (before : CumulativeTotals) : State :=
  match rec.target with
  | .batch id => s.modBatch id (fun b => b.credit r rec before s.ret.runTotals[r])
  | .unbatched =>
    let s1 := s.modRet (fun ret => { ret with unbatched := ret.unbatched.add rec.quantities })
    if 0 < rec.iv then s1.raiseAlarm (.station .flowNoBatch) else s1

/-- A run is removed from a batch's owing runs. -/
def Batch.paid (r : Run) (b : Batch) : Batch := { b with owing := b.owing.set r false }

/-- A closing period pays its obligation (R112); a run that leaves service is removed from every ENDING batch's owing
runs (R113). -/
def State.payObligation (s : State) (r : Run) (c : ComputedPeriod) : State :=
  if c.record.final then s.modRet (fun ret => { ret with ending := ret.ending.map (Batch.paid r) })
  else
    match c.closing, c.record.target with
    | true, .batch id => s.modBatch id (Batch.paid r)
    | true, .unbatched => s
    | false, _ => s

/-- The run whose final partial period is being credited, if it is one (R111). -/
def leavingRun (r : Run) (rec : PeriodRecord) : Option Run := if rec.final then some r else none

/-- A prove of the run is in progress in a proving state (R151). -/
def State.proves (s : State) (r : Run) : Bool := s.psq.state.proving && decide (s.psq.run = some r)

/-- PRODUCT_CHANGE: a full period of the prove run was computed with another slot than the recorded one (R151). -/
def State.productTest (s : State) (r : Run) (rec : PeriodRecord) : State :=
  if s.proves r && !rec.final && decide (s.psq.slot ≠ some rec.slot) then s.failProve .productChange else s

/-- The crediting of a computed period: one event (R89). -/
def State.credit (s : State) (r : Run) (c : ComputedPeriod) : State :=
  let s1 := (s.creditRun r c).creditTarget r c.record s.ret.runTotals[r]
  let s2 := (s1.batchTests c.record.target (leavingRun r c.record)).payObligation r c
  ((s2.sampleCredit c.record.target c.record.gsv).productTest r c.record).closeTests

/-- Step 6: the flow decision of an expiry (R6), and FLOW_STOPPED (R151). DEDUCED (log entry 12): in the event of the
crediting, with the cutoff then in force. -/
def State.decideFlow (s : State) (r : Run) (rec : PeriodRecord) : State :=
  if rec.final then s
  else if s.params.meter[r].cutoff ≤ rec.q then s.modRun r (fun x => { x with flow := some .flowing })
  else
    let s1 := s.modRun r (fun x => { x with flow := some .noFlow })
    if s1.proves r then s1.failProve .flowStopped else s1

/-- Steps 5 and 6: the computed period is credited and the flow state decided. -/
def creditStep (r : Run) (s : State) : State :=
  match s.cen[r].computed with
  | none => s
  | some c => (s.credit r c).decideFlow r c.record

/-- The steps of an earlier expiry that are not yet done are done first, with their own retained update (R4, R5).
DESIGN CHOICE (log entry 11). -/
def State.finishSteps (s : State) (r : Run) : State :=
  match s.cen[r].handover, s.cen[r].computed with
  | none, none => s
  | _, _ => (creditStep r (computeStep r s)).settle

/-- Steps 1 to 3 of the expiry of a run's period timer (R5). -/
def periodExpiry (r : Run) (s : State) : State :=
  match s.pulses[r].timerFrom with
  | none => s
  | some t =>
    let s1 := (s.atMoment (t + Config.periodMs * Config.ticksPerMs)).finishSteps r
    let h := s1.handoverOf r Config.periodMs false
    let s2 := s1.modCen r (fun x => { x with handover := some h })
    ((s2.periodAlarms r).judgePulses r).nextPeriod r

/-! ### RUN SERVICE (R2 to R4) -/

def State.setService (s : State) (r : Run) (x : ServiceState) : State :=
  s.modRet (fun ret => { ret with service := ret.service.set r x })

/-- The pulse state with which counting begins in a pulse mode (R3, R22). -/
def initialPulseState : PulseMode → PulseState
  | .dual => .dualOk
  | .singleA => .singleMode

/-- A run made ready for counting under the settings of its meter (R3, R22). -/
def RunPulse.beginCounting (x : RunPulse) (m : Meter) (now : Moment) : RunPulse :=
  { x with
    flow := some .noFlow
    timerFrom := some now
    reference := x.levels
    quarter := 0
    pulseState := initialPulseState m.mode
    settings := settingsOf m
    counts := .zero
    goodIndex := 0
    history := []
    lastPhaseError := none
    lastReverse := none }

/-- A run enters service (R3). -/
def State.serviceIn (s : State) (r : Run) : State :=
  ((s.setService r .inService).modRun r (fun x => x.beginCounting s.params.meter[r] s.now)).clearAlarm
    (.run r .pulseDegraded)

/-- The length of a final partial period: the whole milliseconds elapsed on the period timer (R4). -/
def State.partialLength (s : State) (r : Run) : Nat :=
  match s.pulses[r].timerFrom with
  | none => 0
  | some t => min Config.periodMs ((s.now - t) / Config.ticksPerMs)

/-- The final partial period is handed over, the counts are set to 0 as at step 3 of an expiry, and the period is computed
and credited (R4, R5, R85). The settings of METER r are read at a service entry and at an expiry alone (R7). -/
def State.finalPeriod (s : State) (r : Run) : State :=
  let h := s.handoverOf r (s.partialLength r) true
  let s1 := (s.modCen r (fun x => { x with handover := some h })).modRun r (fun x => { x with counts := .zero })
  creditStep r (computeStep r s1)

/-- RUN_LEFT_SERVICE: the prove run has been taken out of service (R151). -/
def State.leftService (s : State) (r : Run) : State := if s.proves r then s.failProve .runLeftService else s

/-- A run leaves service (R4). -/
def State.serviceOut (s : State) (r : Run) : State :=
  let s1 := (s.finalPeriod r).setService r .outOfService
  let s2 := s1.modRun r (fun x => { x with flow := none, timerFrom := none, capture := none, watch := none })
  let s3 := ((s2.clearAlarm (.run r .pulseError)).clearAlarm (.run r .pulseDegraded)).clearAlarm (.run r .reverseFlow)
  s3.leftService r

/-- One run of a RUN SERVICE request, with its outcome (R2). -/
def State.changeService (s : State) (dir : Direction) (r : Run) : State × Status :=
  match dir, s.ret.service[r] with
  | .into, .outOfService => ((s.serviceIn r).appendAudit (.runService r .outOfService .inService), .ok)
  | .out, .inService => ((s.serviceOut r).appendAudit (.runService r .inService .outOfService), .ok)
  | .into, .inService => (s, .notAllowed)
  | .out, .outOfService => (s, .notAllowed)

/-- The named runs in run-number order, each separately (R2). -/
def State.changeServices (s : State) (dir : Direction) : List Run → State × List Status
  | [] => (s, [])
  | r :: rs =>
    let first := s.changeService dir r
    let rest := first.1.changeServices dir rs
    (rest.1, first.2 :: rest.2)

/-- A RUN SERVICE that names a run within the steps of an expiry is taken after step 6 of that expiry (R4): the steps are
done for every named run before any service changes. A run out of service has none. DESIGN CHOICE (log entry 11). -/
def State.finishNamed (s : State) (rs : List Run) : State :=
  rs.foldl (fun s r => if s.ret.service[r] = .inService then s.finishSteps r else s) s

/-- RUN SERVICE (R2). DEDUCED (log entry 22): the outcomes are a list of status codes in order of run number. -/
def takeRunService (runs : RunSet) (dir : Direction) (s : State) : State × Reply :=
  if (runsOf runs).isEmpty then refuse s .badParam
  else
    let done := (s.finishNamed (runsOf runs)).changeServices dir (runsOf runs)
    (done.1, .okWith (listField done.2 (fun st => [.u8 st.code])))

/-! ### READ RUN (R86) -/

/-- A credit target. DEDUCED (log entry 22): R208 gives "a batch id, or UNBATCHED" no class; the id is sent as an optional
field, and UNBATCHED as its absence mark. -/
def targetFields : CreditTarget → List Field
  | .batch id => optField (some id) (fun n => [.u32 n])
  | .unbatched => optField (none : Option Nat) (fun n => [.u32 n])

/-- Every field of a period record, in R83's order. -/
def recordReply (r : Run) (x : PeriodRecord) : List Field :=
  [.u8 (runNumber r), counterField x.seq, .u32 x.endTime, .u16 x.len, markField x.final, .u16 x.good, .u16 x.reverse,
   .u16 x.phaseErrors, .u8 x.pulseState.code, .u64 x.iv, .u64 x.gv, .u64 x.gsv, .u64 x.nsv, .u64 (x.gsv - x.nsv),
   .u64 x.mass, .u64 x.q, .u32 x.mf, .u32 x.ctl, .u32 x.cpl, .u32 x.ccf]
    ++ usedFields (.t r) x.t ++ usedFields (.p r) x.p ++ usedFields .sw x.sw ++ usedFields .rho x.rho
    ++ [.u8 x.slot.val] ++ targetFields x.target ++ [flagField x.flags.bits]

/-- The five remainders. -/
def remainderFields (x : Remainders) : List Field := [.u32 x.rIV, .u32 x.rGV, .u32 x.rGSV, .u32 x.rNSV, .u16 x.rM]

/-- What READ RUN gives of a run (R86). DEDUCED (log entry 22): the flow state and the pulse state share one presence
byte, and NO_PERIOD is the absence mark of the record. -/
def State.runReply (s : State) (r : Run) : List Field :=
  [.u8 s.ret.service[r].code]
    ++ optField s.pulses[r].flow (fun f => [.u8 f.code, .u8 s.pulses[r].pulseState.code])
    ++ remainderFields s.ret.rem[r] ++ [counterField s.ret.periodSeq[r]]
    ++ optField s.cen[r].latest (recordReply r)

/-- READ RUN (R86). -/
def takeReadRun (number : Nat) (s : State) : State × Reply :=
  match runOfNumber? number with
  | none => refuse s .badParam
  | some r => (s, .okWith (s.runReply r))

/-! ### The commands -/

def execRunService (runs : RunSet) (dir : Direction) (s : State) : Host.Outcome State Fault Refusal :=
  .next (s.request (takeRunService runs dir))

def execPeriodExpiry (r : Run) (s : State) : Host.Outcome State Fault Refusal := .next (s.event (periodExpiry r))

def execPeriodComputation (r : Run) (s : State) : Host.Outcome State Fault Refusal := .next (s.event (computeStep r))

def execPeriodCrediting (r : Run) (s : State) : Host.Outcome State Fault Refusal := .next (s.event (creditStep r))

def execReadRun (number : Nat) (s : State) : Host.Outcome State Fault Refusal :=
  .next (s.request (takeReadRun number))

end Sys2Proof.Machine
end

