-- ==== Sys2Proof/Machine/AlarmTable.lean ====
section
/-! DEFINITION. The Alarm Table's requests (Chapter 10): acknowledgement, READ ALARMS, STATUS, STATUS MATCH, and the station
clock. -/

namespace Sys2Proof.Machine

/-! ### ALARM ACK (R192) -/

/-- An acknowledgement changes the alarm. -/
def State.ackChanges (s : State) (a : AlarmId) : Bool :=
  decide ((s.alarm a).state.acknowledged ≠ (s.alarm a).state)

/-- One alarm is acknowledged: a changed one takes the station clock, and no flag is set. -/
def State.ackAlarm (s : State) (a : AlarmId) : State :=
  if s.ackChanges a then
    { s with alarms := s.alarms.set a.index ⟨(s.alarm a).state.acknowledged, some s.clock⟩ }
  else s

/-- Some alarms are acknowledged, with the number that change. DEDUCED (log entry 22): the number takes 2 bytes, as a
count whose range R192 does not state. -/
def State.ackAlarms (s : State) (as : List AlarmId) : State × Reply :=
  (as.foldl State.ackAlarm s, .okWith [.u16 (as.countP s.ackChanges)])

/-- The alarms that a request names: one, or all 54; none when the fields do not fit each other (R192). -/
def ackTargets? (mark : AckMark) (name : Option AlarmName) (run : Option Nat) : Option (List AlarmId) :=
  match mark, name, run with
  | .all, none, none => some allAlarms
  | .all, _, _ => none
  | .one, none, _ => none
  | .one, some (.station a), none => some [.station a]
  | .one, some (.station _), some _ => none
  | .one, some (.run _), none => none
  | .one, some (.run a), some n => (runOfNumber? n).map (fun r => [.run r a])

/-- ALARM ACK (R192). -/
def takeAlarmAck (mark : AckMark) (name : Option AlarmName) (run : Option Nat) (s : State) : State × Reply :=
  match ackTargets? mark name run with
  | none => refuse s .badParam
  | some as => s.ackAlarms as

/-! ### READ ALARMS (R194) -/

/-- The name of an alarm. -/
def AlarmId.name : AlarmId → AlarmName
  | .station a => .station a
  | .run _ a => .run a

/-- The subject of an alarm, if it has one. -/
def AlarmId.subject? : AlarmId → Option Run
  | .station _ => none
  | .run r _ => some r

/-- What READ ALARMS gives of one alarm. DEDUCED (log entry 22): the subject is an optional field. -/
def State.alarmReply (s : State) (a : AlarmId) : List Field :=
  [.u8 (alarmNameCode a.name)] ++ optField a.subject? (fun r => [.u8 (runNumber r)])
    ++ [.u8 (s.alarm a).state.code] ++ optField (s.alarm a).changed (fun t => [.u32 t])

/-- The alarms asked for: every alarm that is not NORMAL, or all 54. -/
def State.alarmsAsked (s : State) (all : Bool) : List AlarmId :=
  if all then allAlarms else allAlarms.filter (fun a => decide ((s.alarm a).state ≠ .normal))

/-- READ ALARMS (R194). -/
def takeReadAlarms (all : Bool) (s : State) : State × Reply :=
  (s, .okWith (listField (s.alarmsAsked all) s.alarmReply))

/-! ### Summary flags (R198) -/

/-- The summary flags of a run, in R198's order. -/
structure SummaryFlags where
  inService : Bool
  flowing : Bool
  proving : Bool
  pulseDegraded : Bool
  valueNotLive : Bool
  mfDefault : Bool
  alarmNotNormal : Bool
  inBatch : Bool
  deriving DecidableEq, Repr

def SummaryFlags.bits (f : SummaryFlags) : List Bool :=
  [f.inService, f.flowing, f.proving, f.pulseDegraded, f.valueNotLive, f.mfDefault, f.alarmNotNormal, f.inBatch]

/-- At least one of the run's ten alarms is not NORMAL. -/
def State.runAlarmNotNormal (s : State) (r : Run) : Bool :=
  runAlarms.any (fun a => decide ((s.alarm (.run r a)).state ≠ .normal))

/-- The run's latest period record is present and carries MF_DEFAULT. -/
def State.latestDefault (s : State) (r : Run) : Bool :=
  match s.cen[r].latest with
  | some rec => rec.flags.mfDefault
  | none => false

/-- The summary flags of a run as they stand (R198). -/
def State.summaryFlags (s : State) (r : Run) : SummaryFlags :=
  let serving := decide (s.ret.service[r] = .inService)
  { inService := serving
    flowing := serving && decide (s.pulses[r].flow = some .flowing)
    proving := decide (s.psq.state ≠ .idle ∧ s.psq.run = some r)
    pulseDegraded := serving && s.pulses[r].pulseState.degraded
    valueNotLive := s.valueNotLive r
    mfDefault := s.latestDefault r
    alarmNotNormal := s.runAlarmNotNormal r
    inBatch := serving && (s.batchInForce? r).isSome }

/-! ### STATUS (R197) -/

/-- How many alarms are in a state. -/
def State.countAlarms (s : State) (x : AlarmState) : Nat := allAlarms.countP (fun a => decide ((s.alarm a).state = x))

/-- The batch, prove, sampler and archive summaries of STATUS. DEDUCED (log entry 22): the end-pending mark is always
carried, outside the optional id of the ACTIVE batch; the number of VALID slots takes 2 bytes; and the erase is a presence
byte with the state number of its sector, ERASING or ERASE_SUSPENDED. -/
def State.blockSummaries (s : State) : List Field :=
  optField s.ret.active (fun b => [.u32 b.record.id])
    ++ [markField s.ret.endPending, .u8 s.ret.ending.length, .u8 s.ret.queue.length, markField s.ret.slowdown,
        markField s.ret.stop, .u8 s.psq.state.code]
    ++ optField (if s.psq.state = .idle then none else s.psq.run) (fun r => [.u8 (runNumber r)])
    ++ [.u8 (switchCode s.ret.enable), .u8 s.smc.state.code, .u8 s.ret.pendingTickets.length,
        .u16 (s.archive.countSlots 2)]
    ++ optField s.erase (fun e => [.u8 s.archive.sectors[e.sector].state.code])

/-- The fields of a STATUS reply after the event flags, from the state in which the flags have been cleared. DEDUCED (log
entry 22): each of the four numbers of alarms takes 2 bytes, as a count whose own range R197 does not state. -/
def State.statusFields (s : State) : List Field :=
  [.u8 s.seal.code, .u32 s.clock, markField s.ret.clockSet]
    ++ allRuns.map (fun r => flagField (s.summaryFlags r).bits) ++ s.blockSummaries
    ++ [.u16 (s.countAlarms .normal), .u16 (s.countAlarms .activeUnack), .u16 (s.countAlarms .activeAck),
        .u16 (s.countAlarms .returnedUnack), markField s.commonAlarm, markField s.attn]

/-- STATUS (R197): the event flags are copied into the reply and the set is emptied. -/
def takeStatus (s : State) : State × Reply :=
  let s1 := { s with flags := .none }
  (s1, .okWith (flagField s.flags.bits :: s1.statusFields))

/-! ### STATUS MATCH (R199) -/

/-- Every cared-for flag has its wanted value. -/
def pairsMatch : List MatchPair → List Bool → Bool
  | p :: ps, b :: bs => (!p.care || decide (b = p.wantSet)) && pairsMatch ps bs
  | [], _ => true
  | _ :: _, [] => true

/-- The runs that match. -/
def State.matching (s : State) (pairs : List MatchPair) : RunSet :=
  #v[pairsMatch pairs (s.summaryFlags 0).bits, pairsMatch pairs (s.summaryFlags 1).bits,
     pairsMatch pairs (s.summaryFlags 2).bits, pairsMatch pairs (s.summaryFlags 3).bits]

/-- STATUS MATCH (R199). DEDUCED (log entry 22): the reply carries the set of runs as one run set (R208), which may be
empty, and not as a list of run numbers. -/
def takeStatusMatch (pairs : List MatchPair) (s : State) : State × Reply :=
  if pairs.length = 8 then (s, .okWith [runSetField (s.matching pairs)]) else refuse s .badParam

/-! ### The station clock (R200) -/

/-- The clock one second later, holding at its top. -/
def nextSecond (clock : Seconds) : Seconds := min Config.top32 (clock + 1)

/-- The clock takes the next second. -/
def State.tickClock (s : State) : State :=
  { s with
    now := max s.now (s.secondFrom + Config.ticksPerSecond)
    clock := nextSecond s.clock
    secondFrom := s.secondFrom + Config.ticksPerSecond }

/-- The last-seen time takes the station clock, as one retained update (R94). -/
def State.writeLastSeen (s : State) : State :=
  (s.modRet (fun ret => { ret with lastSeen := s.clock })).retainedUpdate

/-- One second of a running module. -/
def clockSecond (s : State) : State := s.tickClock.writeLastSeen

/-- SET TIME (R200). -/
def takeSetTime (value : Nat) (s : State) : State × Reply :=
  if value ≤ Config.top32 then
    let s1 := { s.appendAudit (.timeSet s.clock value) with clock := value, secondFrom := s.now }
    let s2 := s1.modRet (fun ret => { ret with clockSet := true, lastSeen := value })
    ((s2.clearAlarm (.station .timeUnset)).retainedUpdate, .justOk)
  else refuse s .badParam

/-! ### The commands -/

def execAlarmAck (mark : AckMark) (name : Option AlarmName) (run : Option Nat) (s : State) :
    Host.Outcome State Fault Refusal :=
  .next (s.request (takeAlarmAck mark name run))

def execReadAlarms (all : Bool) (s : State) : Host.Outcome State Fault Refusal := .next (s.request (takeReadAlarms all))

def execStatus (s : State) : Host.Outcome State Fault Refusal := .next (s.request takeStatus)

def execStatusMatch (pairs : List MatchPair) (s : State) : Host.Outcome State Fault Refusal :=
  .next (s.request (takeStatusMatch pairs))

def execSetTime (value : Nat) (s : State) : Host.Outcome State Fault Refusal := .next (s.request (takeSetTime value))

/-- The clock runs on the battery while the module takes no events (R98, R200). DEDUCED (log entry 8). -/
def execClockSecond (s : State) : Host.Outcome State Fault Refusal :=
  match s.phase with
  | .running => .next (s.event clockSecond)
  | _ => .next s.tickClock

end Sys2Proof.Machine
end

