-- ==== Sys2Proof/Machine/Outputs.lean ====
section
/-! DEFINITION. The eleven outputs of the polarity set (R52): their logical states, which the owning blocks hold, and their
electrical levels under the polarity in parameter memory. -/

namespace Sys2Proof.Machine

/-- The place of an output in R52's order. -/
def Output.index : Output → Fin 11
  | .route r => ⟨r.val, by have := r.isLt; omega⟩
  | .proverDir => 4
  | .grab => 5
  | .canSelect => 6
  | .slowdown => 7
  | .stop => 8
  | .attn => 9
  | .commonAlarm => 10

/-- The logical state at which the owning block drives an output: active or inactive (R118, R128, R157, R193, R196).
DEDUCED (log entry 23). -/
def State.logical (s : State) : Output → Bool
  | .route r => s.psq.route[r]
  | .proverDir => s.psq.dirReverse
  | .grab => s.smc.grab
  | .canSelect => s.smc.canSelect
  | .slowdown => s.ret.slowdown
  | .stop => s.ret.stop
  | .attn => s.attn
  | .commonAlarm => s.commonAlarm

/-- The outputs are driven by their blocks only while the module runs; otherwise each is held inactive (R52, R100). -/
def State.driven (s : State) (o : Output) : Bool := decide (s.phase = .running) && s.logical o

/-- The electrical level of an output, high or low, under the polarity set in parameter memory (R52). DEDUCED (log
entry 23). -/
def State.level (s : State) (o : Output) : Bool := s.driven o != s.params.station.activeLow[o.index]

/-- What TXD carries: the idle level of the line, or the bytes of one reply frame. -/
inductive LineOut
  | idle
  | frame (bytes : List Byte)
  deriving DecidableEq, Repr

/-- TXD: a reply frame while the module runs and the transmitter is SENDING it (R206); the idle level otherwise, and from
the stop until the completion of a start whatever the transmitter was sending (R214, R215). -/
def State.txd (s : State) : LineOut :=
  match s.phase, s.link.sending with
  | .running, some bytes => .frame bytes
  | .running, none => .idle
  | .stopped, _ => .idle
  | .starting _ _, _ => .idle

end Sys2Proof.Machine
end

