-- ==== Sys2Proof/Machine/Starts.lean ====
section
/-! DEFINITION. Stops and starts (section 5.6 and every chapter's start behaviour): power, RESET_N, the RESTART request, the
decision of a start, and its completion. -/

namespace Sys2Proof.Machine

/-! ### Stopping (section 5.6) -/

/-- What a power failure or an assertion of RESET_N strikes (R94, R171, R172, R174, R184). DESIGN CHOICE (log entry
7): the command names what is struck. Apart from the half-done states that the operand gives, an event that changes
several items, be they slots, sectors, the newest-sector pointer, retained content, parameter memory or the audit
ring, is found with all its changes or with none; and of several audit entries that one event appends, only the first
append can be found torn. -/
def State.struck (s : State) : Strike → State
  | .nothing => s
  | .retainedUpdate =>
    match s.current with
    | .a => { s with bankB := { s.bankB with intact := false } }
    | .b => { s with bankA := { s.bankA with intact := false } }
  | .auditAppend =>
    let position := s.auditNext.toNat % Config.ringSize
    { s with
      audit :=
        { entries := s.audit.entries.filter (fun e => decide (e.seq.toNat % Config.ringSize ≠ position))
          torn := some position } }
  | .closeAfterMark =>
    if s.ret.ticketCounter = 0 then s else s.modArchive (fun a => { a with numberMark := s.ret.ticketCounter })
  | .writeAfterValid =>
    match s.write, s.ret.pendingTickets with
    | some w, p :: _ => s.modArchive (fun a => a.modSector w.sector (fun x => x.setSlot w.slot (.valid p.ticket)))
    | some _, [] => s
    | none, _ => s

/-- The module stops; nothing more is struck when it has stopped already. -/
def State.halted (s : State) (strike : Strike) : State :=
  match s.phase with
  | .stopped => s
  | .running => { s.struck strike with phase := .stopped }
  | .starting _ _ => { s.struck strike with phase := .stopped }

/-- Power fails. -/
def powerFail (strike : Strike) (s : State) : State :=
  if s.powered then { s.halted strike with powered := false } else s

/-- RESET_N becomes active. -/
def resetAssert (strike : Strike) (s : State) : State :=
  if s.resetActive then s else { s.halted strike with resetActive := true }

/-! ### The beginning of a start (R97) -/

/-- The bank from which a start goes on: the valid one, or of two valid ones the one with the later generation. -/
def State.chosenBank? (s : State) : Option BankId :=
  match s.bankA.intact, s.bankB.intact with
  | true, true => if atOrAfter s.bankA.generation s.bankB.generation then some .a else some .b
  | true, false => some .a
  | false, true => some .b
  | false, false => none

/-- The content of a bank. -/
def State.bankContent (s : State) : BankId → Retained
  | .a => s.bankA.content
  | .b => s.bankB.content

/-- A start taken on power-up or on the release of RESET_N begins (R97). -/
def State.beginStart (s : State) : State :=
  match s.chosenBank? with
  | some bank => { s with current := bank, ret := s.bankContent bank, phase := .starting .warm .reset }
  | none => { s with phase := .starting .cold .retainedInvalid }

/-- Power is applied; the battery has held the retained banks or not. While RESET_N is active no start begins. DESIGN
CHOICE (log entry 28). -/
def powerUp (batteryHeld : Bool) (s : State) : State :=
  if s.powered then s
  else
    let s1 :=
      if batteryHeld then { s with powered := true }
      else
        { s with
          powered := true
          bankA := { s.bankA with intact := false }
          bankB := { s.bankB with intact := false } }
    if s1.resetActive then s1 else s1.beginStart

/-- RESET_N returns inactive. -/
def resetRelease (s : State) : State :=
  if s.resetActive then
    if s.powered then { s with resetActive := false }.beginStart else { s with resetActive := false }
  else s

/-! ### RESTART (R101, R214) -/

/-- RESTART is accepted: the restart mark is set. -/
def State.markRestart (s : State) (kind : StartKind) : State :=
  { s with link := { s.link with restartMark := some kind } }

/-- RESTART (R101). -/
def takeRestart (kind : StartKind) (s : State) : State × Reply :=
  match kind, s.seal with
  | .cold, .closed => refuse s .isSealed
  | .cold, .opened => (s.markRestart .cold, .justOk)
  | .warm, _ => (s.markRestart .warm, .justOk)

/-- The reply of an accepted RESTART has left TXD: the banks are prepared, the module stops, and the start begins. -/
def State.restart (s : State) (kind : StartKind) : State :=
  let s1 := { s with link := { s.link with restartMark := none, sending := none } }
  match kind with
  | .warm => { s1.writeLastSeen with phase := .starting .warm .request }
  | .cold =>
    { s1 with
      bankA := { s1.bankA with intact := false }
      bankB := { s1.bankB with intact := false }
      phase := .starting .cold .request }

/-! ### The completion of a start: each block -/

/-- The PIU (R8, R22, R23): the filters settle, and the in-service runs begin counting. DEDUCED (log entry 9): an
out-of-service run reads its settings too. -/
def State.startRun (s : State) (r : Run) : RunPulse :=
  let x : RunPulse :=
    { RunPulse.reset with
      chA := s.pulses[r].chA.settle
      chB := s.pulses[r].chB.settle
      settings := settingsOf s.params.meter[r] }
  match s.ret.service[r] with
  | .inService => x.beginCounting s.params.meter[r] s.now
  | .outOfService => x

/-- The PSQ (R127 to R129): the inputs settle and everything else is lost. -/
def ProverSeq.start (x : ProverSeq) : ProverSeq :=
  { ProverSeq.reset with
    routeOk := x.routeOk.settle
    valveFwd := x.valveFwd.settle
    valveRev := x.valveRev.settle
    det1 := x.det1.settle
    det2 := x.det2.settle }

/-- The SMC (R164, R169, R170): the inputs settle, and the state follows the enable and the selected can. -/
def State.startSampler (s : State) : Sampler :=
  let x : Sampler := { Sampler.reset with full1 := s.smc.full1.settle, full2 := s.smc.full2.settle }
  match s.ret.enable, s.ret.selectedCan with
  | .off, .can1 => x
  | .off, .can2 => { x with canSelect := true }
  | .on, .can1 => { x with state := .ready }
  | .on, .can2 =>
    { x with state := .swapping, canSelect := true, swapTimer := some (s.now + Config.swapTime) }

/-- The line rate of the straps (R203). DESIGN CHOICE (log entry 27). -/
def rateOf (baud1 baud0 : Bool) : LineRate :=
  match baud1, baud0 with
  | false, false => .b9600
  | false, true => .b19200
  | true, false => .b38400
  | true, true => .b115200

/-- The LNK (R215): the rate is read from the straps. -/
def Link.start (x : Link) : Link :=
  { Link.reset with rate := rateOf x.baud1 x.baud0, baud1 := x.baud1, baud0 := x.baud0 }

/-- A slot that was WRITING becomes DEFECTIVE (R185). -/
def SlotState.recover : SlotState → SlotState
  | .writing => .defective
  | .empty => .empty
  | .valid t => .valid t
  | .retrieved t => .retrieved t
  | .defective => .defective

/-- A sector whose erase was in progress becomes ERASING (R185). -/
def SectorState.recover : SectorState → SectorState
  | .eraseSuspended => .erasing
  | .erasing => .erasing
  | .erased => .erased
  | .opened => .opened
  | .full => .full

/-- A sector examined at a start (R185). -/
def ArchiveSector.recover (x : ArchiveSector) : ArchiveSector :=
  { x with state := x.state.recover, slots := forEight (fun j => x.slots[j].recover) }

/-- Archive memory examined at a start (R185). -/
def Archive.recover (a : Archive) : Archive := { a with sectors := forEight (fun i => a.sectors[i].recover) }

/-- The erase that a start takes up again from the beginning (R185). -/
def Archive.restartedErase? (a : Archive) (now : Moment) : Option EraseInProgress :=
  (allEight.find? (fun i => decide (a.sectors[i].state = .erasing))).map (fun i => ⟨i, Config.eraseTime, some now⟩)

/-- The audit ring read at a start: an append that was struck counts as empty (R184). -/
def AuditRing.scan (x : AuditRing) : AuditRing := { x with torn := none }

/-- The next sequence number that the ring gives (R184). -/
def AuditRing.nextSequence (x : AuditRing) : Counter :=
  match x.entries.getLast? with
  | none => 1
  | some e => e.seq + 1

/-- All volatile state at the completion of a start, before any owner acts: inputs settled, alarms NORMAL, and RESTARTED
alone in the event flag set (R202). Archive memory is examined and the audit ring read. -/
def State.freshen (s : State) : State :=
  let archive := s.archive.recover
  { s with
    phase := .running
    sealInput := s.sealInput.settle
    staging := none
    pulses := forRuns s.startRun
    cen := Vector.replicate 4 .reset
    values := Vector.replicate 12 .reset
    snapshot := none
    snapshotSeq := 0
    psq := s.psq.start
    smc := s.startSampler
    archive := archive
    write := none
    erase := archive.restartedErase? s.now
    audit := s.audit.scan
    auditNext := s.audit.scan.nextSequence
    alarms := Vector.replicate 54 .normal
    flags := EventFlags.none.add .restarted
    link := s.link.start
    reply := none }

/-! ### Retained memory at a start -/

/-- The highest of the number mark and the numbers in the archive (R187). -/
def Archive.highestNumber (a : Archive) : Nat := a.ticketNumbers.foldl max a.numberMark

/-- The content that a cold start gives retained memory (R99, R187). DESIGN CHOICE (log entry 28): written at the
completion. -/
def State.coldContent (s : State) : Retained := .cold (nextTicketNumber s.archive.recover.highestNumber)

/-- A cold start sets retained memory and the station clock (R99, R201). -/
def State.coldRetained (s : State) : State :=
  { s with
    ret := s.coldContent
    bankA := ⟨s.coldContent, 0, true⟩
    bankB := ⟨s.coldContent, 0, true⟩
    current := .a
    clock := 0
    secondFrom := s.now }

/-- The grabs of a batch that were queued when the module stopped (R169). -/
def Sampling.queued (x : Sampling) : Nat := x.due - (x.taken + x.missed)

/-- They become missed. -/
def Sampling.recover (x : Sampling) : Sampling := { x with missed := x.missed + x.queued }

/-- A batch at a warm start: no queued grabs (R169). -/
def Batch.recover (b : Batch) : Batch := b.modSampling Sampling.recover

/-- A ticket found WRITING becomes QUEUED (R186). -/
def PendingTicket.requeue (p : PendingTicket) : PendingTicket := { p with writing := false }

/-- The pending queue less the tickets that are already in the archive (R186). -/
def reconcile (numbers : List Nat) (ps : List PendingTicket) : List PendingTicket :=
  (ps.filter (fun p => !numbers.contains p.ticket.number)).map PendingTicket.requeue

/-- Retained memory at a warm start: owing runs are empty (R125), queued grabs missed (R169), the pending queue compared
with the archive (R186). -/
def State.warmRetained (s : State) : State :=
  s.modRet (fun ret =>
    { ret with
      active := ret.active.map Batch.recover
      ending := ret.ending.map (fun b => { b.recover with owing := noRuns })
      pendingTickets := reconcile s.archive.recover.ticketNumbers ret.pendingTickets })

/-- Some batch has queued grabs that the recovery will count as missed. -/
def State.missesGrabs (s : State) : Bool := s.liveBatches.any (fun b => decide (0 < b.sampling.queued))

/-- The prove marker found at a warm start: DISCARDED with the pending result, else ABORTED with reason RESTART
(R155). -/
def State.resolveMarker (s : State) : State :=
  match s.ret.marker with
  | none => s
  | some m =>
    match m.result with
    | some res => s.recordOutcome m.attempts (.discarded res)
    | none => s.recordOutcome m.attempts (.aborted true)

/-! ### The completion, in order (R100, R202) -/

/-- SEAL_CHANGE if the seal was found changed, and SEAL_OPEN if it is open (R65). -/
def State.startSeal (s : State) : State :=
  let s1 :=
    if s.recordedSeal = s.seal then s
    else { s.appendAudit (.sealChange s.recordedSeal s.seal true) with recordedSeal := s.seal }
  if s1.seal = .opened then s1.raiseAlarm (.station .sealOpen) else s1

/-- The quality conditions of all twelve values are raised (R43). -/
def State.startQualities (s : State) : State := allValues.foldl (fun s v => s.syncQualityAlarm v) s

/-- TIME_UNSET is raised if the clock-set mark is clear (R201). -/
def State.startClock (s : State) : State :=
  if s.ret.clockSet then s else s.raiseAlarm (.station .timeUnset)

/-- The TAR tries to start a write and, if none starts, tests reclaim (R185). -/
def State.startArchive (s : State) : State := s.tryStartWrite.testReclaim

/-- The completion of a cold start (R99). -/
def State.completeCold (s : State) (cause : StartCause) : State :=
  let s1 := s.coldRetained.freshen.appendAudit (.coldStart cause)
  let s2 := s1.startSeal.startQualities.pulseAlarm (.station .retainedLost)
  s2.startClock.startArchive

/-- The completion of a warm start (R98). -/
def State.completeWarm (s : State) (cause : StartCause) : State :=
  let s1 := s.warmRetained.freshen.appendAudit (.warmStart s.ret.lastSeen s.clock cause)
  let s2 := s1.startSeal.startQualities
  let s3 := if s.missesGrabs then s2.pulseAlarm (.station .samplerMissed) else s2
  (s3.startClock.resolveMarker).closeTests.startArchive

/-- The completion of a start (R100). -/
def startCompletion (s : State) : State :=
  match s.phase with
  | .starting .cold cause => (s.completeCold cause).settle
  | .starting .warm cause => (s.completeWarm cause).settle
  | .running => s
  | .stopped => s

/-! ### The commands -/

def execRestart (kind : StartKind) (s : State) : Host.Outcome State Fault Refusal :=
  .next (s.request (takeRestart kind))

def execPowerUp (batteryHeld : Bool) (s : State) : Host.Outcome State Fault Refusal := .next (powerUp batteryHeld s)

def execPowerFail (strike : Strike) (s : State) : Host.Outcome State Fault Refusal := .next (powerFail strike s)

def execResetNAssert (strike : Strike) (s : State) : Host.Outcome State Fault Refusal :=
  .next (resetAssert strike s)

def execResetNRelease (s : State) : Host.Outcome State Fault Refusal := .next (resetRelease s)

def execStartCompletion (s : State) : Host.Outcome State Fault Refusal := .next (startCompletion s)

end Sys2Proof.Machine
end

