-- ==== Sys2Proof/Machine/Link.lean ====
section
/-! DEFINITION. The Link Controller (Chapter 11): the framer and its gap timer, the transmitter and the waiting frame,
dispatch with the decoding of every request body of the catalogue, and reply frames. -/

namespace Sys2Proof.Machine

/-! ### Request bodies (R207, R209, R213) -/

/-- What an owner does with a request: the event and the reply formed in it. -/
abbrev Owner := State → State × Reply

/-- A list of readings, if every one of them names a member. -/
def allSome {α : Type} : List (Option α) → Option (List α)
  | [] => some []
  | none :: _ => none
  | some a :: xs => (allSome xs).map (fun as => a :: as)

/-- A request without fields. -/
def noFields (f : Owner) : List Byte → Parse (Option Owner) := readNothing (some f)

/-- A request of one unsigned field of `k` bytes. -/
def oneNumber (k : Nat) (f : Nat → Owner) : List Byte → Parse (Option Owner) :=
  readThen (readUnsigned k) fun n => readNothing (some (f n))

/-- A request of one enumerated field. -/
def oneMember {α : Type} (members : List α) (f : α → Owner) : List Byte → Parse (Option Owner) :=
  readThen (readMember members) fun m => readNothing (m.map f)

def readRunServiceBody : List Byte → Parse (Option Owner) :=
  readThen readRunSet fun runs =>
  readThen (readMember [Direction.into, Direction.out]) fun dir =>
  readNothing (runs.bind fun rs => dir.map fun d => takeRunService rs d)

def readLiveEntry : List Byte → Parse (Option LiveEntry) :=
  readThen (readUnsigned 1) fun index =>
  readThen (readMember [TransmitterStatus.ok, TransmitterStatus.fault]) fun status =>
  readThen readSigned fun value =>
  readNothing (status.map fun st => ⟨index, st, value⟩)

def readLiveValuesBody : List Byte → Parse (Option Owner) :=
  readThen (readList readLiveEntry) fun entries => readNothing ((allSome entries).map takeLiveValues)

def readReadValuesBody : List Byte → Parse (Option Owner) :=
  readThen (readMember [ListMark.list, ListMark.all]) fun mark =>
  readThen (readList (readUnsigned 1)) fun indices =>
  readNothing (mark.map fun m => takeReadValues m indices)

def readOverrideSetBody : List Byte → Parse (Option Owner) :=
  readThen (readUnsigned 1) fun index =>
  readThen readSigned fun value =>
  readNothing (some (takeOverrideSet index value))

/-- The section kinds in the order of R44. -/
def sectionKinds : List SectionKind := [.meter, .curves, .products, .productMap, .prover, .station]

/-- An optional field whose value must name a member: absent, named, or refused. -/
def namedOption {α : Type} : Option (Option α) → Option (Option α)
  | none => some none
  | some none => none
  | some (some a) => some (some a)

def readStageOpenBody : List Byte → Parse (Option Owner) :=
  readThen (readMember sectionKinds) fun kind =>
  readThen (readOptional readRunSet) fun runs =>
  readThen (readUnsigned 1) fun count =>
  readNothing (kind.bind fun k => (namedOption runs).map fun rs => takeStageOpen k rs count)

def readReadTotalsBody : List Byte → Parse (Option Owner) :=
  readThen (readMember [TotalsSource.live, TotalsSource.snapshot]) fun source =>
  readThen (readMember [TotalsPart.station, TotalsPart.run, TotalsPart.batch]) fun part =>
  readThen (readOptional (readUnsigned 1)) fun run =>
  readThen (readOptional (readUnsigned 4)) fun batchId =>
  readNothing (source.bind fun src => part.map fun p => takeReadTotals src p run batchId)

/-- A vessel name holds no character outside 20h to 7Eh (R209). -/
def vesselPrintable : Option Text → Bool
  | none => true
  | some t => t.all printable

/-- BATCH QUEUE ADD. DEDUCED (log entry 22): the target and the margin take 4 bytes. -/
def readBatchQueueAddBody : List Byte → Parse (Option Owner) :=
  readThen (readUnsigned 4) fun id =>
  readThen (readUnsigned 1) fun code =>
  readThen (readOptional readText) fun vessel =>
  readThen (readOptional (readUnsigned 4)) fun target =>
  readThen (readOptional (readUnsigned 4)) fun margin =>
  readThen (readOptional (readUnsigned 2)) fun density =>
  readThen (readOptional (readUnsigned 1)) fun can =>
  readNothing
    (if vesselPrintable vessel then some (takeBatchQueueAdd ⟨id, code, vessel, target, margin, density, can⟩) else none)

/-- A wanted value, set or clear, and a care mark, cared or don't-care (R199). -/
def readMatchPair : List Byte → Parse (Option MatchPair) :=
  readThen (readMember [true, false]) fun want =>
  readThen (readMember [true, false]) fun care =>
  readNothing (want.bind fun w => care.map fun c => ⟨w, c⟩)

def readStatusMatchBody : List Byte → Parse (Option Owner) :=
  readThen (readList readMatchPair) fun pairs => readNothing ((allSome pairs).map takeStatusMatch)

def readAlarmAckBody : List Byte → Parse (Option Owner) :=
  readThen (readMember [AckMark.one, AckMark.all]) fun mark =>
  readThen (readOptional (readMember alarmNames)) fun name =>
  readThen (readOptional (readUnsigned 1)) fun run =>
  readNothing (mark.bind fun m => (namedOption name).map fun n => takeAlarmAck m n run)

/-- The mark ALL is the one member of its field. DEDUCED (log entry 16). -/
def readReadAlarmsBody : List Byte → Parse (Option Owner) :=
  readThen (readOptional (readMember [true])) fun mark =>
  readNothing ((namedOption mark).map fun m => takeReadAlarms m.isSome)

/-- STAGE ITEM passes any body of one byte or more to the Parameter Store (R207). -/
def readStageItemBody : List Byte → Parse (Option Owner)
  | [] => .short
  | b :: bs => .done (some (takeStageItem (b :: bs))) []

/-- The catalogue of R213: the reader of a kind's body, if the kind is in it. -/
def catalogue : Nat → Option (List Byte → Parse (Option Owner))
  | 0x01 => some readRunServiceBody
  | 0x08 => some readLiveValuesBody
  | 0x09 => some readReadValuesBody
  | 0x0A => some readOverrideSetBody
  | 0x0B => some (oneNumber 1 takeOverrideRelease)
  | 0x10 => some readStageOpenBody
  | 0x11 => some readStageItemBody
  | 0x12 => some (noFields takeStageCommit)
  | 0x13 => some (noFields takeStageCancel)
  | 0x14 => some (oneNumber 1 takeLockSection)
  | 0x15 => some (noFields takeUnlockAll)
  | 0x16 => some (oneNumber 1 takeReadSection)
  | 0x18 => some (oneNumber 1 takeReadRun)
  | 0x20 => some (noFields takeFreeze)
  | 0x21 => some readReadTotalsBody
  | 0x22 => some (oneMember [StartKind.warm, StartKind.cold] takeRestart)
  | 0x28 => some readBatchQueueAddBody
  | 0x29 => some (oneNumber 4 takeBatchQueueRemove)
  | 0x2A => some (noFields takeBatchStart)
  | 0x2B => some (noFields takeBatchEnd)
  | 0x2C => some (noFields takeBatchChange)
  | 0x2D => some (noFields takeBatchList)
  | 0x30 => some (oneNumber 1 takeProveStart)
  | 0x31 => some (noFields takeProveAccept)
  | 0x32 => some (noFields takeProveReject)
  | 0x33 => some (noFields takeProveAbort)
  | 0x34 => some (noFields takeReadProve)
  | 0x38 => some (oneNumber 1 takeCanReset)
  | 0x39 => some (oneMember [Switch.on, Switch.off] takeSamplerEnable)
  | 0x3A => some (noFields takeReadSampler)
  | 0x40 => some (oneNumber 4 takeTicketRead)
  | 0x41 => some (oneNumber 4 takeTicketAck)
  | 0x42 => some (noFields takeArchiveStatus)
  | 0x43 => some (oneNumber 4 (fun n => takeAuditRead (BitVec.ofNat 32 n)))
  | 0x48 => some (noFields takeStatus)
  | 0x49 => some readStatusMatchBody
  | 0x4A => some readAlarmAckBody
  | 0x4B => some readReadAlarmsBody
  | 0x4C => some (oneNumber 4 takeSetTime)
  | _ => none

/-! ### The request frame of a command (R208, R211, R213) -/

/-! The numbers of the members of the request enumerations, in the order of R213. DEDUCED (log entry 13). -/

def directionCode : Direction → Nat
  | .into => 0 | .out => 1

def transmitterCode : TransmitterStatus → Nat
  | .ok => 0 | .fault => 1

def listMarkCode : ListMark → Nat
  | .list => 0 | .all => 1

def sectionKindCode : SectionKind → Nat
  | .meter => 0 | .curves => 1 | .products => 2 | .productMap => 3 | .prover => 4 | .station => 5

def sourceCode : TotalsSource → Nat
  | .live => 0 | .snapshot => 1

def partCode : TotalsPart → Nat
  | .station => 0 | .run => 1 | .batch => 2

def startKindCode : StartKind → Nat
  | .warm => 0 | .cold => 1

def ackMarkCode : AckMark → Nat
  | .one => 0 | .all => 1

/-- The kind and the fields of the frame in which the host sends a request, in the order of R213's table; none for an
event of a block, and for a STAGE ITEM, whose body is its one item (R212). In STATUS MATCH a wanted value is 0 for set
and a care mark 0 for cared for (log entry 13). -/
def requestFields? : Instr → Option (Byte × List Field)
  | .runService runs dir => some (0x01, [runSetField runs, .u8 (directionCode dir)])
  | .liveValues entries =>
    some (0x08, listField entries (fun e => [.u8 e.index, .u8 (transmitterCode e.status), .s32 e.value]))
  | .readValues mark indices => some (0x09, .u8 (listMarkCode mark) :: listField indices (fun n => [.u8 n]))
  | .overrideSet index value => some (0x0A, [.u8 index, .s32 value])
  | .overrideRelease index => some (0x0B, [.u8 index])
  | .stageOpen kind runs count =>
    some (0x10, .u8 (sectionKindCode kind) :: optField runs (fun rs => [runSetField rs]) ++ [.u8 count])
  | .stageCommit => some (0x12, [])
  | .stageCancel => some (0x13, [])
  | .lockSection number => some (0x14, [.u8 number])
  | .unlockAll => some (0x15, [])
  | .readSection number => some (0x16, [.u8 number])
  | .readRun number => some (0x18, [.u8 number])
  | .freeze => some (0x20, [])
  | .readTotals source part run batchId =>
    some (0x21,
      [.u8 (sourceCode source), .u8 (partCode part)] ++ optField run (fun n => [.u8 n]) ++ optField batchId (fun n => [.u32 n]))
  | .restart kind => some (0x22, [.u8 (startKindCode kind)])
  | .batchQueueAdd record => some (0x28, recordFields record)
  | .batchQueueRemove id => some (0x29, [.u32 id])
  | .batchStart => some (0x2A, [])
  | .batchEnd => some (0x2B, [])
  | .batchChange => some (0x2C, [])
  | .batchList => some (0x2D, [])
  | .proveStart number => some (0x30, [.u8 number])
  | .proveAccept => some (0x31, [])
  | .proveReject => some (0x32, [])
  | .proveAbort => some (0x33, [])
  | .readProve => some (0x34, [])
  | .canReset number => some (0x38, [.u8 number])
  | .samplerEnable enable => some (0x39, [.u8 (switchCode enable)])
  | .readSampler => some (0x3A, [])
  | .ticketRead number => some (0x40, [.u32 number])
  | .ticketAck number => some (0x41, [.u32 number])
  | .archiveStatus => some (0x42, [])
  | .auditRead start => some (0x43, [counterField start])
  | .status => some (0x48, [])
  | .statusMatch pairs =>
    some (0x49, listField pairs (fun p => [.u8 (if p.wantSet then 0 else 1), .u8 (if p.care then 0 else 1)]))
  | .alarmAck mark name run =>
    some (0x4A,
      .u8 (ackMarkCode mark) :: optField name (fun n => [.u8 (alarmNameCode n)]) ++ optField run (fun n => [.u8 n]))
  | .readAlarms all => some (0x4B, optField (if all then some () else none) (fun _ => [.u8 0]))
  | .setTime value => some (0x4C, [.u32 value])
  | .stageItem _ => none
  | .pulseInputChange _ _ _ => none
  | .pulseFilterAccept _ _ => none
  | .periodExpiry _ => none
  | .periodComputation _ => none
  | .periodCrediting _ => none
  | .staleTimerExpiry _ => none
  | .holdTimerExpiry _ => none
  | .stagingInactivityExpiry => none
  | .sealInputChange _ => none
  | .sealChange => none
  | .routeOkChange => none
  | .valveInputChange _ => none
  | .proverInputChange _ _ => none
  | .detectorEvent _ => none
  | .detectorLockoutExpiry _ => none
  | .valveTimerExpiry => none
  | .passTimerExpiry => none
  | .tailTimerExpiry => none
  | .widthTimerExpiry => none
  | .intervalTimerExpiry => none
  | .swapTimerExpiry => none
  | .canfullInputChange _ _ => none
  | .canfullChange _ => none
  | .writeCompletion _ => none
  | .eraseCompletion => none
  | .clockSecond => none
  | .rxCharacter _ _ => none
  | .gapTimerExpiry => none
  | .transmissionComplete => none
  | .powerUp _ => none
  | .powerFail _ => none
  | .resetNAssert _ => none
  | .resetNRelease => none
  | .startCompletion => none
  | .detectorReturnInactive _ => none

/-- The frame in which the host sends a request under a tag. -/
def requestFrame? (tag : Byte) (c : Instr) : Option Frame :=
  match c with
  | .stageItem body => some ⟨0x11, tag, body⟩
  | c => (requestFields? c).map (fun x => ⟨x.1, tag, fieldBytes x.2⟩)

/-! ### Dispatch (R206, R207) -/

/-- What the LNK makes of a frame: it discards it, refuses it itself, or hands it to its owner. -/
inductive Verdict
  | discard
  | refusal (st : Status)
  | owner (f : Owner)

/-- A body that ends too soon or too late has a bad length, judged before any field (R207); one whose fields name no
member, or that holds a presence byte other than 0 and 1, is refused with BAD_PARAM (R209). -/
def judgeBody (p : Parse (Option Owner)) : Verdict :=
  if p.fits then
    match p with
    | .done (some f) _ => .owner f
    | .done none _ => .refusal .badParam
    | .short => .refusal .badParam
    | .either _ _ => .refusal .badParam
  else .refusal .badLength

/-- The judgement of a frame (R207). -/
def judgeFrame (f : Frame) : Verdict :=
  if 0x80 ≤ f.kind.toNat then .discard
  else
    match catalogue f.kind.toNat with
    | none => .refusal .unknownKind
    | some reader => judgeBody (reader f.body)

/-- The bytes of a reply frame (R204, R210): the request's kind plus 80h, its tag, the status code and the fields. -/
def replyFrame (f : Frame) (reply : Reply) : List Byte :=
  let body := leBytes 1 reply.status.code ++ fieldBytes reply.fields
  let checked := leBytes 2 body.length ++ [f.kind + 0x80#8, f.tag] ++ body
  0xA5#8 :: checked ++ leBytes 2 (crc16 checked).toNat

/-- A reply starts on TXD: the transmitter is SENDING. -/
def State.send (s : State) (f : Frame) (reply : Reply) : State :=
  { s with reply := some reply, link := { s.link with sending := some (replyFrame f reply) } }

/-- A frame is dispatched (R207). -/
def State.dispatch (s : State) (f : Frame) : State :=
  match judgeFrame f with
  | .discard => s
  | .refusal st => s.send f ⟨st, []⟩
  | .owner take => (take s).1.send f (take s).2

/-- A complete frame (R206). -/
def State.frameComplete (s : State) (f : Frame) : State :=
  match s.link.restartMark, s.link.sending, s.link.waiting with
  | some _, _, _ => s
  | none, none, _ => s.dispatch f
  | none, some _, none => { s with link := { s.link with waiting := some f } }
  | none, some _, some _ => s

/-! ### The framer (R203, R205) -/

/-- The framer in HUNT with the gap timer stopped. -/
def Link.hunting (x : Link) : Link := { x with framer := .hunt, gapTimer := none }

/-- The framer has taken a byte of a frame other than its last, and the gap timer runs. -/
def Link.taking (x : Link) (taken : List Byte) (now : Moment) : Link :=
  { x with framer := .receiving taken, gapTimer := some (now + Config.gapTime) }

/-- The longest body of a request (R204). -/
def maxBody : Nat := 1024

/-- The body length that the first two bytes after the start byte give. -/
def frameLength (taken : List Byte) : Nat := ofLe (taken.take 2)

/-- The frame that its bytes after the start byte make: length, kind, tag, body and CRC. -/
def frameOf (taken : List Byte) : Frame where
  kind := (taken[2]?).getD 0
  tag := (taken[3]?).getD 0
  body := (taken.drop 4).take (frameLength taken)

/-- The CRC agrees with the bytes before it. -/
def crcAgrees (taken : List Byte) : Bool :=
  decide (ofLe (taken.drop (taken.length - 2)) = (crc16 (taken.take (taken.length - 2))).toNat)

/-- A byte is taken inside a frame; `taken` are the bytes after the start byte, with this one. -/
def State.frameByte (s : State) (taken : List Byte) : State :=
  if taken.length < 2 then { s with link := s.link.taking taken s.now }
  else if maxBody < frameLength taken then { s with link := s.link.hunting }
  else if taken.length < frameLength taken + 6 then { s with link := s.link.taking taken s.now }
  else
    let s1 := { s with link := s.link.hunting }
    if crcAgrees taken then s1.frameComplete (frameOf taken) else s1

/-- A character is received (R203, R205). -/
def rxCharacter (byte : Byte) (stopBit : Bool) (s : State) : State :=
  if stopBit then
    match s.link.framer with
    | .hunt => if byte = 0xA5#8 then { s with link := s.link.taking [] s.now } else s
    | .receiving taken => s.frameByte (taken ++ [byte])
  else { s with link := s.link.hunting }

/-- The gap timer expires: the partial frame is discarded (R205). -/
def gapExpiry (s : State) : State :=
  match s.link.gapTimer with
  | none => s
  | some d => { s.atMoment d with link := s.link.hunting }

/-- The last byte of a reply has left TXD: a restart that was accepted stops the module (R101, R214); otherwise the
transmitter becomes IDLE and the waiting frame is dispatched (R206). DESIGN CHOICE (log entries 1, 20): the sender
says when the last byte has left. -/
def transmissionComplete (s : State) : State :=
  match s.link.restartMark, s.link.sending with
  | some kind, _ => s.restart kind
  | none, none => s
  | none, some _ =>
    let s1 := { s with link := { s.link with sending := none, waiting := none } }
    match s.link.waiting with
    | none => s1
    | some f => s1.dispatch f

/-! ### The commands -/

def execRxCharacter (byte : Byte) (stopBit : Bool) (s : State) : Host.Outcome State Fault Refusal :=
  .next (s.event (rxCharacter byte stopBit))

def execGapTimerExpiry (s : State) : Host.Outcome State Fault Refusal := .next (s.event gapExpiry)

def execTransmissionComplete (s : State) : Host.Outcome State Fault Refusal := .next (s.event transmissionComplete)

end Sys2Proof.Machine
end

