-- ==== Sys2Proof/Machine/Dispatch.lean ====
section
/-! DEFINITION. The meaning of a command: one arm for each constructor of Instr, in the table's order. -/

namespace Sys2Proof.Machine

def exec (i : Instr) (s : State) : Host.Outcome State Fault Refusal :=
  match i with
  | .runService runs dir => Sys2Proof.Machine.execRunService runs dir s
  | .pulseInputChange r ch level => Sys2Proof.Machine.execPulseInputChange r ch level s
  | .pulseFilterAccept r ch => Sys2Proof.Machine.execPulseFilterAccept r ch s
  | .periodExpiry r => Sys2Proof.Machine.execPeriodExpiry r s
  | .periodComputation r => Sys2Proof.Machine.execPeriodComputation r s
  | .periodCrediting r => Sys2Proof.Machine.execPeriodCrediting r s
  | .liveValues entries => Sys2Proof.Machine.execLiveValues entries s
  | .staleTimerExpiry v => Sys2Proof.Machine.execStaleTimerExpiry v s
  | .holdTimerExpiry v => Sys2Proof.Machine.execHoldTimerExpiry v s
  | .readValues mark indices => Sys2Proof.Machine.execReadValues mark indices s
  | .overrideSet index value => Sys2Proof.Machine.execOverrideSet index value s
  | .overrideRelease index => Sys2Proof.Machine.execOverrideRelease index s
  | .stageOpen kind runs count => Sys2Proof.Machine.execStageOpen kind runs count s
  | .stageItem body => Sys2Proof.Machine.execStageItem body s
  | .stageCommit => Sys2Proof.Machine.execStageCommit s
  | .stageCancel => Sys2Proof.Machine.execStageCancel s
  | .stagingInactivityExpiry => Sys2Proof.Machine.execStagingInactivityExpiry s
  | .lockSection number => Sys2Proof.Machine.execLockSection number s
  | .unlockAll => Sys2Proof.Machine.execUnlockAll s
  | .readSection number => Sys2Proof.Machine.execReadSection number s
  | .sealInputChange closed => Sys2Proof.Machine.execSealInputChange closed s
  | .sealChange => Sys2Proof.Machine.execSealChange s
  | .readRun number => Sys2Proof.Machine.execReadRun number s
  | .freeze => Sys2Proof.Machine.execFreeze s
  | .readTotals source part run batchId => Sys2Proof.Machine.execReadTotals source part run batchId s
  | .restart kind => Sys2Proof.Machine.execRestart kind s
  | .batchQueueAdd record => Sys2Proof.Machine.execBatchQueueAdd record s
  | .batchQueueRemove id => Sys2Proof.Machine.execBatchQueueRemove id s
  | .batchStart => Sys2Proof.Machine.execBatchStart s
  | .batchEnd => Sys2Proof.Machine.execBatchEnd s
  | .batchChange => Sys2Proof.Machine.execBatchChange s
  | .batchList => Sys2Proof.Machine.execBatchList s
  | .proveStart number => Sys2Proof.Machine.execProveStart number s
  | .routeOkChange => Sys2Proof.Machine.execRouteOkChange s
  | .valveInputChange valve => Sys2Proof.Machine.execValveInputChange valve s
  | .proverInputChange input active => Sys2Proof.Machine.execProverInputChange input active s
  | .detectorEvent d => Sys2Proof.Machine.execDetectorEvent d s
  | .detectorLockoutExpiry d => Sys2Proof.Machine.execDetectorLockoutExpiry d s
  | .valveTimerExpiry => Sys2Proof.Machine.execValveTimerExpiry s
  | .passTimerExpiry => Sys2Proof.Machine.execPassTimerExpiry s
  | .tailTimerExpiry => Sys2Proof.Machine.execTailTimerExpiry s
  | .proveAccept => Sys2Proof.Machine.execProveAccept s
  | .proveReject => Sys2Proof.Machine.execProveReject s
  | .proveAbort => Sys2Proof.Machine.execProveAbort s
  | .readProve => Sys2Proof.Machine.execReadProve s
  | .canReset number => Sys2Proof.Machine.execCanReset number s
  | .samplerEnable enable => Sys2Proof.Machine.execSamplerEnable enable s
  | .readSampler => Sys2Proof.Machine.execReadSampler s
  | .widthTimerExpiry => Sys2Proof.Machine.execWidthTimerExpiry s
  | .intervalTimerExpiry => Sys2Proof.Machine.execIntervalTimerExpiry s
  | .swapTimerExpiry => Sys2Proof.Machine.execSwapTimerExpiry s
  | .canfullInputChange can active => Sys2Proof.Machine.execCanfullInputChange can active s
  | .canfullChange can => Sys2Proof.Machine.execCanfullChange can s
  | .writeCompletion agrees => Sys2Proof.Machine.execWriteCompletion agrees s
  | .eraseCompletion => Sys2Proof.Machine.execEraseCompletion s
  | .ticketRead number => Sys2Proof.Machine.execTicketRead number s
  | .ticketAck number => Sys2Proof.Machine.execTicketAck number s
  | .archiveStatus => Sys2Proof.Machine.execArchiveStatus s
  | .auditRead start => Sys2Proof.Machine.execAuditRead start s
  | .alarmAck mark name run => Sys2Proof.Machine.execAlarmAck mark name run s
  | .readAlarms all => Sys2Proof.Machine.execReadAlarms all s
  | .status => Sys2Proof.Machine.execStatus s
  | .statusMatch pairs => Sys2Proof.Machine.execStatusMatch pairs s
  | .setTime value => Sys2Proof.Machine.execSetTime value s
  | .clockSecond => Sys2Proof.Machine.execClockSecond s
  | .rxCharacter byte stopBit => Sys2Proof.Machine.execRxCharacter byte stopBit s
  | .gapTimerExpiry => Sys2Proof.Machine.execGapTimerExpiry s
  | .transmissionComplete => Sys2Proof.Machine.execTransmissionComplete s
  | .powerUp batteryHeld => Sys2Proof.Machine.execPowerUp batteryHeld s
  | .powerFail strike => Sys2Proof.Machine.execPowerFail strike s
  | .resetNAssert strike => Sys2Proof.Machine.execResetNAssert strike s
  | .resetNRelease => Sys2Proof.Machine.execResetNRelease s
  | .startCompletion => Sys2Proof.Machine.execStartCompletion s
  | .detectorReturnInactive d => Sys2Proof.Machine.execDetectorReturnInactive d s

end Sys2Proof.Machine
end

