-- ==== Sys2Proof/Machine/Step.lean ====
section
/-! DEFINITION. One step of the module: the command at the front of the queue, or one tick of the time base when no
command waits. -/

namespace Sys2Proof.Machine

/-- One tick of the 10 MHz time base passes without a command. DESIGN CHOICE (log entry 2): the table has no row for a
tick. -/
def State.idle (s : State) : State := { s with now := s.now + 1 }

/-- One step: exec of the command at the front of the queue on the state with the queue's rest. -/
def step (s : State) : Host.Outcome State Fault Refusal :=
  match s.pending with
  | [] => .next s.idle
  | c :: rest => exec c { s with pending := rest }

/-- The state with the command that a table word spells at the front of its queue; unchanged where the word spells
none. -/
def State.withFetchWord (s : State) (nbits w : Nat) : State :=
  match decodeTableWord nbits w with
  | none => s
  | some c => { s with pending := c :: s.pending }

end Sys2Proof.Machine
end

