-- ==== Sys2Proof/Safety.lean ====
section
/-! DEFINITION. What counts as a sound state of the module: the relations between items of state that the chapters state
in prose, each of which every step keeps and the state after reset has. Each is a relation that a plausible error in a
command would break. -/

namespace Sys2Proof.Machine

/-! ### Inputs (R8, R61, R127, R164) -/

/-- A filter times a change exactly while the raw level differs from the filtered level. -/
def InputFilter.Timed (f : InputFilter) : Prop := f.since.isSome = (f.raw != f.filtered)

/-- What a filter is after its raw input is at a level, no change being due: a change away from the filtered level is
timed from now unless it is timed already, and none is timed at the filtered level. -/
def InputFilter.after (f : InputFilter) (level : Bool) (now : Moment) : InputFilter where
  raw := level
  filtered := f.filtered
  since := if level = f.filtered then none else if level = f.raw then f.since else some now

/-! ### Retained memory (R94) -/

/-- Between events the current bank holds the retained content as it stands (R94). -/
def State.Settled (s : State) : Prop := s.ret = s.currentBank.content

/-- The module takes events and requests, with no half-done retained update: it runs, no accepted RESTART waits to stop
it, and retained memory is settled. The hypotheses on the state under which commands complete. -/
def State.Ready (s : State) : Prop := s.phase = .running ∧ s.link.restartMark = none ∧ s.Settled

/-- The three copies of retained content: the working one and those of the two banks. -/
def State.copies (s : State) : List Retained := [s.ret, s.bankA.content, s.bankB.content]

/-- A start goes on from this bank: it is valid, and the other is invalid or not later (R97). Of two equal generations,
which no run reaches, bank A is taken. -/
def State.startsFrom (s : State) (id : BankId) : Prop :=
  match id with
  | .a => s.bankA.intact = true
      ∧ (s.bankB.intact = false ∨ atOrAfter s.bankA.generation s.bankB.generation = true)
  | .b => s.bankB.intact = true
      ∧ (s.bankA.intact = false ∨ atOrAfter s.bankA.generation s.bankB.generation = false)

/-! ### Totals (R91) and remainders (R66) -/

/-- A cumulative total with its rollovers: the total plus 10¹⁴ times the rollover count (R91). -/
def Cumulative.grand (c : Cumulative) : Nat := c.total + Config.rolloverLimit * c.rollovers.toNat

/-- The station figure of one quantity equals the sum of the four runs' figures, up to the wrap of the rollover counts
(R91). -/
def sumsAgree (station : Cumulative) (run : Run → Cumulative) : Prop :=
  station.grand % (Config.rolloverLimit * 4294967296)
    = ((run 0).grand + (run 1).grand + (run 2).grand + (run 3).grand) % (Config.rolloverLimit * 4294967296)

/-- The station totals of a retained content are the sums of its run totals, for each of the five quantities (R91). -/
def Retained.TotalsAgree (x : Retained) : Prop :=
  sumsAgree x.station.iv (fun r => x.runTotals[r].iv) ∧ sumsAgree x.station.gv (fun r => x.runTotals[r].gv)
    ∧ sumsAgree x.station.gsv (fun r => x.runTotals[r].gsv) ∧ sumsAgree x.station.nsv (fun r => x.runTotals[r].nsv)
    ∧ sumsAgree x.station.mass (fun r => x.runTotals[r].mass)

/-- Every copy of retained content has station totals that are the sums of its run totals. -/
def State.TotalsAgree (s : State) : Prop := ∀ x ∈ s.copies, x.TotalsAgree

/-- A batch's station totals are the sums of the totals of its contributions, which stand in order of run number, at most
one a run (R90). -/
def Batch.TotalsAgree (b : Batch) : Prop :=
  b.contributions.Pairwise (fun x y => x.run < y.run)
    ∧ b.totals.iv = (b.contributions.map (fun c => c.totals.iv)).sum
    ∧ b.totals.gv = (b.contributions.map (fun c => c.totals.gv)).sum
    ∧ b.totals.gsv = (b.contributions.map (fun c => c.totals.gsv)).sum
    ∧ b.totals.nsv = (b.contributions.map (fun c => c.totals.nsv)).sum
    ∧ b.totals.mass = (b.contributions.map (fun c => c.totals.mass)).sum

/-- Every batch that is ACTIVE or ENDING, in every copy of retained content, has totals that are the sums of its
contributions' (R90). -/
def State.BatchTotalsAgree (s : State) : Prop :=
  ∀ x ∈ s.copies, ∀ b ∈ x.active.toList ++ x.ending, b.TotalsAgree

/-- Four of a run's remainders lie below the divisors of their stages (R66). -/
def Remainders.Bounded (x : Remainders) : Prop :=
  x.rGV < 1000000 ∧ x.rGSV < 1000000 ∧ x.rNSV < 1000000 ∧ x.rM < 10000

/-- A computed period leaves bounded remainders and no more net than gross standard volume (R66, R79). -/
def ComputedPeriod.Sound (c : ComputedPeriod) : Prop := c.rem.Bounded ∧ c.record.nsv ≤ c.record.gsv

/-- Remainders are bounded in every copy, and every period record has NSVinc ≤ GSVinc (R66, R79). -/
def State.PeriodsSound (s : State) : Prop :=
  (∀ x ∈ s.copies, ∀ r : Run, x.rem[r].Bounded)
    ∧ (∀ r : Run, ∀ c ∈ s.cen[r].computed, c.Sound)
    ∧ (∀ r : Run, ∀ rec ∈ s.cen[r].latest, rec.nsv ≤ rec.gsv)

/-! ### Capacities and ranges -/

/-- The queues of a retained content hold no more than their places (R104, R172), and its pulse counts no more than a
64-bit count (R92). -/
def Retained.WithinCapacity (x : Retained) : Prop :=
  x.queue.length ≤ Config.queueLimit ∧ x.ending.length ≤ Config.endingLimit
    ∧ x.pendingTickets.length ≤ Config.pendingLimit
    ∧ ∀ r : Run, x.pulseCounts[r].good ≤ Config.pulseCountTop ∧ x.pulseCounts[r].reverse ≤ Config.pulseCountTop
        ∧ x.pulseCounts[r].phaseErrors ≤ Config.pulseCountTop

/-- No batch id is held twice by the queue, the active place and the ending list of a retained content (R105). -/
def Retained.BatchIdsDistinct (x : Retained) : Prop :=
  (x.queue.map BatchRecord.id ++ x.active.toList.map (fun b => b.record.id)
    ++ x.ending.map (fun b => b.record.id)).Nodup

/-- No copy of retained content holds a batch id twice. -/
def State.BatchIdsDistinct (s : State) : Prop := ∀ x ∈ s.copies, x.BatchIdsDistinct

/-- No queue holds more than its places, and the station clock holds at its top (R104, R157, R172, R200). -/
def State.WithinCapacity (s : State) : Prop :=
  (∀ x ∈ s.copies, x.WithinCapacity) ∧ s.smc.queue.length ≤ Config.owedLimit ∧ s.clock ≤ Config.top32

/-- The ranges that R1 gives the counting state of a run, and R19's limit on its stamp history. -/
def RunPulse.InRange (x : RunPulse) : Prop :=
  -3 ≤ x.quarter ∧ x.quarter ≤ 3 ∧ x.counts.good ≤ Config.countTop ∧ x.counts.reverse ≤ Config.countTop
    ∧ x.counts.phaseErrors ≤ Config.countTop ∧ x.counts.transitionsA ≤ Config.countTop
    ∧ x.counts.transitionsB ≤ Config.countTop ∧ x.history.length ≤ Config.historyLimit

/-- Every run's counting state is within the ranges of R1. -/
def State.PulsesInRange (s : State) : Prop := ∀ r : Run, s.pulses[r].InRange

/-! ### Live values (R39) -/

/-- A value's quality in force is HELD or SUBSTITUTED. -/
def LiveValue.notFresh (v : LiveValue) : Bool := decide (v.quality = .held ∨ v.quality = .substituted)

/-- While the module runs, the quality condition of every value is raised exactly while its quality in force is HELD or
SUBSTITUTED (R39). -/
def State.QualityAlarmsAgree (s : State) : Prop :=
  s.phase = .running → ∀ v : ValueId, s.alarmRaised (qualityAlarm v) = (s.value v).notFresh

/-! ### The prover (R128, R129) -/

/-- The states in which the valve timer runs (R130, R132). -/
def ProverState.waitsForValve (p : ProverState) : Bool := decide (p = .routing ∨ p = .fwdLaunch ∨ p = .revLaunch)

/-- The states in which the pass timer runs (R135). -/
def ProverState.waitsForSphere (p : ProverState) : Bool :=
  decide (p = .fwdTravel ∨ p = .fwdCount ∨ p = .revTravel ∨ p = .revCount)

/-- The states in which the tail timer runs (R137). -/
def ProverState.waitsForTail (p : ProverState) : Bool := decide (p = .fwdTail ∨ p = .revTail)

/-- ROUTEr is active exactly while the prove is in a proving state and r is its run (R128); a result is pending exactly
in RESULT_PENDING, and each of the three timers runs in its own states only (R129). -/
def ProverSeq.Sound (x : ProverSeq) : Prop :=
  (∀ r : Run, x.route[r] = (x.state.proving && decide (x.run = some r)))
    ∧ x.run.isSome = decide (x.state ≠ .idle) ∧ x.result.isSome = decide (x.state = .resultPending)
    ∧ x.valveTimer.isSome = x.state.waitsForValve ∧ x.passTimer.isSome = x.state.waitsForSphere
    ∧ x.tailTimer.isSome = x.state.waitsForTail

/-- The Prover Sequencer is sound, and while the module runs the prove marker is present exactly outside IDLE. -/
def State.ProverSound (s : State) : Prop :=
  s.psq.Sound ∧ (s.phase = .running → s.ret.marker.isSome = decide (s.psq.state ≠ .idle))

/-! ### The sampler (R157) -/

/-- The interval timer runs exactly in GRABBING, the swap timer exactly in SWAPPING; GRAB is active exactly while the
width timer runs, and only in GRABBING; the halted can is present exactly in HALTED. -/
def Sampler.Sound (x : Sampler) : Prop :=
  x.intervalTimer.isSome = decide (x.state = .grabbing) ∧ x.swapTimer.isSome = decide (x.state = .swapping)
    ∧ x.grab = x.widthTimer.isSome ∧ (x.grab = true → x.state = .grabbing)
    ∧ x.haltedCan.isSome = decide (x.state = .halted)

/-- The Sampler Controller is sound; while the module runs it is OFF exactly when its enable is OFF, and CAN_SELECT
stands at the selected can (R157). -/
def State.SamplerSound (s : State) : Prop :=
  s.smc.Sound
    ∧ (s.phase = .running →
        (s.smc.state = .off ↔ s.ret.enable = .off) ∧ s.smc.canSelect = decide (s.ret.selectedCan = .can2))

/-- A batch of a retained content has as many grabs due as were taken and missed, or more (R157). -/
def Retained.GrabsWithinDue (x : Retained) : Prop :=
  ∀ b ∈ x.active.toList ++ x.ending, b.sampling.taken + b.sampling.missed ≤ b.sampling.due

/-- Every grab that fell due is accounted for: no id names two batches, and while the module runs each live batch's grabs
due are its grabs taken, missed and queued, and every owed grab names a live batch (R157, R159). -/
def State.GrabsAccounted (s : State) : Prop :=
  s.BatchIdsDistinct ∧ (∀ x ∈ s.copies, x.GrabsWithinDue)
    ∧ (s.phase = .running →
        (∀ b ∈ s.liveBatches,
          b.sampling.due = b.sampling.taken + b.sampling.missed + s.queuedGrabs b.record.id)
        ∧ ∀ e ∈ s.smc.queue, ∃ b ∈ s.liveBatches, b.record.id = e.batchId)

/-! ### The archive and the audit ring (R172, R176, R182) -/

/-- Of the pending tickets, at most the head is WRITING, and it is exactly while a write is in flight (R172). -/
def State.WritesFromTheHead (s : State) : Prop :=
  (s.ret.pendingTickets.head?.any PendingTicket.writing) = s.write.isSome
    ∧ ∀ p ∈ s.ret.pendingTickets.tail, p.writing = false

/-- The sector of the erase in progress is ERASING while the erase runs and ERASE_SUSPENDED while it does not (R177). -/
def State.EraseMatches (s : State) : Prop :=
  ∀ e ∈ s.erase,
    s.archive.sectors[e.sector].state = (if e.since.isSome then SectorState.erasing else SectorState.eraseSuspended)

/-- While a write is in flight its sector is OPEN or FULL, and while the module runs its slot is WRITING (R171, R173). -/
def State.WriteMatches (s : State) : Prop :=
  ∀ w ∈ s.write,
    s.archive.sectors[w.sector].state.holdsTickets = true
      ∧ (s.phase = .running → s.archive.slot (w.sector, w.slot) = .writing)

/-- An ERASED sector holds only EMPTY slots (R171). -/
def Archive.ErasedAreEmpty (a : Archive) : Prop :=
  ∀ i j : Sector, a.sectors[i].state = .erased → a.slot (i, j) = .empty

/-- A sector whose erase is in progress holds no ticket that has not been retrieved, and no slot being written (R176). -/
def Archive.ErasingAreReleased (a : Archive) : Prop :=
  ∀ i j : Sector, (a.sectors[i].state = .erasing ∨ a.sectors[i].state = .eraseSuspended) →
    (a.slot (i, j)).released = true

/-- The Ticket Archive is sound. -/
def State.ArchiveSound (s : State) : Prop :=
  (s.phase = .running → s.WritesFromTheHead) ∧ s.EraseMatches ∧ s.WriteMatches ∧ s.archive.ErasedAreEmpty
    ∧ s.archive.ErasingAreReleased

/-- No two audit entries share a position of the ring: an entry stands in position sequence number modulo 256 (R182). -/
def State.AuditSound (s : State) : Prop := (s.audit.entries.map (fun e => e.seq.toNat % Config.ringSize)).Nodup

/-! ### Sealed sections (R57, R61) -/

/-- The kind under which an item is staged (R44). -/
def StageEntry.kind : StageEntry → SectionKind
  | .meter _ => .meter
  | .curve _ _ => .curves
  | .product _ => .products
  | .mapping _ _ => .productMap
  | .prover _ => .prover
  | .station _ => .station

/-- The staging buffer holds items of the open kind alone, and no more of them than it announced (R54). -/
def State.StagingSound (s : State) : Prop :=
  ∀ st ∈ s.staging, (∀ e ∈ st.items, e.kind = st.kind) ∧ st.items.length ≤ st.announced

/-- A section that an accepted prove never writes: any but CURVES 1 to 4 (R149). -/
def SectionRef.neverProved (ref : SectionRef) : Bool :=
  match ref with
  | .curves _ => false
  | .meter _ => true
  | .products => true
  | .productMap => true
  | .prover => true
  | .station => true

/-! ### Commands that need a running module (section 5.6) -/

/-- The commands that a module which is not running does not take: everything but the levels of pins, the second of the
station clock, and the commands of power, RESET_N and the completion of a start. -/
def takenOnlyWhileRunning : Instr → Bool
  | .runService _ _ => true
  | .pulseInputChange _ _ _ => false
  | .pulseFilterAccept _ _ => true
  | .periodExpiry _ => true
  | .periodComputation _ => true
  | .periodCrediting _ => true
  | .liveValues _ => true
  | .staleTimerExpiry _ => true
  | .holdTimerExpiry _ => true
  | .readValues _ _ => true
  | .overrideSet _ _ => true
  | .overrideRelease _ => true
  | .stageOpen _ _ _ => true
  | .stageItem _ => true
  | .stageCommit => true
  | .stageCancel => true
  | .stagingInactivityExpiry => true
  | .lockSection _ => true
  | .unlockAll => true
  | .readSection _ => true
  | .sealInputChange _ => false
  | .sealChange => true
  | .readRun _ => true
  | .freeze => true
  | .readTotals _ _ _ _ => true
  | .restart _ => true
  | .batchQueueAdd _ => true
  | .batchQueueRemove _ => true
  | .batchStart => true
  | .batchEnd => true
  | .batchChange => true
  | .batchList => true
  | .proveStart _ => true
  | .routeOkChange => true
  | .valveInputChange _ => true
  | .proverInputChange _ _ => false
  | .detectorEvent _ => true
  | .detectorLockoutExpiry _ => true
  | .valveTimerExpiry => true
  | .passTimerExpiry => true
  | .tailTimerExpiry => true
  | .proveAccept => true
  | .proveReject => true
  | .proveAbort => true
  | .readProve => true
  | .canReset _ => true
  | .samplerEnable _ => true
  | .readSampler => true
  | .widthTimerExpiry => true
  | .intervalTimerExpiry => true
  | .swapTimerExpiry => true
  | .canfullInputChange _ _ => false
  | .canfullChange _ => true
  | .writeCompletion _ => true
  | .eraseCompletion => true
  | .ticketRead _ => true
  | .ticketAck _ => true
  | .archiveStatus => true
  | .auditRead _ => true
  | .alarmAck _ _ _ => true
  | .readAlarms _ => true
  | .status => true
  | .statusMatch _ => true
  | .setTime _ => true
  | .clockSecond => false
  | .rxCharacter _ _ => true
  | .gapTimerExpiry => true
  | .transmissionComplete => true
  | .powerUp _ => false
  | .powerFail _ => false
  | .resetNAssert _ => false
  | .resetNRelease => false
  | .startCompletion => false
  | .detectorReturnInactive _ => true

end Sys2Proof.Machine
end

