-- ==== Sys2Proof/WellFormed.lean ====
section
/-! DEFINITION. Which commands can reach the module: a request's numbers fit the field widths that R208 gives them, so
that a frame can carry them. Events carry typed operands and are always well formed. The meanings do not rest on this
check: they are total on every operand. -/

namespace Sys2Proof

/-- A number that fits an unsigned field of `bytes` bytes (R208). -/
def fitsUnsigned (bytes n : Nat) : Bool := decide (n < 256 ^ bytes)

/-- A number that fits the 4-byte two's complement field (R208). -/
def fitsSigned (v : Int) : Bool := decide (-2147483648 ≤ v ∧ v ≤ 2147483647)

/-- An absent field, or a present one that passes the check. -/
def fitsOptional {α : Type} (check : α → Bool) : Option α → Bool
  | none => true
  | some a => check a

/-- A list that a one-byte count can count, each entry passing the check (R208). -/
def fitsList {α : Type} (check : α → Bool) (xs : List α) : Bool :=
  decide (xs.length < 256) && xs.all check

/-- A LIVE VALUES entry that fits its fields. -/
def LiveEntry.wellFormed (e : LiveEntry) : Bool := fitsUnsigned 1 e.index && fitsSigned e.value

/-- A batch record that fits its fields: id, target and margin in 4 bytes, density in 2, code and can in 1. -/
def BatchRecord.wellFormed (b : BatchRecord) : Bool :=
  fitsUnsigned 4 b.id && fitsUnsigned 1 b.code && fitsOptional (fun (t : Text) => decide (t.length ≤ 16)) b.vessel
    && fitsOptional (fitsUnsigned 4) b.target && fitsOptional (fitsUnsigned 4) b.margin
    && fitsOptional (fitsUnsigned 2) b.density && fitsOptional (fitsUnsigned 1) b.can

/-- A command that can reach the module (R204, R208). -/
def Instr.wellFormed : Instr → Bool
  | .runService _ _ => true
  | .pulseInputChange _ _ _ => true
  | .pulseFilterAccept _ _ => true
  | .periodExpiry _ => true
  | .periodComputation _ => true
  | .periodCrediting _ => true
  | .liveValues entries => fitsList LiveEntry.wellFormed entries
  | .staleTimerExpiry _ => true
  | .holdTimerExpiry _ => true
  | .readValues _ indices => fitsList (fitsUnsigned 1) indices
  | .overrideSet index value => fitsUnsigned 1 index && fitsSigned value
  | .overrideRelease index => fitsUnsigned 1 index
  | .stageOpen _ _ count => fitsUnsigned 1 count
  | .stageItem body => decide (1 ≤ body.length ∧ body.length ≤ 1024)
  | .stageCommit => true
  | .stageCancel => true
  | .stagingInactivityExpiry => true
  | .lockSection number => fitsUnsigned 1 number
  | .unlockAll => true
  | .readSection number => fitsUnsigned 1 number
  | .sealInputChange _ => true
  | .sealChange => true
  | .readRun number => fitsUnsigned 1 number
  | .freeze => true
  | .readTotals _ _ run batchId => fitsOptional (fitsUnsigned 1) run && fitsOptional (fitsUnsigned 4) batchId
  | .restart _ => true
  | .batchQueueAdd record => record.wellFormed
  | .batchQueueRemove id => fitsUnsigned 4 id
  | .batchStart => true
  | .batchEnd => true
  | .batchChange => true
  | .batchList => true
  | .proveStart number => fitsUnsigned 1 number
  | .routeOkChange => true
  | .valveInputChange _ => true
  | .proverInputChange _ _ => true
  | .detectorEvent _ => true
  | .detectorLockoutExpiry _ => true
  | .valveTimerExpiry => true
  | .passTimerExpiry => true
  | .tailTimerExpiry => true
  | .proveAccept => true
  | .proveReject => true
  | .proveAbort => true
  | .readProve => true
  | .canReset number => fitsUnsigned 1 number
  | .samplerEnable _ => true
  | .readSampler => true
  | .widthTimerExpiry => true
  | .intervalTimerExpiry => true
  | .swapTimerExpiry => true
  | .canfullInputChange _ _ => true
  | .canfullChange _ => true
  | .writeCompletion _ => true
  | .eraseCompletion => true
  | .ticketRead number => fitsUnsigned 4 number
  | .ticketAck number => fitsUnsigned 4 number
  | .archiveStatus => true
  | .auditRead _ => true
  | .alarmAck _ _ run => fitsOptional (fitsUnsigned 1) run
  | .readAlarms _ => true
  | .status => true
  | .statusMatch pairs => decide (pairs.length < 256)
  | .setTime value => fitsUnsigned 4 value
  | .clockSecond => true
  | .rxCharacter _ _ => true
  | .gapTimerExpiry => true
  | .transmissionComplete => true
  | .powerUp _ => true
  | .powerFail _ => true
  | .resetNAssert _ => true
  | .resetNRelease => true
  | .startCompletion => true
  | .detectorReturnInactive _ => true

end Sys2Proof
end

