-- ==== Sys2Proof/Certificates/Slice0/Obligations.lean ====
section
/-! DEFINITION. The statements for the provers. A statement that rests on a choice of the model names the log entry;
every other one formalises the rules that its docstring names. The hypothesis Ready (Safety.lean) says that the module takes
requests and that retained memory is settled; the events of a block need no more than a running, settled module. A frame
is written as an equation: the next state is the old one with the named fields replaced. -/

open Sys2Proof Sys2Proof.Machine

/-! ### The step and the invariants -/

/-- A step runs exec on the command at the front of the queue, with the queue's rest left in the state; with no
command waiting, one tick of the time base passes (the model's choice, log entry 2). -/
def Obligations.StepRunsTheFrontCommand : Prop :=
  (∀ (c : Instr) (rest : List Instr) (s : State), s.pending = c :: rest → step s = exec c { s with pending := rest })
    ∧ ∀ s : State, s.pending = [] → step s = .next { s with now := s.now + 1 }

/-- The state after reset has every property of Safety.lean. -/
def Obligations.ResetIsSound : Prop :=
  State.reset.Ready ∧ State.reset.TotalsAgree ∧ State.reset.PeriodsSound ∧ State.reset.BatchTotalsAgree
    ∧ State.reset.WithinCapacity
    ∧ State.reset.PulsesInRange ∧ State.reset.ProverSound ∧ State.reset.SamplerSound ∧ State.reset.ArchiveSound
    ∧ State.reset.AuditSound ∧ State.reset.StagingSound ∧ State.reset.GrabsAccounted ∧ State.reset.QualityAlarmsAgree

/-- R94: between events the current bank holds the retained content as it stands, so that a failure loses no event
that has been completed; and a retained update writes the whole content to the bank that is not current, with the next
generation number and its own check word, makes it current, and leaves the other bank as it was. -/
def Obligations.StepKeepsRetainedMemorySettled : Prop :=
  (∀ s t : State, s.Settled → step s = .next t → t.Settled)
    ∧ (∀ s : State, ∃ t : State, s.retainedUpdate = t
      ∧ t.currentBank = ⟨s.ret, s.currentBank.generation + 1, true⟩ ∧ t.current ≠ s.current
      ∧ (s.current = .a → t.bankA = s.bankA) ∧ (s.current = .b → t.bankB = s.bankB)
      ∧ t = { s with bankA := t.bankA, bankB := t.bankB, current := t.current }
      ∧ (s.Settled → s.settle = s) ∧ (¬ s.Settled → s.settle = t))

/-- R91: each station total, with its rollovers, is the sum of the four run totals with theirs, in the working content
and in both banks. -/
def Obligations.StationTotalsStayTheSumOfTheRuns : Prop :=
  ∀ s t : State, s.TotalsAgree → step s = .next t → t.TotalsAgree

/-- R90: each station total of a batch that is ACTIVE or ENDING is the sum of that total over its runs' contributions,
which stand in order of run number, at most one a run. -/
def Obligations.EveryBatchTotalIsTheSumOfItsRuns : Prop :=
  ∀ s t : State, s.BatchTotalsAgree → step s = .next t → t.BatchTotalsAgree

/-- R66, R79: the four remainders rGV, rGSV, rNSV and rM stay below their divisors, and in every period record
NSVinc ≤ GSVinc. -/
def Obligations.EveryPeriodRecordHasNetAtMostGross : Prop :=
  ∀ s t : State, s.PeriodsSound → step s = .next t → t.PeriodsSound

/-- R1, R19, R92, R104, R157, R172, R200: no queue outgrows its places, the held counts stay at their tops, and the
counting state of every run stays within its ranges. -/
def Obligations.StepKeepsCapacitiesAndRanges : Prop :=
  ∀ s t : State, s.WithinCapacity → s.PulsesInRange → step s = .next t → t.WithinCapacity ∧ t.PulsesInRange

/-- R128, R129: a ROUTE output is active exactly while its run is proved in a proving state; the timers, the pending
result and the prove marker stand in their own states only. -/
def Obligations.StepKeepsTheProverSound : Prop :=
  ∀ s t : State, s.ProverSound → step s = .next t → t.ProverSound

/-- R157: OFF exactly while the enable is OFF, GRAB active only while the width timer runs, CAN_SELECT at the selected
can, and each timer in its own state only. -/
def Obligations.StepKeepsTheSamplerSound : Prop :=
  ∀ s t : State, s.SamplerSound → step s = .next t → t.SamplerSound

/-- R105, R157, R159, R167, R169: every grab that fell due is taken, missed or still queued, whatever the command; and
no batch id is held twice by the queue, the active place and the ending list, in any copy of retained content. -/
def Obligations.StepKeepsEveryGrabAccountedFor : Prop :=
  (∀ s t : State, s.GrabsAccounted → step s = .next t → t.GrabsAccounted)
    ∧ ∀ s t : State, s.BatchIdsDistinct → step s = .next t → t.BatchIdsDistinct

/-- R171 to R173, R177, R182: at most the head of the pending queue is WRITING, exactly while a write is in flight;
while one is, its slot is WRITING and its sector OPEN or FULL; an ERASED sector holds only EMPTY slots, and a sector
whose erase is in progress no VALID and no WRITING slot (R176); the erase in progress matches its sector's state; and
an audit entry stands in position sequence number modulo 256, so that the ring never holds two in one position. -/
def Obligations.StepKeepsTheArchiveAndTheRingSound : Prop :=
  (∀ s t : State, s.ArchiveSound → step s = .next t → t.ArchiveSound)
    ∧ ∀ s t : State, s.AuditSound → step s = .next t → t.AuditSound

/-- R54, R57, R61, sections 3.3 and 3.4: the staging buffer holds items of its own kind alone, never more than it
announced; and while SEAL is closed no command whatever changes the content of a locked section, but for the curves,
which an accepted prove updates (R149). -/
def Obligations.StepKeepsTheStagingAndSealedSections : Prop :=
  ∀ s t : State, s.StagingSound → step s = .next t →
    t.StagingSound
      ∧ (s.seal = .closed → ∀ ref : SectionRef, s.locked ref = true → ref.neverProved = true →
          sectionContent t.params ref = sectionContent s.params ref)

/-- R39: the quality condition of each of the twelve values is raised exactly while its quality in force is HELD or
SUBSTITUTED, whatever the command. -/
def Obligations.StepKeepsQualityAlarmsInAgreement : Prop :=
  ∀ s t : State, s.QualityAlarmsAgree → step s = .next t → t.QualityAlarmsAgree

/-- Section 5.6: a module that is stopped or starting takes no request, no event of a block and no expiry: such a
command changes nothing. -/
def Obligations.AStoppedModuleTakesNoEvents : Prop :=
  ∀ (c : Instr) (s : State), s.phase ≠ .running → takenOnlyWhileRunning c = true → exec c s = .next s

/-! ### Chapter 1: runs and pulses -/

/-- R8, R61, R127, R164: a raw change at one of the filtered inputs of a running module. Away from the filtered level
it starts the timing, back to it before the width has elapsed it discards the change, and the filtered level itself
does not change; with a channel's filter OFF too its acceptance is a later command, of the same tick or after (the
model's choice, log entries 2 and 3). On a run out of service (R4) an accepted change alters the filtered level alone,
and the command moves the time base to the end of the width (the model's choice, log entry 3), or of the tick with the
filter OFF (log entry 29). -/
def Obligations.RawInputChangesAreTimed : Prop :=
  (∀ (s : State) (level : Bool), s.phase = .running → s.Settled →
      (∀ (r : Run) (ch : Channel), (s.pulses[r].channel ch).Timed →
        (s.pulses[r].channel ch).held (filterTicks s.pulses[r].settings.width) s.now = false →
        exec (.pulseInputChange r ch level) s
          = .next (s.modRun r (fun x => x.setChannel ch ((x.channel ch).after level s.now))))
      ∧ (s.sealInput.Timed → s.sealInput.held Config.slowFilter s.now = false →
        exec (.sealInputChange level) s = .next { s with sealInput := s.sealInput.after level s.now })
      ∧ (∀ i : ProverInput, (s.psq.input i).Timed → (s.psq.input i).held (proverFilter i) s.now = false →
        exec (.proverInputChange i level) s
          = .next { s with psq := s.psq.setInput i ((s.psq.input i).after level s.now) })
      ∧ (∀ c : Can, (s.smc.fullInput c).Timed → (s.smc.fullInput c).held Config.slowFilter s.now = false →
        exec (.canfullInputChange c level) s
          = .next { s with smc := s.smc.setFullInput c ((s.smc.fullInput c).after level s.now) }))
    ∧ (∀ (s : State) (r : Run) (ch : Channel) (u : Moment), s.phase = .running → s.Settled →
      s.ret.service[r] = .outOfService → (s.pulses[r].channel ch).since = some u →
      (s.pulses[r].channel (otherChannel ch)).since = none →
      exec (.pulseFilterAccept r ch) s
        = .next { s with
            now := max s.now (u + handoverTicks s.pulses[r].settings.width)
            pulses := s.pulses.set r
              (s.pulses[r].setChannel ch ⟨(s.pulses[r].channel ch).raw, (s.pulses[r].channel ch).raw, none⟩) })

/-- R9, R11, R13, R14, R19, R20: an edge that arrives alone on a run in DUAL and DUAL_OK. It moves the decoder one step,
forward or backward along the order 00, 10, 11, 01, and adds to its channel's transitions; the fourth step forward is one
good pulse, stamped with the tick at which the raw change began, and the fourth backward one reverse pulse. A good pulse
whose stamp is at or after the tick of a waiting capture completes it: the capture is disarmed and its stamp and index go
to the PSQ in the same event (what the PSQ does with them is O48); any other edge leaves the capture as it was. A change
of one level is always one step. That the command moves the time base to the end of the width, or of the tick with the
filter OFF, is the model's choice (log entries 3 and 29). -/
def Obligations.LoneEdgeStepsTheDecoder : Prop :=
  (∀ (s : State) (r : Run) (ch : Channel) (u : Moment), s.phase = .running → s.Settled →
      s.ret.service[r] = .inService → s.pulses[r].settings.mode = .dual → s.pulses[r].pulseState = .dualOk →
      s.pulses[r].InRange → (s.pulses[r].channel ch).since = some u →
      (s.pulses[r].channel (otherChannel ch)).since = none →
      ∃ (counted t : State) (x y : RunPulse) (q : Int) (completes : Bool), exec (.pulseFilterAccept r ch) s = .next t
        ∧ x = s.pulses[r] ∧ q = x.quarter + decoderStep x.reference y.levels
        ∧ completes = (decide (q = 4) && x.capture.any (fun tick => atOrAfter (stampOf u) tick))
        ∧ counted = { s with
            now := max s.now (u + handoverTicks x.settings.width)
            pulses := s.pulses.set r y }
        ∧ (completes = false → t = counted)
        ∧ (completes = true →
            t = (counted.captureReported ⟨⟨stampOf u, x.goodIndex + 1⟩, false⟩).settle)
        ∧ y.capture = (if completes then none else x.capture)
        ∧ y.channel ch = ⟨(x.channel ch).raw, (x.channel ch).raw, none⟩
        ∧ y.channel (otherChannel ch) = x.channel (otherChannel ch) ∧ y.reference = y.levels
        ∧ y.quarter = (if q = 4 ∨ q = -4 then 0 else q)
        ∧ y.counts.transitionsA = (if ch = .a then min 65535 (x.counts.transitionsA + 1) else x.counts.transitionsA)
        ∧ y.counts.transitionsB = (if ch = .b then min 65535 (x.counts.transitionsB + 1) else x.counts.transitionsB)
        ∧ y.counts.good = (if q = 4 then min 65535 (x.counts.good + 1) else x.counts.good)
        ∧ y.counts.saturated = (x.counts.saturated || (decide (q = 4) && decide (x.counts.good = 65535)))
        ∧ y.counts.reverse = (if q = -4 then min 65535 (x.counts.reverse + 1) else x.counts.reverse)
        ∧ y.counts.phaseErrors = x.counts.phaseErrors
        ∧ y.goodIndex = (if q = 4 then x.goodIndex + 1 else x.goodIndex)
        ∧ y.history = (if q = 4 then pushHistory x.history ⟨stampOf u, x.goodIndex + 1⟩ else x.history)
        ∧ y.lastReverse = (if q = -4 then some (stampOf u) else x.lastReverse)
        ∧ y.watch = (if q = -4 then x.watch.map (fun w => { w with reverse := true }) else x.watch)
        ∧ y = { x with
            chA := y.chA, chB := y.chB, reference := y.reference, quarter := y.quarter, counts := y.counts
            goodIndex := y.goodIndex, history := y.history, lastReverse := y.lastReverse, watch := y.watch
            capture := y.capture })
    ∧ ((∀ p : LevelPair, (decoderStep p ⟨!p.a, p.b⟩ = 1 ∨ decoderStep p ⟨!p.a, p.b⟩ = -1)
        ∧ (decoderStep p ⟨p.a, !p.b⟩ = 1 ∨ decoderStep p ⟨p.a, !p.b⟩ = -1))
      ∧ decoderStep ⟨false, false⟩ ⟨true, false⟩ = 1 ∧ decoderStep ⟨true, false⟩ ⟨true, true⟩ = 1
      ∧ decoderStep ⟨true, true⟩ ⟨false, true⟩ = 1 ∧ decoderStep ⟨false, true⟩ ⟨false, false⟩ = 1
      ∧ ∀ p q : LevelPair, decoderStep p q = 1 ↔ decoderStep q p = -1)

/-- R10, R12, R16, R21: edges of both channels that began in one tick, in either pulse mode and in every pulse state.
In DUAL they are one phase error: both channels' transitions are counted, the accumulator stays, the new pair becomes
the reference, and an open pass watch gets its integrity mark; in a degraded state a rising edge of the live channel
is one good pulse beside it. In SINGLE_A there is no phase error, and a rising edge of A is one good pulse. A good
pulse may complete a waiting capture, as an edge alone does (O18). That the command moves the time base to the end of
the width, or of the tick with the filter OFF, is the model's choice (log entries 3 and 29). -/
def Obligations.EdgesInOneTickAreAPhaseError : Prop :=
  ∀ (s : State) (r : Run) (ch : Channel) (u : Moment), s.phase = .running → s.Settled →
    s.ret.service[r] = .inService → s.pulses[r].InRange →
    (s.pulses[r].channel ch).since = some u → (s.pulses[r].channel (otherChannel ch)).since = some u →
    ∃ (after t : State) (x y : RunPulse) (counted dual completes : Bool), exec (.pulseFilterAccept r ch) s = .next t
      ∧ x = s.pulses[r] ∧ dual = decide (x.settings.mode = .dual)
      ∧ counted
          = (if dual then x.chA.raw && decide (x.pulseState = .singleAOnly)
              || x.chB.raw && decide (x.pulseState = .singleBOnly)
             else x.chA.raw)
      ∧ completes = (counted && x.capture.any (fun tick => atOrAfter (stampOf u) tick))
      ∧ after = { s with
          now := max s.now (u + handoverTicks x.settings.width)
          pulses := s.pulses.set r y }
      ∧ (completes = false → t = after)
      ∧ (completes = true → t = (after.captureReported ⟨⟨stampOf u, x.goodIndex + 1⟩, false⟩).settle)
      ∧ y.capture = (if completes then none else x.capture)
      ∧ y.chA = ⟨x.chA.raw, x.chA.raw, none⟩ ∧ y.chB = ⟨x.chB.raw, x.chB.raw, none⟩
      ∧ y.reference = (if dual then ⟨x.chA.raw, x.chB.raw⟩ else x.reference)
      ∧ y.counts.phaseErrors
          = (if dual then min 65535 (x.counts.phaseErrors + 1) else x.counts.phaseErrors)
      ∧ y.counts.transitionsA
          = (if dual then min 65535 (x.counts.transitionsA + 1) else x.counts.transitionsA)
      ∧ y.counts.transitionsB
          = (if dual then min 65535 (x.counts.transitionsB + 1) else x.counts.transitionsB)
      ∧ y.counts.good = (if counted then min 65535 (x.counts.good + 1) else x.counts.good)
      ∧ y.counts.saturated = (x.counts.saturated || (counted && decide (x.counts.good = 65535)))
      ∧ y.counts.reverse = x.counts.reverse
      ∧ y.goodIndex = (if counted then x.goodIndex + 1 else x.goodIndex)
      ∧ y.history = (if counted then pushHistory x.history ⟨stampOf u, x.goodIndex + 1⟩ else x.history)
      ∧ y.lastPhaseError = (if dual then some (stampOf u) else x.lastPhaseError)
      ∧ y.watch = (if dual then x.watch.map (fun w => { w with integrity := true }) else x.watch)
      ∧ y = { x with
          chA := y.chA, chB := y.chB, reference := y.reference, counts := y.counts, goodIndex := y.goodIndex
          history := y.history, lastPhaseError := y.lastPhaseError, capture := y.capture, watch := y.watch }

/-- R10, R16: where one channel is counted alone, its rising edge is one good pulse and its falling edge none; in the
degraded states the edge still moves the reference and its transition count, in SINGLE_A it does not (log entry 21). R20:
a good pulse whose stamp is at or after the tick of a waiting capture completes it in the same event: the capture is
disarmed, and its stamp and index go to the PSQ (O48). That the command moves the time base to the end of the width, or
of the tick with the filter OFF, is the model's choice (log entries 3 and 29). -/
def Obligations.OneChannelCountsRisingEdges : Prop :=
  ∀ (s : State) (r : Run) (ch : Channel) (u : Moment), s.phase = .running → s.Settled →
    s.ret.service[r] = .inService → s.pulses[r].InRange → (s.pulses[r].channel ch).since = some u →
    (s.pulses[r].channel (otherChannel ch)).since = none →
    (s.pulses[r].settings.mode = .singleA ∧ s.pulses[r].pulseState = .singleMode
      ∨ s.pulses[r].settings.mode = .dual ∧ s.pulses[r].pulseState.degraded = true) →
    ∃ (after t : State) (x y : RunPulse) (counted dual completes : Bool), exec (.pulseFilterAccept r ch) s = .next t
      ∧ x = s.pulses[r] ∧ dual = decide (x.settings.mode = .dual)
      ∧ counted = ((x.channel ch).raw
          && decide (ch = (if x.pulseState = .singleBOnly then Channel.b else Channel.a)))
      ∧ completes = (counted && x.capture.any (fun tick => atOrAfter (stampOf u) tick))
      ∧ after = { s with
          now := max s.now (u + handoverTicks x.settings.width)
          pulses := s.pulses.set r y }
      ∧ (completes = false → t = after)
      ∧ (completes = true → t = (after.captureReported ⟨⟨stampOf u, x.goodIndex + 1⟩, false⟩).settle)
      ∧ y.capture = (if completes then none else x.capture)
      ∧ y.channel ch = ⟨(x.channel ch).raw, (x.channel ch).raw, none⟩
      ∧ y.channel (otherChannel ch) = x.channel (otherChannel ch)
      ∧ y.reference = (if dual then y.levels else x.reference)
      ∧ y.counts.transitionsA
          = (if dual ∧ ch = .a then min 65535 (x.counts.transitionsA + 1) else x.counts.transitionsA)
      ∧ y.counts.transitionsB
          = (if dual ∧ ch = .b then min 65535 (x.counts.transitionsB + 1) else x.counts.transitionsB)
      ∧ y.counts.good = (if counted then min 65535 (x.counts.good + 1) else x.counts.good)
      ∧ y.counts.saturated = (x.counts.saturated || (counted && decide (x.counts.good = 65535)))
      ∧ y.counts.reverse = x.counts.reverse ∧ y.counts.phaseErrors = x.counts.phaseErrors
      ∧ y.goodIndex = (if counted then x.goodIndex + 1 else x.goodIndex)
      ∧ y.history = (if counted then pushHistory x.history ⟨stampOf u, x.goodIndex + 1⟩ else x.history)
      ∧ y = { x with
          chA := y.chA, chB := y.chB, reference := y.reference, counts := y.counts
          goodIndex := y.goodIndex, history := y.history, capture := y.capture }

/-- R5, R7, R14, R15, R17, R18, R21: steps 1 to 3 of an expiry of an in-service run whose earlier steps are done. The
counts go to the Correction Engine with the pulse state that was in force, the next period starts with counts of 0
under METER r as it stands, PULSE_ERROR and REVERSE_FLOW follow the period's counts, and a saturation mark raises and
clears COUNT_OVERRUN. From DUAL_OK a run degrades exactly when one channel made 16 transitions or more and the other
none: the accumulator is set to 0 and PULSE_DEGRADED raised. From a single state it returns exactly when both made 16
or more without a phase error: the accumulator is set to 0, the present levels become the reference and PULSE_DEGRADED
is cleared; it changes over exactly when the live channel was silent and the other made 16 or more, with
PULSE_DEGRADED as it was. A changed pulse mode replaces these outcomes. An expiry that leaves a run in DUAL in another
state than DUAL_OK marks an open pass watch. Nothing outside the run, its own four alarms and the time base changes,
but ALARM_CHANGED, which is set where an alarm moved. -/
def Obligations.ExpiryHandsThePeriodOver : Prop :=
  (∀ (s : State) (r : Run) (u : Moment), s.phase = .running → s.Settled → s.pulses[r].timerFrom = some u →
      s.cen[r].handover = none → s.cen[r].computed = none →
      ∃ (t : State) (x y : RunPulse), exec (.periodExpiry r) s = .next t ∧ x = s.pulses[r] ∧ y = t.pulses[r]
        ∧ t = { s with
            now := t.now, pulses := s.pulses.set r y, cen := t.cen, alarms := t.alarms, flags := t.flags }
        ∧ t.now = max s.now (u + 10000000)
        ∧ t.cen = s.cen.set r { s.cen[r] with
            handover := some ⟨x.counts.good, x.counts.reverse, x.counts.phaseErrors, x.pulseState, x.counts.saturated,
              1000, false, s.clock⟩ }
        ∧ y.counts = .zero ∧ y.timerFrom = some t.now ∧ y.settings = settingsOf s.params.meter[r]
        ∧ y.flow = x.flow ∧ y.goodIndex = x.goodIndex ∧ y.history = x.history ∧ y.capture = x.capture
        ∧ y.chA = x.chA ∧ y.chB = x.chB ∧ y.lastPhaseError = x.lastPhaseError ∧ y.lastReverse = x.lastReverse
        ∧ (x.settings.mode = s.params.meter[r].mode → y.pulseState = testedState x.counts x.pulseState
            ∧ (x.pulseState = .dualOk → y.pulseState ≠ .dualOk → y.quarter = 0 ∧ y.reference = x.reference
                ∧ t.alarm (.run r .pulseDegraded)
                  = (s.raiseAlarm (.run r .pulseDegraded)).alarm (.run r .pulseDegraded))
            ∧ (x.pulseState.degraded = true → y.pulseState = .dualOk → y.quarter = 0 ∧ y.reference = x.levels
                ∧ t.alarm (.run r .pulseDegraded)
                  = (s.clearAlarm (.run r .pulseDegraded)).alarm (.run r .pulseDegraded))
            ∧ ((x.pulseState = .dualOk ↔ y.pulseState = .dualOk) → y.quarter = x.quarter ∧ y.reference = x.reference
                ∧ t.alarm (.run r .pulseDegraded) = s.alarm (.run r .pulseDegraded)))
        ∧ (x.settings.mode = .dual → s.params.meter[r].mode = PulseMode.singleA →
            y.pulseState = .singleMode ∧ y.quarter = 0 ∧ y.reference = x.reference
              ∧ t.alarmRaised (.run r .pulseDegraded) = false)
        ∧ (x.settings.mode = .singleA → s.params.meter[r].mode = PulseMode.dual →
            y.pulseState = .dualOk ∧ y.quarter = 0 ∧ y.reference = x.levels
              ∧ t.alarm (.run r .pulseDegraded) = s.alarm (.run r .pulseDegraded))
        ∧ y.watch
            = (if s.params.meter[r].mode = PulseMode.dual ∧ y.pulseState ≠ .dualOk
              then x.watch.map (fun w => { w with integrity := true }) else x.watch)
        ∧ (x.counts.saturated = true →
            t.alarm (.run r .countOverrun)
                = (s.pulseAlarm (.run r .countOverrun)).alarm (.run r .countOverrun)
              ∧ t.alarmRaised (.run r .countOverrun) = false
              ∧ (s.alarmRaised (.run r .countOverrun) = false →
                  (t.alarm (.run r .countOverrun)).state = .returnedUnack)
              ∧ t.flags.alarmChanged = true)
        ∧ (x.counts.saturated = false → t.alarm (.run r .countOverrun) = s.alarm (.run r .countOverrun)
              ∧ (t.alarms = s.alarms → t.flags = s.flags))
        ∧ (t.alarms ≠ s.alarms → t.flags.alarmChanged = true)
        ∧ t.flags = { s.flags with alarmChanged := t.flags.alarmChanged }
        ∧ t.alarmRaised (.run r .pulseError) = decide (x.settings.phaseErrorLimit < x.counts.phaseErrors)
        ∧ t.alarmRaised (.run r .reverseFlow) = decide (1 ≤ x.counts.reverse)
        ∧ (∀ a : AlarmId, a ≠ .run r .pulseError → a ≠ .run r .reverseFlow → a ≠ .run r .pulseDegraded →
            a ≠ .run r .countOverrun → t.alarm a = s.alarm a))
    ∧ (∀ c : PeriodCounts,
      (testedState c .dualOk = .singleAOnly ↔ 16 ≤ c.transitionsA ∧ c.transitionsB = 0)
      ∧ (testedState c .dualOk = .singleBOnly ↔ 16 ≤ c.transitionsB ∧ c.transitionsA = 0)
      ∧ (∀ p : PulseState, p.degraded = true →
          (testedState c p = .dualOk ↔ 16 ≤ c.transitionsA ∧ 16 ≤ c.transitionsB ∧ c.phaseErrors = 0))
      ∧ (testedState c .singleAOnly = .singleBOnly ↔ c.transitionsA = 0 ∧ 16 ≤ c.transitionsB)
      ∧ (testedState c .singleBOnly = .singleAOnly ↔ c.transitionsB = 0 ∧ 16 ≤ c.transitionsA)
      ∧ testedState c .singleMode = .singleMode ∧ ∀ p : PulseState, p ≠ .singleMode → testedState c p ≠ .singleMode)

/-- R2, R3, R4: RUN SERVICE IN of one run that is out of service. The run counts from the present levels under METER r
as it stands, and one audit entry is written. A RUN SERVICE that names no run is refused with BAD_PARAM, and a named
run that is already where the request would put it is left as it is, with the outcome NOT_ALLOWED under the status OK;
a run within the steps of an expiry has them done first, in an event of their own (the model's choice, log entry 11).
A RUN SERVICE that names several runs, in either direction, changes what a request of the lowest run alone and then
one of the others would change, audit entries included, in one retained update, and its reply is the list of their
outcomes in run order (R211; that no run numbers stand in it is the model's reading, log entry 22). -/
def Obligations.RunServiceInStartsCounting : Prop :=
  (∀ (s : State) (r : Run), s.Ready → s.ret.service[r] = .outOfService →
      exec (.runService (noRuns.set r true) .into) s
        = .next { (({ s with
            ret := { s.ret with service := s.ret.service.set r .inService }
            pulses := s.pulses.set r { s.pulses[r] with
              flow := some .noFlow
              timerFrom := some s.now
              reference := s.pulses[r].levels
              quarter := 0
              pulseState :=
                (if s.params.meter[r].mode = PulseMode.dual then PulseState.dualOk else PulseState.singleMode)
              settings := settingsOf s.params.meter[r]
              counts := .zero
              goodIndex := 0
              history := []
              lastPhaseError := none
              lastReverse := none } }.clearAlarm (.run r .pulseDegraded)).appendAudit
                (.runService r .outOfService .inService)).settle with
            reply := some ⟨.ok, [.u8 1, .u8 Status.ok.code]⟩ })
    ∧ (∀ s : State, s.Ready →
      (∀ dir : Direction, exec (.runService noRuns dir) s = .next { s with reply := some ⟨.badParam, []⟩ })
      ∧ ∀ r : Run,
        (s.ret.service[r] = .inService →
          (s.cen[r].handover = none → s.cen[r].computed = none →
            exec (.runService (noRuns.set r true) .into) s
              = .next { s with reply := some ⟨.ok, [.u8 1, .u8 Status.notAllowed.code]⟩ })
          ∧ ((s.cen[r].handover ≠ none ∨ s.cen[r].computed ≠ none) →
            ∃ t u : State, exec (.periodComputation r) s = .next t ∧ exec (.periodCrediting r) t = .next u
              ∧ exec (.runService (noRuns.set r true) .into) s
                  = .next { u with reply := some ⟨.ok, [.u8 1, .u8 Status.notAllowed.code]⟩ }))
        ∧ (s.ret.service[r] = .outOfService → exec (.runService (noRuns.set r true) .out) s
          = .next { s with reply := some ⟨.ok, [.u8 1, .u8 Status.notAllowed.code]⟩ }))
    ∧ (∀ (s : State) (runs : RunSet) (dir : Direction) (r : Run), s.Ready → runs[r] = true →
      (∀ q : Run, q < r → runs[q] = true → s.ret.service[q] = .inService →
        s.cen[q].handover = none ∧ s.cen[q].computed = none) →
      (s.ret.service[r] = .inService → (s.cen[r].handover ≠ none ∨ s.cen[r].computed ≠ none) →
        ∃ t u : State, exec (.periodComputation r) s = .next t ∧ exec (.periodCrediting r) t = .next u
          ∧ exec (.runService runs dir) s = exec (.runService runs dir) u)
      ∧ ((∀ q : Run, q < r → runs[q] = false) → (∃ q : Run, r < q ∧ runs[q] = true) →
        (∀ q : Run, runs[q] = true → s.ret.service[q] = .inService →
          s.cen[q].handover = none ∧ s.cen[q].computed = none) →
        ∃ (t u v : State) (n : Nat) (outcome : Field) (outcomes : List Field),
          exec (.runService (noRuns.set r true) dir) s = .next u ∧ u.reply = some ⟨.ok, [.u8 1, outcome]⟩
          ∧ exec (.runService (runs.set r false) dir) u = .next v ∧ v.reply = some ⟨.ok, .u8 n :: outcomes⟩
          ∧ outcomes.length = n
          ∧ exec (.runService runs dir) s = .next t ∧ t.Settled
          ∧ t = { v with
              bankA := t.bankA, bankB := t.bankB, current := t.current
              reply := some ⟨.ok, .u8 (n + 1) :: outcome :: outcomes⟩ }
          ∧ (t.ret = s.ret → t.bankA = s.bankA ∧ t.bankB = s.bankB ∧ t.current = s.current)
          ∧ (t.ret ≠ s.ret → t.current ≠ s.current
              ∧ t.currentBank = ⟨t.ret, s.currentBank.generation + 1, true⟩)))

/-- R2, R4: RUN SERVICE OUT of one in-service run. The run is out of service with its timer stopped and no capture or
pass watch, its three pulse conditions are clear, the latest record is the final partial period, of the whole
milliseconds elapsed, its counts are 0, and one audit entry is written. R151: a prove of that run in a proving state fails
with RUN_LEFT_SERVICE, whatever slot the final period had, and any other prove goes on as it stood. The reply is the
list of one outcome, without a run number (log entry 22). -/
def Obligations.RunServiceOutEndsThePeriod : Prop :=
  ∀ (s : State) (r : Run) (u : Moment), s.Ready → s.ret.service[r] = .inService → s.pulses[r].timerFrom = some u →
    s.cen[r].handover = none → s.cen[r].computed = none →
    ∃ t : State, exec (.runService (noRuns.set r true) .out) s = .next t
      ∧ t.reply = some ⟨.ok, [.u8 1, .u8 Status.ok.code]⟩
      ∧ t.ret.service = s.ret.service.set r .outOfService ∧ t.Settled
      ∧ t.pulses[r].flow = none ∧ t.pulses[r].timerFrom = none ∧ t.pulses[r].capture = none
      ∧ t.pulses[r].watch = none ∧ t.pulses[r].pulseState = s.pulses[r].pulseState ∧ t.pulses[r].counts = .zero
      ∧ (∃ rec : PeriodRecord, t.cen[r].latest = some rec ∧ rec.final = true ∧ rec.good = s.pulses[r].counts.good
          ∧ rec.len = min 1000 ((s.now - u) / 10000))
      ∧ t.alarmRaised (.run r .pulseError) = false ∧ t.alarmRaised (.run r .pulseDegraded) = false
      ∧ t.alarmRaised (.run r .reverseFlow) = false
      ∧ (s.proves r = false → t.psq = s.psq ∧ t.ret.marker = s.ret.marker ∧ t.ret.lastProve = s.ret.lastProve
          ∧ t.alarm (.station .proveFailed) = s.alarm (.station .proveFailed))
      ∧ (s.proves r = true → t.psq.state = .idle ∧ t.psq.route = noRuns ∧ t.psq.dirReverse = s.psq.dirReverse
          ∧ t.alarmRaised (.station .proveFailed) = true
          ∧ ∀ m : ProveMarker, s.ret.marker = some m → t.flags.proveFinished = true ∧ t.ret.marker = none
              ∧ t.ret.lastProve = s.ret.lastProve.set m.run
                  (some ⟨s.clock, m.startTime, m.slot, s.psq.attempts, .failed .runLeftService⟩))
      ∧ t.audit = s.audit.write ⟨s.auditNext, s.clock, .runService r .inService .outOfService⟩
      ∧ t.auditNext = s.auditNext + 1
      ∧ t = { s with
          ret := t.ret, bankA := t.bankA, bankB := t.bankB, current := t.current, pulses := t.pulses, cen := t.cen
          psq := t.psq, smc := t.smc, archive := t.archive, write := t.write, erase := t.erase, audit := t.audit
          auditNext := t.auditNext, alarms := t.alarms, flags := t.flags, reply := t.reply }

/-! ### Chapter 2: live values -/

/-- R28: an OK entry within range. R26: a request of several entries treats each value as a request of its entry alone
would, leaves the values that it does not name as they were, and answers with the index and the quality in force of each,
in the order of the request; an empty list, an index above 11 or an index given twice is refused with BAD_PARAM and
changes nothing. -/
def Obligations.GoodArrivalIsLive : Prop :=
  (∀ (s : State) (v : ValueId) (x : Int), s.Ready → valueInRange v x = true →
      ∃ t : State, exec (.liveValues [⟨(valueIndex v).val, .ok, x⟩]) s = .next t
        ∧ t.value v = { s.value v with
            lastGood := some x
            ladder := .live
            stale := some (s.now + s.params.station.staleTimeout * 10000000)
            hold := some (s.now + s.params.station.holdLimit * 10000000)
            arrival := some s.now
            clampRaised := false }
        ∧ (t.value v).quality = (if (s.value v).manual.isSome then .overridden else .live)
        ∧ (∀ a : AlarmId, clampAlarm? v = some a → t.alarm a = ((s.clearAlarm a).alarm a))
        ∧ t.alarmRaised (qualityAlarm v) = false
        ∧ (∀ w : ValueId, w ≠ v → t.value w = s.value w)
        ∧ (∀ a : AlarmId, clampAlarm? v ≠ some a → a ≠ qualityAlarm v → t.alarm a = s.alarm a)
        ∧ t.reply = some ⟨.ok, [.u8 1, .u8 (valueIndex v).val, .u8 (t.value v).quality.code]⟩
        ∧ t = { s with values := t.values, alarms := t.alarms, flags := t.flags, reply := t.reply })
    ∧ (∀ s : State, s.Ready →
      (∀ es : List LiveEntry,
        (es = [] ∨ (∃ e ∈ es, 11 < e.index) ∨ ¬ (es.map LiveEntry.index).Nodup) →
        exec (.liveValues es) s = .next { s with reply := some ⟨.badParam, []⟩ })
      ∧ ∀ ves : List (ValueId × TransmitterStatus × Int), ves ≠ [] → (ves.map Prod.fst).Nodup →
        ∃ t : State, exec (.liveValues (ves.map (fun y => ⟨(valueIndex y.1).val, y.2.1, y.2.2⟩))) s = .next t
          ∧ (∀ y ∈ ves, ∃ u : State,
              exec (.liveValues [⟨(valueIndex y.1).val, y.2.1, y.2.2⟩]) s = .next u ∧ t.value y.1 = u.value y.1
                ∧ t.alarm (qualityAlarm y.1) = u.alarm (qualityAlarm y.1)
                ∧ ∀ a : AlarmId, clampAlarm? y.1 = some a → t.alarm a = u.alarm a)
          ∧ (∀ v : ValueId, v ∉ ves.map Prod.fst → t.value v = s.value v)
          ∧ (∀ a : AlarmId, (∀ y ∈ ves, a ≠ qualityAlarm y.1 ∧ clampAlarm? y.1 ≠ some a) → t.alarm a = s.alarm a)
          ∧ t.reply = some ⟨.ok, .u8 ves.length
              :: ves.flatMap (fun y => [.u8 (valueIndex y.1).val, .u8 (t.value y.1).quality.code])⟩
          ∧ t = { s with values := t.values, alarms := t.alarms, flags := t.flags, reply := t.reply })

/-- R30: a FAULT entry. -/
def Obligations.FaultEntryHoldsTheValue : Prop :=
  ∀ (s : State) (v : ValueId) (x : Int), s.Ready → s.QualityAlarmsAgree →
    ∃ t : State, exec (.liveValues [⟨(valueIndex v).val, .fault, x⟩]) s = .next t
      ∧ (((s.value v).ladder = .live ∨ (s.value v).ladder = .liveClamped) →
          t.value v = { s.value v with ladder := .held, stale := none })
      ∧ (((s.value v).ladder = .held ∨ (s.value v).ladder = .substituted) → t = { s with reply := t.reply })
      ∧ (t.value v).lastGood = (s.value v).lastGood ∧ (t.value v).hold = (s.value v).hold
      ∧ (t.value v).clampRaised = (s.value v).clampRaised ∧ (t.value v).manual = (s.value v).manual
      ∧ (∀ w : ValueId, w ≠ v → t.value w = s.value w)
      ∧ (∀ a : AlarmId, a ≠ qualityAlarm v → t.alarm a = s.alarm a)
      ∧ t = { s with values := t.values, alarms := t.alarms, flags := t.flags, reply := t.reply }

/-- R27, R29, R31, R32, R39, R40: the expiries of a value's two timers; and an OK entry outside the range is stored as
the nearer limit, LIVE_CLAMPED, with both timers restarted and the clamp condition, if the value has one, raised. -/
def Obligations.AgeingAndClampingOfAValue : Prop :=
  (∀ (s : State) (v : ValueId) (d : Moment), s.phase = .running → s.Settled →
      ((s.value v).stale = some d → ((s.value v).ladder = .live ∨ (s.value v).ladder = .liveClamped) →
        ∃ t : State, exec (.staleTimerExpiry v) s = .next t
          ∧ t.value v = { s.value v with ladder := .held, stale := none }
          ∧ t.alarmRaised (qualityAlarm v) = (s.value v).manual.isNone
          ∧ t = { s with
              now := max s.now d, values := s.values.set (valueIndex v) (t.value v), alarms := t.alarms
              flags := t.flags })
      ∧ ((s.value v).hold = some d →
        ∃ t : State, exec (.holdTimerExpiry v) s = .next t
          ∧ t.value v = { s.value v with ladder := .substituted, stale := none, hold := none }
          ∧ t.alarmRaised (qualityAlarm v) = (s.value v).manual.isNone
          ∧ t = { s with
              now := max s.now d, values := s.values.set (valueIndex v) (t.value v), alarms := t.alarms
              flags := t.flags }))
    ∧ (∀ (s : State) (v : ValueId) (x : Int), s.Ready → valueInRange v x = false →
      ∃ t : State, exec (.liveValues [⟨(valueIndex v).val, .ok, x⟩]) s = .next t
        ∧ t.value v = { s.value v with
            lastGood := some (if x < valueLow v then valueLow v else valueHigh v)
            ladder := .liveClamped
            stale := some (s.now + s.params.station.staleTimeout * 10000000)
            hold := some (s.now + s.params.station.holdLimit * 10000000)
            arrival := some s.now
            clampRaised := (clampAlarm? v).isSome }
        ∧ (∀ a : AlarmId, clampAlarm? v = some a → t.alarmRaised a = true)
        ∧ t.alarmRaised (qualityAlarm v) = false
        ∧ (∀ w : ValueId, w ≠ v → t.value w = s.value w)
        ∧ (∀ a : AlarmId, clampAlarm? v ≠ some a → a ≠ qualityAlarm v → t.alarm a = s.alarm a)
        ∧ t = { s with values := t.values, alarms := t.alarms, flags := t.flags, reply := t.reply })

/-- R37, R38: an override sets and releases the value in force, each with one audit entry that gives the value in
force on the other side of the change. -/
def Obligations.OverridesSetAndRelease : Prop :=
  ∀ (s : State) (v : ValueId) (x : Int), s.Ready →
    (valueInRange v x = true →
      ∃ t : State, exec (.overrideSet (valueIndex v).val x) s = .next t
        ∧ t.value v = { s.value v with manual := some x } ∧ t.alarmRaised (qualityAlarm v) = false
        ∧ (∀ ctx : SubstituteContext, t.valueInForce ctx v = ⟨x, .overridden⟩)
        ∧ t = { s with
            values := s.values.set (valueIndex v) (t.value v), alarms := t.alarms, flags := t.flags
            audit := s.audit.write
              ⟨s.auditNext, s.clock, .overrideSet (valueIndex v).val (s.valueInForce s.auditContext v) x⟩
            auditNext := s.auditNext + 1, reply := some ⟨.ok, []⟩ })
    ∧ (valueInRange v x = false →
        exec (.overrideSet (valueIndex v).val x) s = .next { s with reply := some ⟨.badParam, []⟩ })
    ∧ ((s.value v).manual = some x →
      ∃ t : State, exec (.overrideRelease (valueIndex v).val) s = .next t
        ∧ t.value v = { s.value v with manual := none }
        ∧ t.alarmRaised (qualityAlarm v) = (t.value v).notFresh
        ∧ t = { s with
            values := s.values.set (valueIndex v) (t.value v), alarms := t.alarms, flags := t.flags
            audit := s.audit.write
              ⟨s.auditNext, s.clock, .overrideRelease (valueIndex v).val x (t.valueInForce s.auditContext v)⟩
            auditNext := s.auditNext + 1, reply := some ⟨.ok, []⟩ })
    ∧ ((s.value v).manual = none →
        exec (.overrideRelease (valueIndex v).val) s = .next { s with reply := some ⟨.notAllowed, []⟩ })
    ∧ ∀ n : Nat, 11 < n →
        exec (.overrideSet n x) s = .next { s with reply := some ⟨.badParam, []⟩ }
        ∧ exec (.overrideRelease n) s = .next { s with reply := some ⟨.badParam, []⟩ }

/-! ### Chapter 3: sections, staging and the seal -/

/-- R53, R54: a staging opens with its kind, run set and announced count, replacing an OPEN one; each item of the open
kind joins it and moves the deadline; an item beyond the announced count closes it with STAGE_ERROR. At the inactivity
deadline the staging is discarded and STAGING_ABANDONED set (R55), and the command moves the time base to it (the model's
choice, log entry 3); with no staging OPEN nothing happens. STAGE CANCEL (R56) discards it without that flag. That the
number of items held takes two bytes in the reply is read from R208 by inference (log entry 22). -/
def Obligations.StagingTakesItsItems : Prop :=
  (∀ s : State, s.Ready →
      (∀ (kind : SectionKind) (runs : Option RunSet) (n : Nat),
        (runSetFits kind runs = true → 1 ≤ n → n ≤ itemLimit kind →
          exec (.stageOpen kind runs n) s
            = .next { s with staging := some ⟨kind, runs, n, [], s.now + 300000000⟩, reply := some ⟨.ok, []⟩ })
        ∧ ((runSetFits kind runs = false ∨ n = 0 ∨ itemLimit kind < n) →
          exec (.stageOpen kind runs n) s = .next { s with reply := some ⟨.badParam, []⟩ }))
      ∧ (∀ body : List Byte,
        (s.staging = none → exec (.stageItem body) s = .next { s with reply := some ⟨.notAllowed, []⟩ })
        ∧ ∀ st : Staging, s.staging = some st →
          (itemOfBody? st.kind body = none → exec (.stageItem body) s = .next { s with reply := some ⟨.badParam, []⟩ })
          ∧ ∀ item : StageEntry, itemOfBody? st.kind body = some item →
            (st.items.length < st.announced →
              exec (.stageItem body) s
                = .next { s with
                    staging := some { st with items := st.items ++ [item], deadline := s.now + 300000000 }
                    reply := some ⟨.ok, [.u16 (st.items.length + 1)]⟩ })
            ∧ (st.announced ≤ st.items.length →
              exec (.stageItem body) s = .next { s with staging := none, reply := some ⟨.stageError, []⟩ })))
    ∧ (∀ s : State, s.phase = .running → s.Settled →
      (∀ st : Staging, s.staging = some st →
        exec .stagingInactivityExpiry s
          = .next { s with
              now := max s.now st.deadline, staging := none, flags := { s.flags with stagingAbandoned := true } })
      ∧ (s.staging = none → exec .stagingInactivityExpiry s = .next s))
    ∧ (∀ s : State, s.Ready →
      (s.staging ≠ none → exec .stageCancel s = .next { s with staging := none, reply := some ⟨.ok, []⟩ })
      ∧ (s.staging = none → exec .stageCancel s = .next { s with reply := some ⟨.notAllowed, []⟩ }))

/-- R57, R58: the outcomes of STAGE COMMIT, in the order of its checks. A success replaces the content whole and
writes one SECTION_COMMIT entry for each target section in order; a refusal changes no section and writes no entry;
after every outcome the staging is CLOSED. -/
def Obligations.CommitReplacesTheSectionsOrRefuses : Prop :=
  ∀ s : State, s.Ready →
    (s.staging = none → exec .stageCommit s = .next { s with reply := some ⟨.notAllowed, []⟩ })
    ∧ ∀ (st : Staging) (targets : List SectionRef), s.staging = some st → targets = targetSections st.kind st.runs →
      (st.items.length < st.announced →
        exec .stageCommit s = .next { s with staging := none, reply := some ⟨.stageError, []⟩ })
      ∧ (st.announced ≤ st.items.length →
        (s.seal = .closed → targets.any s.locked = true →
          exec .stageCommit s = .next { s with staging := none, reply := some ⟨.isSealed, []⟩ })
        ∧ ((s.seal = .opened ∨ targets.any s.locked = false) →
          (targets.any s.heldByProve = true →
            exec .stageCommit s = .next { s with staging := none, reply := some ⟨.busy, []⟩ })
          ∧ (targets.any s.heldByProve = false →
            (s.params.newContent? st = none →
              exec .stageCommit s = .next { s with staging := none, reply := some ⟨.badParam, []⟩ })
            ∧ ∀ new : Params, s.params.newContent? st = some new →
              exec .stageCommit s
                = .next { s with
                    params := new
                    staging := none
                    audit := targets.zipIdx.foldl (fun ring x => ring.write
                      ⟨s.auditNext + BitVec.ofNat 32 x.2, s.clock, .sectionCommit x.1.number.val
                        (sectionDigest s.params x.1) (sectionDigest new x.1)⟩) s.audit
                    auditNext := s.auditNext + BitVec.ofNat 32 targets.length
                    reply := some ⟨.ok, .u8 targets.length
                      :: targets.flatMap (fun ref => [.u8 ref.number.val, .u16 (sectionDigest new ref).toNat])⟩ })))

/-- R62: LOCK SECTION and UNLOCK ALL, and the flags as a commit judges them. -/
def Obligations.LocksAreSetAndClearedUnderAnOpenSeal : Prop :=
  ∀ s : State, s.Ready →
    (∀ n : Nat, 11 < n → exec (.lockSection n) s = .next { s with reply := some ⟨.badParam, []⟩ })
    ∧ (∀ ref : SectionRef,
      (s.seal = .closed → exec (.lockSection ref.number.val) s = .next { s with reply := some ⟨.isSealed, []⟩ })
      ∧ (s.seal = .opened → s.locked ref = true →
          exec (.lockSection ref.number.val) s = .next { s with reply := some ⟨.ok, []⟩ })
      ∧ (s.seal = .opened → s.locked ref = false →
          exec (.lockSection ref.number.val) s
            = .next { s with
                locks := s.locks.set ref.number true
                audit := s.audit.write ⟨s.auditNext, s.clock, .lock ref.number.val⟩
                auditNext := s.auditNext + 1
                reply := some ⟨.ok, []⟩ }))
    ∧ (s.seal = .closed → exec .unlockAll s = .next { s with reply := some ⟨.isSealed, []⟩ })
    ∧ (s.seal = .opened →
        exec .unlockAll s
          = .next { s with
              locks := Vector.replicate 12 false
              audit := s.audit.write
                ⟨s.auditNext, s.clock,
                  .unlockAll ((List.range 12).filter (fun n => (s.locks[n]?).getD false))⟩
              auditNext := s.auditNext + 1
              reply := some ⟨.ok, []⟩ })
    ∧ (∀ (st : Staging) (ref : SectionRef), s.staging = some st → st.announced ≤ st.items.length → s.seal = .closed →
        ref ∈ targetSections st.kind st.runs →
        (s.locked ref = true →
          exec .stageCommit s = .next { s with staging := none, reply := some ⟨.isSealed, []⟩ })
        ∧ ((∀ x ∈ targetSections st.kind st.runs, s.locked x = false) →
          ∃ u : State, exec .stageCommit s = .next u ∧ u.reply ≠ some ⟨.isSealed, []⟩))

/-- R61: a change of SEAL that has held 50 ms becomes the seal state; it is recorded, audited, and SEAL_OPEN follows
it. -/
def Obligations.SealChangeIsAudited : Prop :=
  ∀ (s : State) (u : Moment), s.phase = .running → s.Settled → s.sealInput.since = some u →
    ∃ t : State, exec .sealChange s = .next t
      ∧ t.seal = (if s.sealInput.raw then .closed else .opened) ∧ t.recordedSeal = t.seal
      ∧ t.sealInput = ⟨s.sealInput.raw, s.sealInput.raw, none⟩
      ∧ t.alarmRaised (.station .sealOpen) = decide (t.seal = .opened)
      ∧ (∀ a : AlarmId, a ≠ .station .sealOpen → t.alarm a = s.alarm a)
      ∧ t = { s with
          now := max s.now (u + 500000), sealInput := t.sealInput, recordedSeal := t.recordedSeal
          audit := s.audit.write ⟨s.auditNext, s.clock, .sealChange s.seal t.seal false⟩
          auditNext := s.auditNext + 1, alarms := t.alarms, flags := t.flags }

/-! ### Chapter 4: the correction arithmetic -/

/-- R67, R68, R72, R83 to R85: step 4 of an expiry. The record takes the period handed over, the placement and the
values as they stand; nothing is credited yet, and only MF_UNDEFINED and HIGH_RATE of the run can change beside it.
R70: Q is IVinc × 36 / len rounded half up, and 0 for a len of 0. R36, R82: each of the four value flags is set
exactly when one of T, P, ρ and SW was used with its quality. -/
def Obligations.ComputationYieldsTheRecord : Prop :=
  ∀ (s : State) (r : Run) (h : Handover), s.phase = .running → s.Settled → s.cen[r].handover = some h →
    ∃ (t : State) (c : ComputedPeriod), exec (.periodComputation r) s = .next t
      ∧ t.cen = s.cen.set r { s.cen[r] with handover := none, computed := some c }
      ∧ c.record.seq = s.ret.periodSeq[r] + 1 ∧ c.record.endTime = h.endTime ∧ c.record.len = h.len
      ∧ c.record.final = h.final ∧ c.record.good = h.good ∧ c.record.reverse = h.reverse
      ∧ c.record.phaseErrors = h.phaseErrors ∧ c.record.pulseState = h.pulseState
      ∧ c.record.slot = (s.place r).slot ∧ c.record.target = (s.place r).target ∧ c.closing = (s.place r).closing
      ∧ c.record.t = s.valueInForce (s.runContext r) (.t r) ∧ c.record.p = s.valueInForce (s.runContext r) (.p r)
      ∧ c.record.sw = s.swUsed r ∧ c.record.rho = s.rhoUsed r
      ∧ (h.len = 0 → c.record.q = 0) ∧ (0 < h.len → c.record.q = (2 * (c.record.iv * 36) + h.len) / (2 * h.len))
      ∧ c.record.mf = meterFactor s.params.curves[r][c.record.slot] c.record.q
      ∧ c.record.flags.countSaturated = h.saturated
      ∧ c.record.flags.unverifiedPulses = h.pulseState.degraded
      ∧ c.record.flags.mfDefault = decide (s.params.curves[r][c.record.slot] = [])
      ∧ (∀ used : List ValueUsed, used = [c.record.t, c.record.p, c.record.rho, c.record.sw] →
          (c.record.flags.valueHeld = true ↔ ∃ v ∈ used, v.quality = .held)
          ∧ (c.record.flags.valueSubstituted = true ↔ ∃ v ∈ used, v.quality = .substituted)
          ∧ (c.record.flags.valueClamped = true ↔ ∃ v ∈ used, v.quality = .liveClamped)
          ∧ (c.record.flags.valueOverride = true ↔ ∃ v ∈ used, v.quality = .overridden))
      ∧ t.alarmRaised (.run r .mfUndefined) = (c.record.flags.mfDefault && !h.final)
      ∧ (∀ a : AlarmId, a ≠ .run r .mfUndefined → a ≠ .run r .highRate → t.alarm a = s.alarm a)
      ∧ t = { s with cen := t.cen, alarms := t.alarms, flags := t.flags }

/-- R69, R77, R78, R79, R80: each floor division of a computation hands its remainder on, so that no part of a pulse,
of a volume or of a mass is lost or counted twice: what is credited and what is carried out add up to what came in. -/
def Obligations.StageDivisionsLoseNothing : Prop :=
  ∀ (s t : State) (r : Run) (h : Handover) (c : ComputedPeriod), s.phase = .running → s.cen[r].handover = some h →
    exec (.periodComputation r) s = .next t → t.cen[r].computed = some c →
      (c.record.iv * s.params.meter[r].kx + c.rem.rIV = h.good * 1000000000 + s.ret.rem[r].rIV
        ∧ (0 < s.params.meter[r].kx → c.rem.rIV < s.params.meter[r].kx))
      ∧ (c.record.gv * 1000000 + c.rem.rGV = c.record.iv * c.record.mf + s.ret.rem[r].rGV ∧ c.rem.rGV < 1000000)
      ∧ (c.record.gsv * 1000000 + c.rem.rGSV = c.record.iv * c.record.ccf + s.ret.rem[r].rGSV
          ∧ c.rem.rGSV < 1000000)
      ∧ (c.record.nsv * 1000000 + c.rem.rNSV
            = c.record.gsv * (1000000 - 10 * c.record.sw.value.toNat) + s.ret.rem[r].rNSV
          ∧ c.rem.rNSV < 1000000)
      ∧ (c.record.mass * 10000 + c.rem.rM = c.record.gsv * c.record.rho.value.toNat + s.ret.rem[r].rM
          ∧ c.rem.rM < 10000)

/-- R74 to R76: CTL, CPL and CCF of a computed record. CTL is 1,000,000 plus (β × ΔT² − α × ΔT × 10,000) / 10,000,000
rounded half away, held within 900,000 to 1,100,000 with its flag, which a result at exactly a limit does not set. CPL
is 1,000,000 plus F × P / 1,000 rounded half up, held at 1,050,000 with its flag, and at most 1,020,000 within the
ranges of F and P. CCF is MF × CTL × CPL / 10¹² rounded half up, not clamped, and lies within 855,000 to 1,212,750 by
the ranges of its factors. -/
def Obligations.PressureAndCombinedFactorsAreRoundedHalfUp : Prop :=
  ∀ (s t : State) (r : Run) (c : ComputedPeriod) (pr : Product) (p : Nat) (dt x raw : Int), s.phase = .running →
    s.cen[r].handover ≠ none → exec (.periodComputation r) s = .next t → t.cen[r].computed = some c →
    pr = s.params.products[c.record.slot] → c.record.p.value = (p : Int) → dt = c.record.t.value - pr.tb →
    x = pr.beta * (dt * dt) - (pr.alpha : Int) * dt * 10000 →
    raw = (if 0 ≤ x then 1000000 + (2 * x + 10000000) / 20000000 else 1000000 - (2 * -x + 10000000) / 20000000) →
      (raw < 900000 → c.record.ctl = 900000 ∧ c.record.flags.ctlClamped = true)
      ∧ (900000 ≤ raw → raw ≤ 1100000 → (c.record.ctl : Int) = raw ∧ c.record.flags.ctlClamped = false)
      ∧ (1100000 < raw → c.record.ctl = 1100000 ∧ c.record.flags.ctlClamped = true)
      ∧ (dt = 0 → c.record.ctl = 1000000)
      ∧ ((pr.f * p + 500) / 1000 ≤ 50000 →
        c.record.cpl = 1000000 + (pr.f * p + 500) / 1000 ∧ c.record.flags.cplClamped = false)
      ∧ (50000 < (pr.f * p + 500) / 1000 → c.record.cpl = 1050000 ∧ c.record.flags.cplClamped = true)
      ∧ 1000000 ≤ c.record.cpl ∧ (pr.f ≤ 2000 → p ≤ 10000 → c.record.cpl ≤ 1020000)
      ∧ 2000000000000 * c.record.ccf ≤ 2 * (c.record.mf * c.record.ctl * c.record.cpl) + 1000000000000
      ∧ 2 * (c.record.mf * c.record.ctl * c.record.cpl) < 2000000000000 * c.record.ccf + 1000000000000
      ∧ (950000 ≤ c.record.mf → c.record.mf ≤ 1050000 → 855000 ≤ c.record.ccf ∧ c.record.ccf ≤ 1212750)

/-- R73: HIGH_RATE follows each period that is not a final one, and changes nothing of the computation. -/
def Obligations.HighRateFollowsThePeriod : Prop :=
  ∀ (s : State) (r : Run) (h : Handover), s.phase = .running → s.Settled → s.cen[r].handover = some h →
    h.final = false →
    ∃ (t : State) (c : ComputedPeriod), exec (.periodComputation r) s = .next t ∧ t.cen[r].computed = some c
      ∧ t.alarm (.run r .highRate)
          = (if s.params.meter[r].maxRate < c.record.q then s.raiseAlarm (.run r .highRate)
             else s.clearAlarm (.run r .highRate)).alarm (.run r .highRate)
      ∧ ∀ n : Nat, ∃ u : State,
          exec (.periodComputation r)
            { s with params := { s.params with
                meter := s.params.meter.set r { s.params.meter[r] with maxRate := n } } } = .next u
          ∧ u.cen = t.cen ∧ u.alarmRaised (.run r .highRate) = decide (n < c.record.q)

/-- R71: between two neighbouring points of a curve the factor lies between their factors, at a point's own rate it is
that point's factor, and outside the points it is the nearest end's. -/
def Obligations.CurveFactorLiesBetweenItsPoints : Prop :=
  ∀ (c : Curve) (p₁ p₂ : CurvePoint) (before after : Curve), ratesRise c = true →
    c = before ++ p₁ :: p₂ :: after →
      meterFactor c p₁.rate = p₁.mf ∧ meterFactor c p₂.rate = p₂.mf
      ∧ (∀ q : Nat, p₁.rate ≤ q → q ≤ p₂.rate →
          min p₁.mf p₂.mf ≤ meterFactor c q ∧ meterFactor c q ≤ max p₁.mf p₂.mf)
      ∧ (∀ q : Nat, before = [] → q ≤ p₁.rate → meterFactor c q = p₁.mf)
      ∧ (∀ q : Nat, after = [] → p₂.rate ≤ q → meterFactor c q = p₂.mf)

/-! ### Chapter 5: crediting, stops and starts -/

/-- R6, R81, R84, R89, R90, R93, R94, R151: the crediting of a computed period, in one event. A record with a new
number (O30: the run's next) makes one retained update: the other bank takes the whole content with the next
generation number, and the bank that was current stays. The increments go once to the run, once to the station and
once to the target; the remainders and the sequence number become the run's; the record becomes its latest. In the
batch the run's contribution takes increments and sums, opened at the run's cumulative figures before the crediting if
it is new, and closed at those after it. UNBATCHED volume above 0 raises FLOW_NO_BATCH. The flow state is decided in
this event with the cutoff as it stands in it (read from R6 by inference, log entry 12). A prove of the run fails with
PRODUCT_CHANGE where a full period has another slot than the recorded one, else with FLOW_STOPPED where the run stops
flowing; otherwise it stands. R112, R113: a closing period takes the run out of the owing runs of the batch credited,
and a final partial period out of those of every ENDING batch. A batch not ready to close stays held (the ACTIVE batch
with a target: O45). R158 to R160: with the enable ON the accumulator takes GSVinc, and each grab volume that it then
holds makes one grab due, which joins the queue, or is missed where the queue holds eight or the sampler is HALTED; in
READY the head is then served (R161 to R164). With the enable OFF nothing accumulates, and SAMPLING_OFF joins the
batch's flags where GSVinc is above 0. That a record with GSVinc 0 makes due what the accumulator holds after a commit
that lowered the grab volume is the model's choice (log entry 15). -/
def Obligations.CreditingAddsEverythingOnce : Prop :=
  ∀ (s : State) (r : Run) (c : ComputedPeriod), s.phase = .running → s.BatchIdsDistinct →
    s.cen[r].computed = some c →
    ∃ t : State, exec (.periodCrediting r) s = .next t ∧ t.Settled
      ∧ (s.Settled → c.record.seq ≠ s.ret.periodSeq[r] →
          t.current ≠ s.current ∧ t.currentBank = ⟨t.ret, s.currentBank.generation + 1, true⟩
            ∧ (s.current = .a → t.bankA = s.bankA) ∧ (s.current = .b → t.bankB = s.bankB))
      ∧ t.ret.runTotals = s.ret.runTotals.set r (s.ret.runTotals[r].add c.record.quantities)
      ∧ t.ret.station = s.ret.station.add c.record.quantities
      ∧ t.ret.unbatched
          = (if c.record.target = .unbatched then s.ret.unbatched.add c.record.quantities else s.ret.unbatched)
      ∧ t.ret.pulseCounts = s.ret.pulseCounts.set r (s.ret.pulseCounts[r].add c.record)
      ∧ t.ret.rem = s.ret.rem.set r c.rem ∧ t.ret.periodSeq = s.ret.periodSeq.set r c.record.seq
      ∧ t.cen = s.cen.set r { s.cen[r] with computed := none, latest := some c.record }
      ∧ (∀ (id : Nat) (b b' : Batch), c.record.target = .batch id → s.heldBatch? id = some b →
          t.heldBatch? id = some b' →
          b'.totals = b.totals.add c.record.quantities ∧ b'.sums = b.sums.add c.record
            ∧ b'.sumSW = b.sumSW + c.record.sw.value * c.record.iv
            ∧ b'.sumRho = b.sumRho + c.record.rho.value * c.record.iv
            ∧ b'.record = b.record ∧ b'.flags.record = b.flags.record.union c.record.flags
            ∧ (∃ x ∈ b'.contributions, x.run = r ∧ x.closeIV = t.ret.runTotals[r].iv.total
              ∧ x.closeGSV = t.ret.runTotals[r].gsv.total)
            ∧ (∀ x : Contribution, x.run ≠ r → (x ∈ b'.contributions ↔ x ∈ b.contributions))
            ∧ (b.contributions.Pairwise (fun x y => x.run < y.run) → ∀ x ∈ b'.contributions, x.run = r →
              ((∀ y ∈ b.contributions, y.run ≠ r) →
                x.openIV = s.ret.runTotals[r].iv.total ∧ x.openGSV = s.ret.runTotals[r].gsv.total
                  ∧ x.totals = c.record.quantities ∧ x.sums = Sums.zero.add c.record)
              ∧ ∀ y ∈ b.contributions, y.run = r →
                x.openIV = y.openIV ∧ x.openGSV = y.openGSV ∧ x.totals = y.totals.add c.record.quantities
                  ∧ x.sums = y.sums.add c.record))
      ∧ (∀ b : Batch, s.ret.active = some b → (c.record.target ≠ .batch b.record.id ∨ b.record.target = none) →
          t.ret.endPending = s.ret.endPending ∧ ∃ x : Batch, t.ret.active = some x ∧ x.record = b.record)
      ∧ (s.ret.active = none → t.ret.active = none)
      ∧ (∀ b ∈ s.ret.ending,
          ((∃ q : Run, b.owing[q] = true
              ∧ (q = r → c.record.final = false ∧ ¬ (c.closing = true ∧ c.record.target = .batch b.record.id)))
            ∨ t.queuedGrabs b.record.id ≠ 0) →
          ∃ x ∈ t.ret.ending, x.record = b.record)
      ∧ (c.record.target = .unbatched → 0 < c.record.iv →
          t.alarm (.station .flowNoBatch) = (s.raiseAlarm (.station .flowNoBatch)).alarm (.station .flowNoBatch)
            ∧ t.alarmRaised (.station .flowNoBatch) = true)
      ∧ ((c.record.target ≠ .unbatched ∨ c.record.iv = 0) →
          t.alarm (.station .flowNoBatch) = s.alarm (.station .flowNoBatch))
      ∧ (∀ (id : Nat) (b b' : Batch), c.record.target ≠ .batch id → s.heldBatch? id = some b →
          t.heldBatch? id = some b' → b'.totals = b.totals ∧ b'.sums = b.sums ∧ b'.contributions = b.contributions)
      ∧ (c.record.final = true → t.pulses[r].flow = s.pulses[r].flow)
      ∧ (c.record.final = false → t.pulses[r].flow
          = some (if s.params.meter[r].cutoff ≤ c.record.q then .flowing else .noFlow))
      ∧ ((s.proves r = false ∨ c.record.final = true
            ∨ s.psq.slot = some c.record.slot ∧ s.params.meter[r].cutoff ≤ c.record.q) →
          t.psq = s.psq ∧ t.ret.marker = s.ret.marker ∧ t.ret.lastProve = s.ret.lastProve)
      ∧ (∀ cause : ProveCause, s.proves r = true → c.record.final = false →
          (s.psq.slot ≠ some c.record.slot ∧ cause = .productChange
            ∨ s.psq.slot = some c.record.slot ∧ c.record.q < s.params.meter[r].cutoff ∧ cause = .flowStopped) →
          t.psq.state = .idle ∧ t.psq.route = noRuns ∧ t.psq.dirReverse = s.psq.dirReverse
            ∧ t.alarmRaised (.station .proveFailed) = true
            ∧ t.pulses[r].capture = none ∧ t.pulses[r].watch = none
            ∧ ∀ m : ProveMarker, s.ret.marker = some m → t.flags.proveFinished = true ∧ t.ret.marker = none
                ∧ t.ret.lastProve = s.ret.lastProve.set m.run
                    (some ⟨s.clock, m.startTime, m.slot, s.psq.attempts, .failed cause⟩))
      ∧ (∀ x ∈ s.ret.ending, ∀ x' ∈ t.ret.ending, x'.record.id = x.record.id →
          x'.owing
            = (if c.record.final = true ∨ c.closing = true ∧ c.record.target = .batch x.record.id
              then x.owing.set r false else x.owing))
      ∧ (((∀ id : Nat, c.record.target = .batch id → s.heldBatch? id = none) ∨ s.ret.enable = .off) →
          t.smc = s.smc
            ∧ ∀ (id : Nat) (x x' : Batch), s.heldBatch? id = some x → t.heldBatch? id = some x' →
                x'.sampling = x.sampling)
      ∧ (∀ (id : Nat) (x x' : Batch), s.heldBatch? id = some x → t.heldBatch? id = some x' →
          x'.flags.samplingOff
            = (x.flags.samplingOff
              || decide (s.ret.enable = .off ∧ c.record.target = .batch id ∧ 0 < c.record.gsv)))
      ∧ (∀ (id : Nat) (b : Batch) (volume n k : Nat) (queue : List OwedGrab) (after : Nat → Sampling → Sampling),
          c.record.target = .batch id → s.heldBatch? id = some b → s.ret.enable = .on →
          volume = s.params.station.grabVolume * 1000 → n = (b.sampling.accumulator + c.record.gsv) / volume →
          k = (if s.smc.state = .halted then 0 else min n (8 - s.smc.queue.length)) →
          queue = s.smc.queue ++ List.replicate k ⟨id, b.can⟩ →
          after = (fun j x => if j = id
            then ⟨(x.accumulator + c.record.gsv) % volume, x.due + n, x.taken, x.missed + (n - k)⟩ else x) →
          (k < n → s.alarmRaised (.station .samplerMissed) = false →
            (t.alarm (.station .samplerMissed)).state = .returnedUnack)
          ∧ ((s.smc.state ≠ .ready ∨ queue = []) → t.smc = { s.smc with queue := queue }
              ∧ t.ret.selectedCan = s.ret.selectedCan
              ∧ ∀ (j : Nat) (x x' : Batch), s.heldBatch? j = some x → t.heldBatch? j = some x' →
                  x'.sampling = after j x.sampling)
          ∧ ∀ (e : OwedGrab) (rest : List OwedGrab), s.smc.state = .ready → queue = e :: rest →
            (e.can ≠ s.ret.selectedCan →
              t.smc = { s.smc with
                state := .swapping, queue := queue, canSelect := decide (e.can = .can2)
                swapTimer := some (s.now + 50000000) }
                ∧ t.ret.selectedCan = e.can
                ∧ ∀ (j : Nat) (x x' : Batch), s.heldBatch? j = some x → t.heldBatch? j = some x' →
                    x'.sampling = after j x.sampling)
            ∧ (e.can = s.ret.selectedCan → s.canIsFull e.can = true →
              t.smc = { s.smc with state := .halted, queue := [], haltedCan := some e.can }
                ∧ t.alarmRaised (.station .samplerHalted) = true
                ∧ ∀ (j : Nat) (x x' : Batch), s.heldBatch? j = some x → t.heldBatch? j = some x' →
                    x'.sampling = { after j x.sampling with
                      missed := (after j x.sampling).missed + queue.countP (fun g => decide (g.batchId = j)) })
            ∧ (e.can = s.ret.selectedCan → s.canIsFull e.can = false →
              t.smc = { s.smc with
                state := .grabbing, queue := rest, grab := true
                widthTimer := some (s.now + s.params.station.grabWidth * 10000)
                intervalTimer := some (s.now + s.params.station.grabInterval * 10000) }
                ∧ t.canCount e.can = s.canCount e.can + 1
                ∧ ∀ (j : Nat) (x x' : Batch), s.heldBatch? j = some x → t.heldBatch? j = some x' →
                    x'.sampling = { after j x.sampling with
                      taken := (after j x.sampling).taken + (if e.batchId = j then 1 else 0) }))
      ∧ t = { s with
          ret := t.ret, bankA := t.bankA, bankB := t.bankB, current := t.current, pulses := t.pulses, cen := t.cen
          psq := t.psq, smc := t.smc, archive := t.archive, write := t.write, erase := t.erase, alarms := t.alarms
          flags := t.flags }

/-- R101: RESTART is accepted with OK and waits for its reply to be sent, but RESTART COLD under a closed seal is
refused; when the last byte of the reply has left TXD the module stops, a cold restart with both banks invalid, a warm
one with the clock written as the last-seen time, and the start begins. -/
def Obligations.RestartStopsAfterItsReply : Prop :=
  ∀ s : State,
    (s.Ready →
      (∀ kind : StartKind, (kind = .warm ∨ s.seal = .opened) →
        exec (.restart kind) s
          = .next { s with link := { s.link with restartMark := some kind }, reply := some ⟨.ok, []⟩ })
      ∧ (s.seal = .closed → exec (.restart .cold) s = .next { s with reply := some ⟨.isSealed, []⟩ }))
    ∧ (s.phase = .running → s.Settled →
      (s.link.restartMark = some .cold →
        exec .transmissionComplete s
          = .next { s with
              link := { s.link with restartMark := none, sending := none }
              bankA := { s.bankA with intact := false }
              bankB := { s.bankB with intact := false }
              phase := .starting .cold .request })
      ∧ (s.link.restartMark = some .warm →
        ∃ t : State, exec .transmissionComplete s = .next t ∧ t.Settled
          ∧ t.ret = { s.ret with lastSeen := s.clock } ∧ t.current ≠ s.current ∧ t.currentBank.intact = true
          ∧ t = { s with
              link := { s.link with restartMark := none, sending := none }
              ret := t.ret, bankA := t.bankA, bankB := t.bankB, current := t.current
              phase := .starting .warm .request }))

/-- Section 5.6, R94, R184: a power failure, or RESET_N becoming active, stops a module that has not stopped. Of a
half-done event it leaves what the chapters name: the bank being written invalid, the audit position struck, the
number mark ahead of the queue, or a VALID slot whose ticket is still pending; retained content, the current bank and
parameter memory are as they were. Which of these a stop strikes is its operand (log entry 7). R97: the decision of a
start on power-up or on the release of RESET_N. Of two valid banks the one with the later generation becomes current,
else the valid one, and the start is warm; with none, as after a battery failure, it is cold. While the other of power
and RESET_N holds the module, no start begins (log entry 28). -/
def Obligations.StopsAndStarts : Prop :=
  (∀ (s : State) (strike : Strike),
      (s.powered = true → s.phase ≠ .stopped →
        exec (.powerFail strike) s = .next { s.struck strike with phase := .stopped, powered := false })
      ∧ (s.powered = false → exec (.powerFail strike) s = .next s)
      ∧ (s.resetActive = false → s.phase ≠ .stopped →
        exec (.resetNAssert strike) s = .next { s.struck strike with phase := .stopped, resetActive := true })
      ∧ (s.resetActive = true → exec (.resetNAssert strike) s = .next s)
      ∧ (s.phase = .stopped →
        (s.powered = true → exec (.powerFail strike) s = .next { s with powered := false })
        ∧ (s.resetActive = false → exec (.resetNAssert strike) s = .next { s with resetActive := true }))
      ∧ s.struck .nothing = s
      ∧ s.struck .retainedUpdate = { s with
          bankA := (if s.current = .a then s.bankA else { s.bankA with intact := false })
          bankB := (if s.current = .b then s.bankB else { s.bankB with intact := false }) }
      ∧ (∃ ring : AuditRing, s.struck .auditAppend = { s with audit := ring }
          ∧ ring.torn = some (s.auditNext.toNat % 256)
          ∧ ∀ e : AuditEntry,
              e ∈ ring.entries ↔ e ∈ s.audit.entries ∧ e.seq.toNat % 256 ≠ s.auditNext.toNat % 256)
      ∧ (s.ret.ticketCounter ≠ 0 → s.struck .closeAfterMark
          = { s with archive := { s.archive with numberMark := s.ret.ticketCounter } })
      ∧ (∀ (w : WriteInFlight) (p : PendingTicket) (ps : List PendingTicket), s.write = some w →
          s.ret.pendingTickets = p :: ps →
          ∃ a : Archive, s.struck .writeAfterValid = { s with archive := a }
            ∧ a.slot (w.sector, w.slot) = .valid p.ticket
            ∧ (∀ ij : Sector × Sector, ij ≠ (w.sector, w.slot) → a.slot ij = s.archive.slot ij)
            ∧ ∀ i : Sector, a.sectors[i].state = s.archive.sectors[i].state))
    ∧ (∀ s : State,
      (s.powered = false → s.resetActive = false →
        (∀ id : BankId, s.startsFrom id →
          exec (.powerUp true) s = .next { s with
            powered := true, current := id, ret := s.bankContent id, phase := .starting .warm .reset })
        ∧ (s.bankA.intact = false → s.bankB.intact = false →
          exec (.powerUp true) s = .next { s with powered := true, phase := .starting .cold .retainedInvalid })
        ∧ exec (.powerUp false) s = .next { s with
            powered := true
            bankA := { s.bankA with intact := false }
            bankB := { s.bankB with intact := false }
            phase := .starting .cold .retainedInvalid })
      ∧ (s.powered = false → s.resetActive = true → exec (.powerUp true) s = .next { s with powered := true })
      ∧ (s.powered = true → ∀ held : Bool, exec (.powerUp held) s = .next s)
      ∧ (s.powered = true → s.resetActive = true →
        (∀ id : BankId, s.startsFrom id →
          exec .resetNRelease s = .next { s with
            resetActive := false, current := id, ret := s.bankContent id, phase := .starting .warm .reset })
        ∧ (s.bankA.intact = false → s.bankB.intact = false →
          exec .resetNRelease s = .next { s with resetActive := false, phase := .starting .cold .retainedInvalid }))
      ∧ (s.powered = false → s.resetActive = true → exec .resetNRelease s = .next { s with resetActive := false })
      ∧ (s.resetActive = false → exec .resetNRelease s = .next s))

/-- R23, R99, R100, R126, R156, R170, R187, R201, R202, R215: what the completion of a cold start leaves. Retained
memory is fresh in both banks, with the ticket counter one past the highest number the archive knows; parameter memory
keeps its sections and locks; all volatile state is as the chapters give it. That the fresh content is written at the
completion, into both banks at generation 0 with bank A current, is the model's choice (log entry 28): R99 gives
generation 0 to the current bank. -/
def Obligations.ColdStartLeavesAFreshModule : Prop :=
  ∀ (s : State) (cause : StartCause), s.phase = .starting .cold cause →
    ∃ (t : State) (n : Nat), exec .startCompletion s = .next t
      ∧ n = nextTicketNumber s.archive.recover.highestNumber
      ∧ t.phase = .running ∧ t.ret = .cold n ∧ t.bankA = ⟨.cold n, 0, true⟩ ∧ t.bankB = ⟨.cold n, 0, true⟩
      ∧ t.clock = 0 ∧ t.params = s.params ∧ t.locks = s.locks
      ∧ t.seal = (if s.sealInput.raw then .closed else .opened) ∧ t.recordedSeal = t.seal
      ∧ t.staging = none ∧ t.snapshot = none ∧ t.snapshotSeq = 0 ∧ t.values = Vector.replicate 12 .reset
      ∧ t.cen = Vector.replicate 4 .reset
      ∧ (∀ r : Run, t.pulses[r].flow = none ∧ t.pulses[r].timerFrom = none
          ∧ t.pulses[r].chA.filtered = s.pulses[r].chA.raw ∧ t.pulses[r].chB.filtered = s.pulses[r].chB.raw)
      ∧ t.psq.state = .idle ∧ t.psq.trips = [] ∧ t.psq.route = noRuns ∧ t.psq.dirReverse = false
      ∧ t.smc.state = .off ∧ t.smc.queue = [] ∧ t.smc.grab = false ∧ t.write = none
      ∧ t.archive.numberMark = s.archive.numberMark
      ∧ t.flags = { EventFlags.none with restarted := true, alarmChanged := true }
      ∧ (t.alarm (.station .retainedLost)).state = .returnedUnack
      ∧ (t.alarm (.station .timeUnset)).state = .activeUnack
      ∧ (∀ v : ValueId, (t.alarm (qualityAlarm v)).state = .activeUnack)
      ∧ t.alarmRaised (.station .sealOpen) = decide (t.seal = .opened)
      ∧ t.audit = (if s.recordedSeal = t.seal
          then s.audit.scan.write ⟨s.audit.scan.nextSequence, 0, .coldStart cause⟩
          else (s.audit.scan.write ⟨s.audit.scan.nextSequence, 0, .coldStart cause⟩).write
            ⟨s.audit.scan.nextSequence + 1, 0, .sealChange s.recordedSeal t.seal true⟩)
      ∧ t.link.framer = .hunt ∧ t.link.sending = none ∧ t.link.waiting = none ∧ t.link.restartMark = none
      ∧ t.powered = s.powered ∧ t.resetActive = s.resetActive ∧ t.pending = s.pending

/-- R22, R43, R87, R98, R125, R128, R155, R169, R200: what the completion of a warm start keeps and what it loses.
R185, R186: a slot found WRITING is DEFECTIVE and every other slot is as it was, but for the one in which a write then
starts; an erase found in progress has its 1,500 ms again, and runs unless that write has suspended it; the pending
tickets that the archive holds leave the queue, the others keep their order, with the tickets of the batches that
close in the start behind them; the ticket counter and the number mark are as they were where none closes;
ARCHIVE_FULL is raised where the head waits for a slot. Where no batch closes, a write is tried and reclaim tested
(O55) in the archive as examined, with no write in flight and the erase found as restarted. R169: the sampler's queue
is empty and GRAB inactive, CAN_SELECT stands at the selected can, and the state is OFF, READY, or SWAPPING with 5 s
where can 2 is selected; SAMPLER_MISSED is raised and cleared exactly where the recovery counts a grab as missed. -/
def Obligations.WarmStartKeepsRetainedMemory : Prop :=
  ∀ (s : State) (cause : StartCause), s.phase = .starting .warm cause → s.BatchIdsDistinct →
    ∃ t : State, exec .startCompletion s = .next t ∧ t.phase = .running ∧ t.Settled
      ∧ t.ret.service = s.ret.service ∧ t.ret.rem = s.ret.rem ∧ t.ret.periodSeq = s.ret.periodSeq
      ∧ t.ret.runTotals = s.ret.runTotals ∧ t.ret.pulseCounts = s.ret.pulseCounts ∧ t.ret.station = s.ret.station
      ∧ t.ret.unbatched = s.ret.unbatched ∧ t.ret.queue = s.ret.queue ∧ t.ret.endPending = s.ret.endPending
      ∧ t.ret.lastSlot = s.ret.lastSlot ∧ t.ret.slowdown = s.ret.slowdown ∧ t.ret.stop = s.ret.stop
      ∧ t.ret.enable = s.ret.enable ∧ t.ret.selectedCan = s.ret.selectedCan ∧ t.ret.canCount1 = s.ret.canCount1
      ∧ t.ret.canCount2 = s.ret.canCount2 ∧ t.ret.clockSet = s.ret.clockSet ∧ t.ret.lastSeen = s.ret.lastSeen
      ∧ t.ret.active = s.ret.active.map Batch.recover ∧ (∀ b ∈ t.ret.ending, b.owing = noRuns)
      ∧ t.clock = s.clock ∧ t.params = s.params ∧ t.locks = s.locks
      ∧ t.ret.marker = none
      ∧ (∀ m : ProveMarker, s.ret.marker = some m →
          t.flags.proveFinished = true
            ∧ t.ret.lastProve = s.ret.lastProve.set m.run (some
                ⟨s.clock, m.startTime, m.slot, m.attempts,
                  (match m.result with
                   | some res => .discarded res
                   | none => .aborted true)⟩))
      ∧ (s.ret.marker = none → t.ret.lastProve = s.ret.lastProve)
      ∧ (∀ r : Run, s.ret.service[r] = .inService →
          t.pulses[r].flow = some .noFlow ∧ t.pulses[r].timerFrom = some s.now ∧ t.pulses[r].counts = .zero
            ∧ t.pulses[r].history = [] ∧ t.pulses[r].goodIndex = 0
            ∧ t.pulses[r].reference = ⟨s.pulses[r].chA.raw, s.pulses[r].chB.raw⟩)
      ∧ (∀ r : Run, s.ret.service[r] = .outOfService → t.pulses[r].flow = none ∧ t.pulses[r].timerFrom = none)
      ∧ t.snapshot = none ∧ t.staging = none ∧ t.values = Vector.replicate 12 .reset
      ∧ t.psq.state = .idle ∧ t.psq.route = noRuns ∧ t.psq.dirReverse = false
      ∧ t.flags.restarted = true ∧ (t.alarm (.station .proveFailed)).state = .normal
      ∧ (t.alarm (.station .flowNoBatch)).state = .normal
      ∧ (∀ ij : Sector × Sector, (∀ w : WriteInFlight, t.write = some w → ij ≠ (w.sector, w.slot)) →
          t.archive.slot ij
            = (if s.archive.slot ij = .writing then SlotState.defective else s.archive.slot ij))
      ∧ (∀ w : WriteInFlight, t.write = some w → t.archive.slot (w.sector, w.slot) = .writing
          ∧ (s.archive.ErasedAreEmpty → s.archive.slot (w.sector, w.slot) = .empty))
      ∧ (∀ i : Sector, (s.archive.sectors[i].state = .erasing ∨ s.archive.sectors[i].state = .eraseSuspended) →
          (∀ j : Sector, j < i →
            s.archive.sectors[j].state ≠ .erasing ∧ s.archive.sectors[j].state ≠ .eraseSuspended) →
          t.erase = some ⟨i, 15000000, if t.write.isSome then none else some s.now⟩
            ∧ t.archive.sectors[i].state = (if t.write.isSome then .eraseSuspended else .erasing))
      ∧ t.smc.state = (if s.ret.enable = .off then .off else if s.ret.selectedCan = .can1 then .ready else .swapping)
      ∧ t.smc.swapTimer = (if t.smc.state = .swapping then some (s.now + 50000000) else none)
      ∧ t.smc.queue = [] ∧ t.smc.grab = false ∧ t.smc.canSelect = decide (s.ret.selectedCan = .can2)
      ∧ t.smc.haltedCan = none ∧ t.smc.widthTimer = none ∧ t.smc.intervalTimer = none
      ∧ t.smc.full1 = ⟨s.smc.full1.raw, s.smc.full1.raw, none⟩ ∧ t.smc.full2 = ⟨s.smc.full2.raw, s.smc.full2.raw, none⟩
      ∧ (t.alarm (.station .samplerMissed)).state
          = (if s.liveBatches.any (fun b => decide (b.sampling.taken + b.sampling.missed < b.sampling.due))
            then .returnedUnack else .normal)
      ∧ (t.alarm (.station .samplerHalted)).state = .normal
      ∧ (∃ closed : List Ticket,
          (closed = [] → ∃ u : State, t = u.tryStartWrite.testReclaim.settle ∧ u.now = s.now ∧ u.write = none
            ∧ u.ret.pendingTickets = (s.ret.pendingTickets.filter
                (fun p => (s.archive.findTicket? p.ticket.number).isNone)).map (fun p => ⟨p.ticket, false⟩)
            ∧ u.archive = { s.archive with sectors := u.archive.sectors }
            ∧ (∀ i : Sector, u.archive.sectors[i].openNumber = s.archive.sectors[i].openNumber
              ∧ u.archive.sectors[i].state
                  = (if s.archive.sectors[i].state = .eraseSuspended then .erasing else s.archive.sectors[i].state))
            ∧ (∀ ij : Sector × Sector, u.archive.slot ij
                = (if s.archive.slot ij = .writing then .defective else s.archive.slot ij))
            ∧ (∀ i : Sector, u.archive.sectors[i].state = .erasing →
                (∀ j : Sector, j < i → u.archive.sectors[j].state ≠ .erasing) →
                u.erase = some ⟨i, 15000000, some s.now⟩)
            ∧ ((∀ i : Sector, u.archive.sectors[i].state ≠ .erasing) → u.erase = none))
          ∧ t.ret.pendingTickets.map PendingTicket.ticket
              = (s.ret.pendingTickets.filter
                  (fun p => (s.archive.findTicket? p.ticket.number).isNone)).map PendingTicket.ticket ++ closed
            ∧ closed.length + t.ret.ending.length = s.ret.ending.length
            ∧ (closed = [] → t.ret.ticketCounter = s.ret.ticketCounter
                ∧ t.archive.numberMark = s.archive.numberMark))
      ∧ t.WritesFromTheHead
      ∧ t.alarmRaised (.station .archiveFull) = (!t.ret.pendingTickets.isEmpty && t.write.isNone)
      ∧ t.audit = (if s.recordedSeal = t.seal
          then s.audit.scan.write ⟨s.audit.scan.nextSequence, s.clock, .warmStart s.ret.lastSeen s.clock cause⟩
          else (s.audit.scan.write
              ⟨s.audit.scan.nextSequence, s.clock, .warmStart s.ret.lastSeen s.clock cause⟩).write
            ⟨s.audit.scan.nextSequence + 1, s.clock, .sealChange s.recordedSeal t.seal true⟩)

/-! ### Chapter 6: batches and tickets -/

/-- R105: the outcomes of BATCH QUEUE ADD in the order of its checks; an accepted record joins the tail of the queue,
and its position is the reply's field, which takes two bytes by inference from R208 (log entry 22). -/
def Obligations.QueueAddJoinsTheTail : Prop :=
  ∀ (s : State) (rec : BatchRecord), s.Ready →
    (batchFieldsValid rec = false → exec (.batchQueueAdd rec) s = .next { s with reply := some ⟨.badParam, []⟩ })
    ∧ (batchFieldsValid rec = true →
      (s.holdsBatchId rec.id = true → exec (.batchQueueAdd rec) s = .next { s with reply := some ⟨.duplicate, []⟩ })
      ∧ (s.holdsBatchId rec.id = false →
        (8 ≤ s.ret.queue.length → exec (.batchQueueAdd rec) s = .next { s with reply := some ⟨.full, []⟩ })
        ∧ (s.ret.queue.length < 8 →
          (mapSlot? s.params.productMap rec.code = none →
            exec (.batchQueueAdd rec) s = .next { s with reply := some ⟨.notFound, []⟩ })
          ∧ (mapSlot? s.params.productMap rec.code ≠ none →
            exec (.batchQueueAdd rec) s
              = .next { { s with ret := { s.ret with queue := s.ret.queue ++ [rec] } }.retainedUpdate with
                  reply := some ⟨.ok, [.u16 (s.ret.queue.length + 1)]⟩ }))))

/-- R106: the outcomes of BATCH QUEUE REMOVE. -/
def Obligations.QueueRemoveTakesOneBatchOut : Prop :=
  ∀ (s : State) (id : Nat), s.Ready →
    ((id < 1 ∨ 999999 < id) → exec (.batchQueueRemove id) s = .next { s with reply := some ⟨.badParam, []⟩ })
    ∧ (1 ≤ id → id ≤ 999999 →
      ((∀ b ∈ s.ret.queue, b.id ≠ id) →
        exec (.batchQueueRemove id) s = .next { s with reply := some ⟨.notFound, []⟩ })
      ∧ ∀ (b : BatchRecord) (before after : List BatchRecord), s.ret.queue = before ++ b :: after → b.id = id →
        (∀ x ∈ before ++ after, x.id ≠ id) →
        exec (.batchQueueRemove id) s
          = .next { { s with ret := { s.ret with queue := before ++ after } }.retainedUpdate with
              reply := some ⟨.ok, []⟩ })

/-- R107: BATCH START activates the head of the queue with the slot that its code maps to and the can that it names,
or the selected one; it is refused while a batch is ACTIVE, and while the queue is empty or the head's code maps to
NONE. -/
def Obligations.BatchStartActivatesTheHead : Prop :=
  ∀ s : State, s.Ready →
    (s.ret.active ≠ none → exec .batchStart s = .next { s with reply := some ⟨.notAllowed, []⟩ })
    ∧ (s.ret.active = none →
      (s.ret.queue = [] → exec .batchStart s = .next { s with reply := some ⟨.notFound, []⟩ })
      ∧ ∀ (rec : BatchRecord) (rest : List BatchRecord), s.ret.queue = rec :: rest →
        (mapSlot? s.params.productMap rec.code = none →
          exec .batchStart s = .next { s with reply := some ⟨.notFound, []⟩ })
        ∧ ∀ (slot : Slot) (can : Can), mapSlot? s.params.productMap rec.code = some slot →
          can = (if rec.can = some 1 then .can1 else if rec.can = some 2 then .can2 else s.ret.selectedCan) →
          exec .batchStart s
            = .next { (({ s with ret := { s.ret with
                queue := rest
                active := some (newBatch rec slot can s.clock)
                endPending := false
                lastSlot := slot
                slowdown := false
                stop := false } }.clearAlarm (.station .flowNoBatch)).settle) with
                reply := some ⟨.ok, [.u32 rec.id, .u8 slot.val, .u8 (canNumber can)]⟩ })

/-- R108, R109, R111: the end moment. The ACTIVE batch becomes ENDING with the reason of the request, the station
clock and the in-service runs as its owing runs; BATCH CHANGE also activates the head of the queue in the same event,
and is refused whole. Here no ENDING batch, the new one included, is ready to close. That the reply carries the owing
runs as one run set is read from R208 by inference (log entry 22). -/
def Obligations.BatchEndAndChangeMakeTheEndMoment : Prop :=
  ∀ s : State, s.Ready →
    (s.ret.active = none →
      exec .batchEnd s = .next { s with reply := some ⟨.notAllowed, []⟩ }
      ∧ exec .batchChange s = .next { s with reply := some ⟨.notAllowed, []⟩ })
    ∧ ∀ b : Batch, s.ret.active = some b →
      (2 ≤ s.ret.ending.length →
        exec .batchEnd s = .next { s with reply := some ⟨.full, []⟩ }
        ∧ exec .batchChange s = .next { s with reply := some ⟨.full, []⟩ })
      ∧ (s.ret.ending.length < 2 →
        (s.startable? = none → exec .batchChange s = .next { s with reply := some ⟨.notFound, []⟩ })
        ∧ ((∀ x ∈ s.ret.ending, s.readyToClose x = false) →
            ((∃ r : Run, s.ret.service[r] = .inService) ∨ s.queuedGrabs b.record.id ≠ 0) →
          exec .batchEnd s
            = .next { { s with ret := { s.ret with
                active := none
                endPending := false
                ending := s.ret.ending ++ [{ b with
                  endTime := some s.clock, endReason := some .request
                  owing := s.runsInService }] } }.retainedUpdate with
                reply := some ⟨.ok, [.u32 b.record.id, .u8 (bitsValue s.runsInService.toList)]⟩ }
          ∧ ∀ (rec : BatchRecord) (slot : Slot), s.startable? = some (rec, slot) →
            exec .batchChange s
              = .next { (({ s with ret := { s.ret with
                  queue := s.ret.queue.tail
                  active := some (newBatch rec slot (s.resolveCan rec) s.clock)
                  endPending := false
                  lastSlot := slot
                  slowdown := false
                  stop := false
                  ending := s.ret.ending ++ [{ b with
                    endTime := some s.clock, endReason := some .change, owing := s.runsInService }] }
                  }.clearAlarm (.station .flowNoBatch)).settle) with
                  reply := some ⟨.ok, [.u32 b.record.id, .u8 (bitsValue s.runsInService.toList), .u32 rec.id,
                    .u8 slot.val, .u8 (canNumber (s.resolveCan rec))]⟩ }))

/-- R108, R119, R121, R172: a batch that ends with no run in service and no owed grab closes in the event of its end,
when the pending queue has a place: its ticket takes the ticket counter's number, which becomes the number mark, joins
the pending queue, and BATCH_CLOSED is set. Without a place it stays ENDING with ARCHIVE_WAIT, and without a ticket
number (R121) it stays ENDING. R112, R119: an ENDING batch that one run alone owes closes in the same way in the crediting
of that run's closing period, that period included, where no grab names it and the crediting makes none due. -/
def Obligations.AReadyBatchClosesAtItsEnd : Prop :=
  (∀ (s : State) (b : Batch), s.Ready → s.ret.active = some b → s.ret.ending = [] →
      (∀ r : Run, s.ret.service[r] = .outOfService) → s.queuedGrabs b.record.id = 0 →
      (s.ret.pendingTickets.length < 4 → s.ret.ticketCounter ≠ 0 →
        ∃ (t : State) (ticket : Ticket), exec .batchEnd s = .next t ∧ t.Settled
          ∧ t.ret.active = none ∧ t.ret.ending = [] ∧ t.flags.batchClosed = true
          ∧ t.ret.pendingTickets.map PendingTicket.ticket = s.ret.pendingTickets.map PendingTicket.ticket ++ [ticket]
          ∧ ticket.number = s.ret.ticketCounter ∧ t.archive.numberMark = s.ret.ticketCounter
          ∧ t.ret.ticketCounter = (if s.ret.ticketCounter = 4294967295 then 0 else s.ret.ticketCounter + 1)
          ∧ ticket.batchId = b.record.id ∧ ticket.slot = b.slot ∧ ticket.startTime = b.startTime
          ∧ ticket.endTime = s.clock ∧ ticket.endReason = .request
          ∧ ticket.name = s.params.products[b.slot].name
          ∧ ticket.iv = b.totals.iv / 1000 ∧ ticket.gsv = b.totals.gsv / 1000 ∧ ticket.nsv = b.totals.nsv / 1000
          ∧ ticket.water = (b.totals.gsv - b.totals.nsv) / 1000 ∧ ticket.due = b.sampling.due
          ∧ (∀ e ∈ ticket.entries, ∃ c ∈ b.contributions, e.run = c.run ∧ 0 < c.totals.iv)
          ∧ t = { s with
              ret := t.ret, bankA := t.bankA, bankB := t.bankB, current := t.current, archive := t.archive
              write := t.write, erase := t.erase, alarms := t.alarms, flags := t.flags, reply := t.reply })
      ∧ (4 ≤ s.ret.pendingTickets.length →
        ∃ (t : State) (x : Batch), exec .batchEnd s = .next t ∧ t.ret.ending = [x] ∧ x.flags.archiveWait = true
          ∧ x.record = b.record ∧ t.ret.pendingTickets = s.ret.pendingTickets ∧ t.archive = s.archive)
      ∧ (s.ret.pendingTickets.length < 4 → s.ret.ticketCounter = 0 →
        ∃ (t : State) (x : Batch), exec .batchEnd s = .next t ∧ t.ret.ending = [x] ∧ x.record = b.record
          ∧ x.endReason = some .request ∧ t.ret.pendingTickets = s.ret.pendingTickets ∧ t.archive = s.archive))
    ∧ (∀ (s : State) (r : Run) (c : ComputedPeriod) (b : Batch), s.phase = .running → s.BatchIdsDistinct →
      s.cen[r].computed = some c → s.ret.ending = [b] → c.record.target = .batch b.record.id → c.closing = true →
      c.record.final = false → b.owing = noRuns.set r true → s.queuedGrabs b.record.id = 0 →
      (s.ret.enable = .off ∨ b.sampling.accumulator + c.record.gsv < s.params.station.grabVolume * 1000) →
      (s.ret.pendingTickets.length < 4 → s.ret.ticketCounter ≠ 0 →
        ∃ (t : State) (ticket : Ticket), exec (.periodCrediting r) s = .next t ∧ t.Settled
          ∧ t.ret.active.map Batch.record = s.ret.active.map Batch.record ∧ t.ret.ending = []
          ∧ t.flags.batchClosed = true
          ∧ t.ret.pendingTickets.map PendingTicket.ticket = s.ret.pendingTickets.map PendingTicket.ticket ++ [ticket]
          ∧ ticket.number = s.ret.ticketCounter ∧ t.archive.numberMark = s.ret.ticketCounter
          ∧ t.ret.ticketCounter = (if s.ret.ticketCounter = 4294967295 then 0 else s.ret.ticketCounter + 1)
          ∧ ticket.batchId = b.record.id ∧ ticket.slot = b.slot ∧ ticket.startTime = b.startTime
          ∧ (∀ time : Seconds, b.endTime = some time → ticket.endTime = time)
          ∧ (∀ reason : EndReason, b.endReason = some reason → ticket.endReason = reason)
          ∧ ticket.iv = (b.totals.iv + c.record.iv) / 1000 ∧ ticket.gsv = (b.totals.gsv + c.record.gsv) / 1000
          ∧ ticket.nsv = (b.totals.nsv + c.record.nsv) / 1000 ∧ ticket.mass = (b.totals.mass + c.record.mass) / 1000
          ∧ ticket.due = b.sampling.due ∧ ticket.taken = b.sampling.taken ∧ ticket.missed = b.sampling.missed
          ∧ (0 < c.record.iv → ∃ e ∈ ticket.entries, e.run = r
              ∧ e.closeIV = t.ret.runTotals[r].iv.total / 1000))
      ∧ (4 ≤ s.ret.pendingTickets.length →
        ∃ (t : State) (x : Batch), exec (.periodCrediting r) s = .next t ∧ t.ret.ending = [x]
          ∧ x.record = b.record ∧ x.owing = noRuns ∧ x.flags.archiveWait = true
          ∧ t.ret.pendingTickets = s.ret.pendingTickets ∧ t.archive = s.archive))

/-- R115 to R117: a crediting to the ACTIVE batch compares the batch's NSV with the slowdown point and, after it, with
the target. The first time at or above the slowdown point SLOWDOWN is made active and SLOWDOWN_REACHED set. The first
time at or above the target STOP is made active, TARGET_REACHED joins the batch's flags and the event flags, and the
batch ends, as it does at a later crediting that finds its end-pending mark set, without those flags again: with two
ENDING batches it stays ACTIVE with the mark; otherwise it becomes ENDING. R108, R111: it has the reason TARGET, the
station clock as its end time, and as its owing runs the runs in service, less the run whose final partial period is
being credited. R119 to R121: while a run owes it or a grab of it is queued it is the last of the ending list. With
nothing owed it is tested after the older ENDING batch, which closes first if it is ready: it closes in the same
event, with the next ticket number, its ticket at the tail of the pending queue and BATCH_CLOSED set; without a place
in that queue it stays the last of the ending list with ARCHIVE_WAIT, and without a number it stays so without it. -/
def Obligations.TargetTestsFollowTheNetVolume : Prop :=
  ∀ (s : State) (r : Run) (c : ComputedPeriod) (b : Batch) (target nsv point : Nat) (reached : Bool),
    s.phase = .running → s.BatchIdsDistinct → s.cen[r].computed = some c → s.ret.active = some b →
    c.record.target = .batch b.record.id → b.record.target = some target → nsv = b.totals.nsv + c.record.nsv →
    point = (target - b.record.margin.getD 0) * 1000 →
    reached = decide (s.ret.endPending = false ∧ b.flags.targetReached = false ∧ target * 1000 ≤ nsv) →
    ∃ t : State, exec (.periodCrediting r) s = .next t ∧ t.Settled
      ∧ t.ret.slowdown = (s.ret.slowdown || decide (point ≤ nsv))
      ∧ t.flags.slowdownReached = (s.flags.slowdownReached || (!s.ret.slowdown && decide (point ≤ nsv)))
      ∧ t.ret.stop = (s.ret.stop || reached)
      ∧ t.flags.targetReached = (s.flags.targetReached || reached)
      ∧ (s.ret.endPending = false → reached = false → t.ret.endPending = false
          ∧ ∃ x : Batch, t.ret.active = some x ∧ x.record = b.record ∧ x.totals = b.totals.add c.record.quantities
            ∧ x.flags.targetReached = b.flags.targetReached)
      ∧ ((s.ret.endPending = true ∨ reached = true) → 2 ≤ s.ret.ending.length → t.ret.endPending = true
          ∧ ∃ x : Batch, t.ret.active = some x ∧ x.record = b.record ∧ x.totals = b.totals.add c.record.quantities
            ∧ x.flags.targetReached = (b.flags.targetReached || reached))
      ∧ ((s.ret.endPending = true ∨ reached = true) → s.ret.ending.length < 2 →
          t.ret.active = none ∧ t.ret.endPending = false
          ∧ ∀ (owed : RunSet) (stays : Bool → Prop) (closing number : Nat),
            owed = (if c.record.final = true ∨ c.closing = true then s.runsInService.set r false else s.runsInService) →
            stays = (fun waits => ∃ x : Batch, t.ret.ending.getLast? = some x ∧ x.record = b.record ∧ x.slot = b.slot
              ∧ x.totals = b.totals.add c.record.quantities ∧ x.endReason = some .target ∧ x.endTime = some s.clock
              ∧ x.owing = owed ∧ x.flags.targetReached = (b.flags.targetReached || reached)
              ∧ x.flags.archiveWait = (b.flags.archiveWait || waits)) →
            closing = (if s.ret.ticketCounter = 0 then 0 else s.ret.ending.countP (fun x =>
              decide (t.queuedGrabs x.record.id = 0
                ∧ ∀ q : Run, x.owing[q] = true → q = r ∧ c.record.final = true))) →
            number = (if closing = 0 then s.ret.ticketCounter
              else if s.ret.ticketCounter = 4294967295 then 0 else s.ret.ticketCounter + 1) →
            (((∃ q : Run, owed[q] = true) ∨ t.queuedGrabs b.record.id ≠ 0) → stays false)
            ∧ ((∀ q : Run, owed[q] = false) → t.queuedGrabs b.record.id = 0 →
              (4 ≤ s.ret.pendingTickets.length + closing → stays true)
              ∧ (s.ret.pendingTickets.length + closing < 4 → number = 0 → stays false)
              ∧ (s.ret.pendingTickets.length + closing < 4 → number ≠ 0 →
                (∀ x ∈ t.ret.ending, x.record.id ≠ b.record.id) ∧ t.flags.batchClosed = true
                ∧ t.archive.numberMark = number
                ∧ t.ret.ticketCounter = (if number = 4294967295 then 0 else number + 1)
                ∧ t.ret.pendingTickets.length = s.ret.pendingTickets.length + closing + 1
                ∧ ∃ p : PendingTicket, t.ret.pendingTickets.getLast? = some p ∧ p.ticket.number = number
                  ∧ p.ticket.batchId = b.record.id ∧ p.ticket.slot = b.slot ∧ p.ticket.startTime = b.startTime
                  ∧ p.ticket.endReason = .target ∧ p.ticket.endTime = s.clock
                  ∧ p.ticket.iv = (b.totals.iv + c.record.iv) / 1000
                  ∧ p.ticket.gsv = (b.totals.gsv + c.record.gsv) / 1000 ∧ p.ticket.nsv = nsv / 1000
                  ∧ p.ticket.flags.targetReached = (b.flags.targetReached || reached))))

/-! ### Chapter 7: proving -/

/-- R130 to R132: PROVE START is judged in the order of its checks; accepted, it writes the marker, makes the run's
ROUTE active alone, and goes as far as the inputs already allow: to ROUTING, with ROUTE_OK active to FWD_LAUNCH, and
with the valve already forward to FWD_TRAVEL. -/
def Obligations.ProveStartRoutesTheRun : Prop :=
  ∀ s : State, s.Ready →
    (∀ n : Nat, (n = 0 ∨ 4 < n) → exec (.proveStart n) s = .next { s with reply := some ⟨.badParam, []⟩ })
    ∧ ∀ r : Run,
      (s.psq.state ≠ .idle → exec (.proveStart (r.val + 1)) s = .next { s with reply := some ⟨.busy, []⟩ })
      ∧ (s.psq.state = .idle →
        ((s.ret.service[r] = .outOfService ∨ s.pulses[r].flow ≠ some .flowing
            ∨ s.pulses[r].settings.mode = .dual ∧ s.pulses[r].pulseState ≠ .dualOk) →
          exec (.proveStart (r.val + 1)) s = .next { s with reply := some ⟨.notAllowed, []⟩ })
        ∧ (s.ret.service[r] = .inService → s.pulses[r].flow = some .flowing →
            (s.pulses[r].settings.mode = .singleA ∨ s.pulses[r].pulseState = .dualOk) →
          ∃ t : State, exec (.proveStart (r.val + 1)) s = .next t ∧ t.Settled
            ∧ t.reply = some ⟨.ok, [.u64 (s.latestQ r), .u8 (s.productInForce r).val]⟩
            ∧ t.ret = { s.ret with marker := some ⟨r, s.productInForce r, s.clock, 0, none⟩ }
            ∧ t.alarmRaised (.station .proveFailed) = false
            ∧ t.psq.run = some r ∧ t.psq.slot = some (s.productInForce r) ∧ t.psq.qstart = some (s.latestQ r)
            ∧ t.psq.attempts = 0 ∧ t.psq.trips = [] ∧ t.psq.result = none ∧ t.psq.route = noRuns.set r true
            ∧ (s.psq.routeOk.filtered = false → t.psq.state = .routing ∧ t.psq.dirReverse = s.psq.dirReverse
                ∧ t.psq.valveTimer = some (s.now + s.params.prover.valveTimeout * 10000000))
            ∧ (s.psq.routeOk.filtered = true → t.psq.dirReverse = false
                ∧ (s.psq.fwdReady = false → t.psq.state = .fwdLaunch
                    ∧ t.psq.valveTimer = some (s.now + s.params.prover.valveTimeout * 10000000))
                ∧ (s.psq.fwdReady = true → t.psq.state = .fwdTravel ∧ t.psq.valveTimer = none
                    ∧ t.psq.passTimer = some (s.now + s.params.prover.passTimeout * 10000000)))
            ∧ t = { s with
                ret := t.ret, bankA := t.bankA, bankB := t.bankB, current := t.current, psq := t.psq
                alarms := t.alarms, flags := t.flags, reply := t.reply }))

/-- R131 to R133: what an accepted change of ROUTE_OK or of a valve switch does. ROUTE_OK active ends ROUTING,
inactive after ROUTING it fails the prove with ROUTE_LOST; a valve change that makes a launch condition hold completes
the launch; in every other state the filtered level alone changes. -/
def Obligations.RouteAndValveInputsMoveTheProve : Prop :=
  ∀ (s : State) (u now' : Moment), s.phase = .running → s.Settled → s.ProverSound → now' = max s.now (u + 500000) →
    (s.psq.routeOk.since = some u →
      (s.psq.routeOk.raw = true → s.psq.state = .routing →
        ∃ t : State, exec .routeOkChange s = .next t ∧ t = { s with now := now', psq := t.psq }
          ∧ t.psq.routeOk = ⟨true, true, none⟩ ∧ t.psq.dirReverse = false
          ∧ t.psq.state = (if s.psq.fwdReady then .fwdTravel else .fwdLaunch))
      ∧ (s.psq.routeOk.raw = false → s.psq.state.afterRouting = true →
        ∃ (t : State) (m : ProveMarker), exec .routeOkChange s = .next t ∧ s.ret.marker = some m
          ∧ t.psq.state = .idle ∧ t.psq.route = noRuns ∧ t.psq.dirReverse = s.psq.dirReverse
          ∧ t.alarmRaised (.station .proveFailed) = true ∧ t.flags.proveFinished = true ∧ t.Settled
          ∧ t.ret = { s.ret with
              marker := none
              lastProve := s.ret.lastProve.set m.run
                (some ⟨s.clock, m.startTime, m.slot, s.psq.attempts, .failed .routeLost⟩) })
      ∧ ((s.psq.routeOk.raw = true ∧ s.psq.state ≠ .routing
            ∨ s.psq.routeOk.raw = false ∧ s.psq.state.afterRouting = false) →
        exec .routeOkChange s = .next { s with
          now := now', psq := { s.psq with routeOk := ⟨s.psq.routeOk.raw, s.psq.routeOk.raw, none⟩ } }))
    ∧ (∀ (v : ValveSwitch) (x : ProverSeq), (s.psq.input (valveInput v)).since = some u →
      x = s.psq.setInput (valveInput v)
        ⟨(s.psq.input (valveInput v)).raw, (s.psq.input (valveInput v)).raw, none⟩ →
      exec (.valveInputChange v) s = .next { s with
        now := now'
        psq :=
          if s.psq.state = .fwdLaunch ∧ x.fwdReady = true then
            { x with
              state := .fwdTravel, valveTimer := none
              passTimer := some (now' + s.params.prover.passTimeout * 10000000) }
          else if s.psq.state = .revLaunch ∧ x.revReady = true then
            { x with
              state := .revTravel, valveTimer := none
              passTimer := some (now' + s.params.prover.passTimeout * 10000000) }
          else x })

/-- R127, R134, R136, R137: a detector event that passes the lockout. In TRAVEL the first detector of the pass opens
it at the stamp of the raw change, with one value sample and a pass watch on the run, and the second fails the prove;
in COUNT the second, where no pulse of the run has come since, stops the pass timer, arms the capture of the tail
pulse and starts the tail timer, and the first fails the prove; elsewhere the PSQ ignores the event. A lockout that
runs hides it; the return to inactive makes no event. R20, R136 to R139: the capture that either detector arms. The
history's oldest pulse at or after the stamp completes it at once, short where no older pulse is held (where a newer
pulse is not at or after the stamp, that is the model's choice, log entry 31); otherwise it waits for a good pulse (O16,
O18). Its report becomes tp1 in COUNT; in TAIL it becomes tp2, the pass watch closes, and the pass
is judged: after FWD_TAIL the reverse launch follows, after REV_TAIL the round trip is complete (O49). The first reason
that applies, of the tail expiry, an integrity mark or a short capture, a reverse mark, and no tp1 or fewer than 100
pulses, makes the pass invalid; a valid pass has Ni of N × 10,000 × (td2 − td1) / (tp2 − tp1), rounded half up. -/
def Obligations.DetectorsOpenAndCloseThePass : Prop :=
  (∀ (s : State) (d : Detector) (u : Moment), s.phase = .running → s.Settled → s.ProverSound →
      (∀ m : Moment, s.psq.lockout d = some m →
        exec (.detectorLockoutExpiry d) s = .next { s with now := max s.now m, psq := s.psq.setLockout d none })
      ∧ ((s.psq.input (detectorInput d)).since = some u → (s.psq.input (detectorInput d)).raw = false →
        exec (.detectorReturnInactive d) s = .next { s with
          now := max s.now (u + 50000), psq := s.psq.setInput (detectorInput d) ⟨false, false, none⟩ })
      ∧ ((s.psq.input (detectorInput d)).since = some u → (s.psq.input (detectorInput d)).raw = true →
        (s.psq.lockout d ≠ none →
          exec (.detectorEvent d) s = .next { s with
            now := max s.now (u + 50000), psq := s.psq.setInput (detectorInput d) ⟨true, true, none⟩ })
        ∧ (s.psq.lockout d = none →
          ∃ t : State, exec (.detectorEvent d) s = .next t ∧ t.now = max s.now (u + 50000)
            ∧ t.psq.lockout d = some (t.now + 20000000)
            ∧ (s.psq.state.waitsForSphere = false →
                t = { s with
                  now := t.now
                  psq := (s.psq.setInput (detectorInput d) ⟨true, true, none⟩).setLockout d (t.psq.lockout d) })
            ∧ ((s.psq.state = .fwdTravel ∧ d = .det1 ∨ s.psq.state = .revTravel ∧ d = .det2) →
                t.psq.state = (if d = .det1 then .fwdCount else .revCount)
                  ∧ t.psq.pass.td1 = some (stampOf u) ∧ t.psq.pass.td2 = none ∧ t.psq.pass.tp2 = none
                  ∧ t.psq.samples = s.psq.samples ++ [s.takeSample] ∧ t.psq.passTimer = s.psq.passTimer
                  ∧ t.pulses[s.proveRun].watch = some (s.pulses[s.proveRun].openingMarks (stampOf u))
                  ∧ (t.psq.pass.tp1 = none ↔ t.pulses[s.proveRun].capture = some (stampOf u))
                  ∧ (∀ (older newer : List HistoryEntry) (e : HistoryEntry),
                      s.pulses[s.proveRun].history = older ++ e :: newer →
                      (∀ x ∈ older, atOrAfter x.stamp (stampOf u) = false) → atOrAfter e.stamp (stampOf u) = true →
                      t.psq.pass.tp1 = some e ∧ t.psq.pass.short = decide (older = [])
                        ∧ t.pulses[s.proveRun].capture = none)
                  ∧ ((∀ x ∈ s.pulses[s.proveRun].history, atOrAfter x.stamp (stampOf u) = false) →
                      t.psq.pass.tp1 = none ∧ t.psq.pass.short = false)
                  ∧ t = { s with now := t.now, psq := t.psq, pulses := t.pulses })
            ∧ ((s.psq.state = .fwdCount ∧ d = .det2 ∨ s.psq.state = .revCount ∧ d = .det1) →
                (∀ e ∈ s.pulses[s.proveRun].history, atOrAfter e.stamp (stampOf u) = false) →
                t = { s with
                  now := t.now
                  pulses := s.pulses.set s.proveRun
                    { s.pulses[s.proveRun] with capture := some (stampOf u) }
                  psq := { (s.psq.setInput (detectorInput d) ⟨true, true, none⟩).setLockout d (t.psq.lockout d) with
                    state := (if d = .det2 then .fwdTail else .revTail)
                    passTimer := none
                    tailTimer := some (t.now + 20000000)
                    pass := { s.psq.pass with td2 := some (stampOf u) }
                    samples := s.psq.samples ++ [s.takeSample] } })
            ∧ ((s.psq.state = .fwdCount ∧ d = .det2 ∨ s.psq.state = .revCount ∧ d = .det1) →
                ∀ (older newer : List HistoryEntry) (e : HistoryEntry),
                  s.pulses[s.proveRun].history = older ++ e :: newer →
                  (∀ x ∈ older, atOrAfter x.stamp (stampOf u) = false) → atOrAfter e.stamp (stampOf u) = true →
                  t = (State.captureReported { s with
                    now := max s.now (u + 50000)
                    pulses := s.pulses.set s.proveRun { s.pulses[s.proveRun] with capture := none }
                    psq := { (s.psq.setInput (detectorInput d) ⟨true, true, none⟩).setLockout d
                        (some (max s.now (u + 50000) + 20000000)) with
                      state := (if d = .det2 then .fwdTail else .revTail)
                      passTimer := none
                      tailTimer := some (max s.now (u + 50000) + 20000000)
                      pass := { s.psq.pass with td2 := some (stampOf u) }
                      samples := s.psq.samples ++ [s.takeSample] } } ⟨e, decide (older = [])⟩).settle)
            ∧ ((s.psq.state = .fwdTravel ∧ d = .det2 ∨ s.psq.state = .revTravel ∧ d = .det1
                  ∨ s.psq.state = .fwdCount ∧ d = .det1 ∨ s.psq.state = .revCount ∧ d = .det2) →
                t.psq.state = .idle ∧ t.psq.route = noRuns ∧ t.alarmRaised (.station .proveFailed) = true
                  ∧ t.ret.marker = none ∧ t.pulses[s.proveRun].watch = none
                  ∧ t.pulses[s.proveRun].capture = none))))
    ∧ (∀ (s : State) (r : Run) (rep : CaptureReport) (reported : CurrentPass) (result : PassResult),
      s.psq.run = some r →
      reported = { s.psq.pass with tp2 := some rep.entry, short := s.psq.pass.short || rep.short } →
      result = judgePass reported (s.pulses[r].watch.getD ⟨false, false⟩) false →
      ((s.psq.state = .fwdCount ∨ s.psq.state = .revCount) →
        s.captureReported rep
          = { s with psq := { s.psq with
              pass := { s.psq.pass with tp1 := some rep.entry, short := s.psq.pass.short || rep.short } } })
      ∧ (s.psq.state = .fwdTail →
        s.captureReported rep
          = { s with
              pulses := s.pulses.set r { s.pulses[r] with watch := none }
              psq := { s.psq with
                state := (if s.psq.revReady then .revTravel else .revLaunch)
                dirReverse := true
                pass := .none
                fwd := some result
                tailTimer := none
                valveTimer :=
                  (if s.psq.revReady then none else some (s.now + s.params.prover.valveTimeout * 10000000))
                passTimer :=
                  (if s.psq.revReady then some (s.now + s.params.prover.passTimeout * 10000000)
                   else s.psq.passTimer) } })
      ∧ (∀ fwd : PassResult, s.psq.state = .revTail → s.psq.fwd = some fwd →
        s.captureReported rep
          = State.completeTrip { s with
              pulses := s.pulses.set r { s.pulses[r] with watch := none }
              psq := { s.psq with tailTimer := none, pass := reported } } fwd result))
    ∧ (∀ (x : CurrentPass) (marks : PassWatch),
      judgePass x marks true = .invalid .noTailPulse
      ∧ ((marks.integrity = true ∨ x.short = true) → judgePass x marks false = .invalid .pulseIntegrity)
      ∧ (marks.integrity = false → x.short = false →
        (marks.reverse = true → judgePass x marks false = .invalid .reversePulses)
        ∧ (marks.reverse = false →
          (x.tp1 = none → judgePass x marks false = .invalid .insufficientPulses)
          ∧ ∀ (tp1 tp2 : HistoryEntry) (td1 td2 : Stamp) (n td tp : Nat), x.tp1 = some tp1 → x.tp2 = some tp2 →
            x.td1 = some td1 → x.td2 = some td2 → n = (tp2.index - tp1.index).toNat → td = (td2 - td1).toNat →
            tp = (tp2.stamp - tp1.stamp).toNat →
            (n < 100 → judgePass x marks false = .invalid .insufficientPulses)
            ∧ (100 ≤ n → judgePass x marks false = .valid ((2 * (n * 10000 * td) + tp) / (2 * tp)) td))))

/-- R131, R132, R135, R138, R150: the prover's timers. The valve timer and the pass timer fail the prove, with their
causes; the tail timer ends the pass with NO_TAIL_PULSE, after FWD_TAIL towards the reverse launch, after REV_TAIL with
the completion of the round trip. R141 to R144: that completion, whichever event ends the reverse pass (O48). The round
trip takes the next attempt number and the first reason that applies: the forward pass's, the reverse pass's, LIVE_QUALITY
for a value that was not LIVE in a sample, FLOW_UNSTABLE for a rate off Qstart by more than the stability limit or above
99,999, MF_RANGE for an IMF outside 950,000 to 1,050,000; its record joins the list, with the figures when it is valid and
each Ni of a valid pass; the prove is evaluated (O51) with the current round trip emptied. -/
def Obligations.ProverTimersEndTheWait : Prop :=
  (∀ (s : State) (d : Moment), s.phase = .running → s.Settled → s.ProverSound →
      (∀ (cmd : Instr) (cause : ProveCause),
        (cmd = .valveTimerExpiry ∧ cause = .valveTimeout ∧ s.psq.valveTimer = some d
          ∨ cmd = .passTimerExpiry ∧ cause = .sphereTimeout ∧ s.psq.passTimer = some d) →
        ∃ (t : State) (m : ProveMarker), exec cmd s = .next t ∧ s.ret.marker = some m ∧ t.Settled
          ∧ t.now = max s.now d ∧ t.psq.state = .idle ∧ t.psq.route = noRuns ∧ t.psq.trips = s.psq.trips
          ∧ t.psq.dirReverse = s.psq.dirReverse
          ∧ t.pulses[s.proveRun].capture = none ∧ t.pulses[s.proveRun].watch = none
          ∧ t.alarmRaised (.station .proveFailed) = true ∧ t.flags.proveFinished = true
          ∧ (∀ a : AlarmId, a ≠ .station .proveFailed → t.alarm a = s.alarm a)
          ∧ t.ret = { s.ret with
              marker := none
              lastProve := s.ret.lastProve.set m.run
                (some ⟨s.clock, m.startTime, m.slot, s.psq.attempts, .failed cause⟩) }
          ∧ t = { s with
              now := t.now, ret := t.ret, bankA := t.bankA, bankB := t.bankB, current := t.current
              pulses := t.pulses, psq := t.psq, alarms := t.alarms, flags := t.flags })
      ∧ (s.psq.tailTimer = some d →
        ∃ t : State, exec .tailTimerExpiry s = .next t ∧ t.now = max s.now d
          ∧ t.pulses[s.proveRun].capture = none ∧ t.pulses[s.proveRun].watch = none
          ∧ (s.psq.state = .fwdTail →
              t.psq.fwd = some (.invalid .noTailPulse) ∧ t.psq.dirReverse = true ∧ t.psq.attempts = s.psq.attempts
                ∧ t.psq.state = (if s.psq.revReady then .revTravel else .revLaunch)
                ∧ t = { s with now := t.now, psq := t.psq, pulses := t.pulses })
          ∧ (s.psq.state = .revTail → t.psq.attempts = s.psq.attempts + 1
              ∧ ∃ trip : RoundTrip, t.psq.trips = s.psq.trips ++ [trip] ∧ trip.number = s.psq.attempts + 1
                ∧ trip.figures = none
                ∧ (∀ (ni ticks : Nat), s.psq.fwd = some (.valid ni ticks) →
                    trip.reason = some (.pass .noTailPulse) ∧ trip.niFwd = some ni)
                ∧ (∀ why : PassReason, s.psq.fwd = some (.invalid why) → trip.reason = some (.pass why)))
          ∧ (∀ fwd : PassResult, s.psq.state = .revTail → s.psq.fwd = some fwd →
              t = (State.completeTrip { s with
                now := max s.now d
                pulses := s.pulses.set s.proveRun { s.pulses[s.proveRun] with capture := none, watch := none }
                psq := { s.psq with tailTimer := none } } fwd (.invalid .noTailPulse)).settle)))
    ∧ (∀ (s : State) (r : Run) (slot : Slot) (fwd rev : PassResult), s.psq.run = some r → s.psq.slot = some slot →
      ∃ trip : RoundTrip, trip.number = s.psq.attempts + 1
        ∧ s.completeTrip fwd rev
          = State.evaluateProve { s with
              psq := { s.psq with
                attempts := trip.number, trips := s.psq.trips ++ [trip], pass := .none, fwd := none, samples := [] }
              ret := { s.ret with marker := s.ret.marker.map (fun m => { m with attempts := trip.number }) } }
        ∧ (∀ why : PassReason, fwd = .invalid why →
            trip.reason = some (.pass why) ∧ trip.figures = none ∧ trip.niFwd = none)
        ∧ (∀ why : PassReason, rev = .invalid why → trip.figures = none ∧ trip.niRev = none
            ∧ ∀ ni ticks : Nat, fwd = .valid ni ticks → trip.reason = some (.pass why))
        ∧ (∀ ni ticks : Nat, fwd = .valid ni ticks → trip.niFwd = some ni)
        ∧ (∀ ni ticks : Nat, rev = .valid ni ticks → trip.niRev = some ni)
        ∧ (∀ niF niR ticksF ticksR : Nat, fwd = .valid niF ticksF → rev = .valid niR ticksR →
          ((∃ x ∈ s.psq.samples, x.t.quality ≠ .live ∨ x.p.quality ≠ .live ∨ x.tp.quality ≠ .live
              ∨ x.pp.quality ≠ .live) → trip.reason = some .liveQuality ∧ trip.figures = none)
          ∧ ((∀ x ∈ s.psq.samples, x.t.quality = .live ∧ x.p.quality = .live ∧ x.tp.quality = .live
              ∧ x.pp.quality = .live) →
            ∀ (ni kx ticks qrun qstart : Nat), ni = niF + niR → kx = s.params.meter[r].kx → ticks = ticksF + ticksR →
              qrun = (2 * (ni * 36 * 1000000000) + kx * ticks) / (2 * (kx * ticks)) →
              qstart = s.psq.qstart.getD 0 →
              ((s.params.prover.stabilityLimit * qstart < ((qrun : Int) - qstart).natAbs * 1000 ∨ 99999 < qrun) →
                trip.reason = some .flowUnstable ∧ trip.figures = none)
              ∧ (((qrun : Int) - qstart).natAbs * 1000 ≤ s.params.prover.stabilityLimit * qstart → qrun ≤ 99999 →
                ∃ (f : TripFigures) (above below : Nat), f.qrun = qrun
                  ∧ f.meanT = roundHalfAway (s.psq.samples.map (fun x => x.t.value)).sum 4
                  ∧ f.meanP = roundHalfAway (s.psq.samples.map (fun x => x.p.value)).sum 4
                  ∧ f.meanTP = roundHalfAway (s.psq.samples.map (fun x => x.tp.value)).sum 4
                  ∧ f.meanPP = roundHalfAway (s.psq.samples.map (fun x => x.pp.value)).sum 4
                  ∧ (∀ pr : Product, pr = s.params.products[slot] →
                      f.ctlM = ctlOf pr.tb pr.alpha pr.beta f.meanT ∧ f.cplM = cplOf pr.f f.meanP
                        ∧ f.ctlP = ctlOf pr.tb pr.alpha pr.beta f.meanTP ∧ f.cplP = cplOf pr.f f.meanPP)
                  ∧ (f.ctsP : Int) = clampInt 990000 1010000 (1000000 + roundHalfAway
                      ((s.params.prover.gamma : Int) * (f.meanTP - s.params.prover.tref)) 1000)
                  ∧ above = s.params.prover.bpv * f.ctsP * f.ctlP * f.cplP * kx
                  ∧ below = ni * f.ctlM * f.cplM * 100000 ∧ f.imf = (2 * above + below) / (2 * below)
                  ∧ ((f.imf < 950000 ∨ 1050000 < f.imf) → trip.reason = some .mfRange ∧ trip.figures = none)
                  ∧ (950000 ≤ f.imf → f.imf ≤ 1050000 → trip.reason = none ∧ trip.figures = some f)))))

/-- R148, R149, R152, R153: the requests that end a prove. PROVE ACCEPT writes the result into the curve of the
recorded slot and nowhere else and adds 1 to the MF changes count of the batch in force for the prove run, if there is
one, and to no other; PROVE REJECT leaves the curve and every batch; each writes its audit entry and the outcome. PROVE
ABORT ends a prove in progress without a failure. That the prove rate takes four bytes in the reply of PROVE ACCEPT, and
the order of its four fields, are the model's reading of R148 and R208 (log entry 22). -/
def Obligations.ProveRequestsCompleteTheProve : Prop :=
  (∀ s : State, s.Ready →
      (s.psq.state ≠ .resultPending →
        exec .proveAccept s = .next { s with reply := some ⟨.notAllowed, []⟩ }
        ∧ exec .proveReject s = .next { s with reply := some ⟨.notAllowed, []⟩ })
      ∧ ((s.psq.state = .idle ∨ s.psq.state = .resultPending) →
        exec .proveAbort s = .next { s with reply := some ⟨.notAllowed, []⟩ }))
  ∧ ∀ (s : State) (r : Run) (slot : Slot) (m : ProveMarker), s.Ready → s.ProverSound → s.psq.run = some r →
    s.psq.slot = some slot → s.ret.marker = some m →
    (∀ res : ProveResult, s.psq.state = .resultPending → s.psq.result = some res →
      (∃ t : State, exec .proveAccept s = .next t ∧ t.Settled
        ∧ t.reply = some ⟨.ok, [.u32 res.newMF, .u32 res.rate, .u32 res.rate, .u32 res.newMF]⟩
        ∧ t.params = { s.params with
            curves := s.params.curves.set r
              (s.params.curves[r].set slot (newCurveOf s.params.curves[r][slot] ⟨res.rate, res.newMF⟩)) }
        ∧ t.ret = { s.ret with
            active := t.ret.active
            ending := t.ret.ending
            marker := none
            lastProve := s.ret.lastProve.set m.run
              (some ⟨s.clock, m.startTime, m.slot, s.psq.attempts, .accepted .request res⟩) }
        ∧ (s.batchInForce? r = none → t.ret.active = s.ret.active ∧ t.ret.ending = s.ret.ending)
        ∧ (s.BatchIdsDistinct → ∀ b : Batch, s.batchInForce? r = some b →
            t.heldBatch? b.record.id = some { b with mfChanges := min 65535 (b.mfChanges + 1) }
              ∧ ∀ id : Nat, id ≠ b.record.id → t.heldBatch? id = s.heldBatch? id)
        ∧ t.psq.state = .idle ∧ t.flags = { s.flags with proveFinished := true }
        ∧ t.audit = s.audit.write ⟨s.auditNext, s.clock, .proveAccepted r slot
            (replacedPoint? s.params.curves[r][slot] res.rate) ⟨res.rate, res.newMF⟩⟩
        ∧ t = { s with
            ret := t.ret, bankA := t.bankA, bankB := t.bankB, current := t.current, params := t.params
            psq := t.psq, flags := t.flags, audit := t.audit, auditNext := s.auditNext + 1, reply := t.reply })
      ∧ (∃ t : State, exec .proveReject s = .next t ∧ t.Settled ∧ t.reply = some ⟨.ok, []⟩
        ∧ t.ret = { s.ret with
            marker := none
            lastProve := s.ret.lastProve.set m.run
              (some ⟨s.clock, m.startTime, m.slot, s.psq.attempts, .rejected res⟩) }
        ∧ t.psq.state = .idle
        ∧ t = { s with
            ret := t.ret, bankA := t.bankA, bankB := t.bankB, current := t.current, psq := t.psq
            flags := { s.flags with proveFinished := true }
            audit := s.audit.write ⟨s.auditNext, s.clock, .proveRejected r slot res.newMF res.rate⟩
            auditNext := s.auditNext + 1, reply := t.reply }))
    ∧ (s.psq.state.proving = true →
      ∃ t : State, exec .proveAbort s = .next t ∧ t.Settled ∧ t.reply = some ⟨.ok, []⟩
        ∧ t.psq.state = .idle ∧ t.psq.route = noRuns ∧ t.psq.dirReverse = s.psq.dirReverse
        ∧ t.psq.valveTimer = none ∧ t.psq.passTimer = none ∧ t.psq.tailTimer = none
        ∧ t.pulses[r].capture = none ∧ t.pulses[r].watch = none
        ∧ t.ret = { s.ret with
            marker := none
            lastProve := s.ret.lastProve.set m.run
              (some ⟨s.clock, m.startTime, m.slot, s.psq.attempts, .aborted false⟩) }
        ∧ t = { s with
            ret := t.ret, bankA := t.bankA, bankB := t.bankB, current := t.current, psq := t.psq
            pulses := t.pulses, flags := { s.flags with proveFinished := true }, reply := t.reply })

/-- R48, R149: a prove result applied to a valid curve gives a valid curve: rates strictly increasing, at most six
points, every point within its valid values; it holds the new point, and but for one replaced point it keeps the old
ones. R145, R146: what brings a result about, the evaluation after each round trip (O49). The window is the last k valid
records; with k of them and a repeatability at or below its limit the prove succeeds, with the means, the numbers of the
trips, the factor of the curve as it stands, and the marks NEW_CURVE and DEVIATION; with auto-accept and neither mark the
result is applied in the same event, otherwise it waits in RESULT_PENDING with the route released, the timers stopped and
the result in the marker. Without success the prove fails with NO_REPEAT at the last attempt, and before it the next
forward launch begins. -/
def Obligations.AppliedResultKeepsTheCurveValid : Prop :=
  (∀ (c : Curve) (x : CurvePoint), curveValid c = true → x.valid = true →
      curveValid (newCurveOf c x) = true ∧ x ∈ newCurveOf c x
        ∧ (∀ p ∈ c, replacedPoint? c x.rate ≠ some p → p ∈ newCurveOf c x)
        ∧ (∀ p ∈ newCurveOf c x, p = x ∨ p ∈ c)
        ∧ (∀ p ∈ c, nearRate x.rate p = true → ∃ q ∈ c, replacedPoint? c x.rate = some q ∧ nearRate x.rate q = true))
    ∧ (∀ (s : State) (r : Run) (slot : Slot) (m : ProveMarker) (valid window : List (Nat × TripFigures))
        (imfs : List Nat) (k : Nat), s.psq.run = some r → s.psq.slot = some slot → s.ret.marker = some m →
      valid = s.psq.trips.filterMap (fun x => x.figures.map (fun f => (x.number, f))) →
      k = s.params.prover.k → window = valid.drop (valid.length - k) → imfs = window.map (fun w => w.2.imf) →
      (∀ hi lo spread : Nat, window.length = k → imfs.max? = some hi → imfs.min? = some lo →
        spread = (2 * ((hi - lo) * 1000000) + lo) / (2 * lo) → spread ≤ s.params.prover.repeatLimit →
        ∃ (res : ProveResult) (t : State), s.evaluateProve = t
          ∧ res.newMF = (2 * imfs.sum + k) / (2 * k)
          ∧ res.rate = (2 * (window.map (fun w => w.2.qrun)).sum + k) / (2 * k)
          ∧ res.repeatability = spread ∧ res.trips = window.map Prod.fst
          ∧ res.newCurve = decide (s.params.curves[r][slot] = [])
          ∧ res.currentMF
              = (if res.newCurve then none else some (meterFactor s.params.curves[r][slot] res.rate))
          ∧ res.deviation = res.currentMF.map (fun c : Nat =>
              (2 * (((res.newMF : Int) - (c : Int)).natAbs * 1000000) + c) / (2 * c))
          ∧ res.deviates = res.currentMF.any (fun c : Nat =>
              decide (s.params.prover.deviationLimit * c < ((res.newMF : Int) - (c : Int)).natAbs * 1000000))
          ∧ (s.params.prover.autoAccept = true → res.newCurve = false → res.deviates = false →
              t.params = { s.params with
                curves := s.params.curves.set r
                  (s.params.curves[r].set slot (newCurveOf s.params.curves[r][slot] ⟨res.rate, res.newMF⟩)) }
                ∧ t.ret = { s.ret with
                    active := t.ret.active
                    ending := t.ret.ending
                    marker := none
                    lastProve := s.ret.lastProve.set m.run
                      (some ⟨s.clock, m.startTime, m.slot, s.psq.attempts, .accepted .auto res⟩) }
                ∧ (s.batchInForce? r = none → t.ret.active = s.ret.active ∧ t.ret.ending = s.ret.ending)
                ∧ (s.BatchIdsDistinct → ∀ b : Batch, s.batchInForce? r = some b →
                    t.heldBatch? b.record.id = some { b with mfChanges := min 65535 (b.mfChanges + 1) }
                      ∧ ∀ id : Nat, id ≠ b.record.id → t.heldBatch? id = s.heldBatch? id)
                ∧ t.psq.state = .idle ∧ t.psq.route = noRuns ∧ t.psq.trips = s.psq.trips
                ∧ t = { s with
                    params := t.params, ret := t.ret, psq := t.psq, flags := { s.flags with proveFinished := true }
                    audit := s.audit.write ⟨s.auditNext, s.clock, .proveAccepted r slot
                      (replacedPoint? s.params.curves[r][slot] res.rate) ⟨res.rate, res.newMF⟩⟩
                    auditNext := s.auditNext + 1 })
          ∧ ((s.params.prover.autoAccept = false ∨ res.newCurve = true ∨ res.deviates = true) →
              t = { s with
                psq := { s.psq with
                  state := .resultPending, result := some res, route := noRuns, valveTimer := none
                  passTimer := none, tailTimer := none }
                ret := { s.ret with marker := some { m with result := some res } } }))
      ∧ ((window.length ≠ k ∨ ∃ hi lo : Nat, imfs.max? = some hi ∧ imfs.min? = some lo
            ∧ s.params.prover.repeatLimit < (2 * ((hi - lo) * 1000000) + lo) / (2 * lo)) →
        (s.psq.attempts = s.params.prover.maxAttempts →
          ∃ t : State, s.evaluateProve = t ∧ t.psq.state = .idle ∧ t.psq.route = noRuns
            ∧ t.psq.trips = s.psq.trips ∧ t.alarmRaised (.station .proveFailed) = true
            ∧ t.flags.proveFinished = true ∧ t.params = s.params
            ∧ t.ret = { s.ret with
                marker := none
                lastProve := s.ret.lastProve.set m.run
                  (some ⟨s.clock, m.startTime, m.slot, s.psq.attempts, .failed .noRepeat⟩) })
        ∧ (s.psq.attempts ≠ s.params.prover.maxAttempts →
          s.evaluateProve = { s with psq := { s.psq with
            state := (if s.psq.fwdReady then .fwdTravel else .fwdLaunch)
            dirReverse := false
            pass := .none
            valveTimer :=
              (if s.psq.fwdReady then none else some (s.now + s.params.prover.valveTimeout * 10000000))
            passTimer :=
              (if s.psq.fwdReady then some (s.now + s.params.prover.passTimeout * 10000000)
               else s.psq.passTimer) } })))

/-! ### Chapter 8: sampling -/

/-- R161 to R163: the sampler's timers. The width timer ends the pulse; the interval and the swap timer lead to READY,
where an empty queue rests and the head of another is served at once: a swap towards its can, a halt on a full can, or
a grab. -/
def Obligations.SamplerTimersServeTheQueue : Prop :=
  ∀ (s : State) (d : Moment), s.phase = .running →
    (s.smc.widthTimer = some d → s.Settled →
      exec .widthTimerExpiry s
        = .next { s with now := max s.now d, smc := { s.smc with widthTimer := none, grab := false } })
    ∧ (∀ cmd : Instr,
      (cmd = .intervalTimerExpiry ∧ s.smc.intervalTimer = some d ∧ s.smc.swapTimer = none
        ∨ cmd = .swapTimerExpiry ∧ s.smc.swapTimer = some d ∧ s.smc.intervalTimer = none
          ∧ s.smc.widthTimer = none ∧ s.smc.grab = false) →
      ∃ t : State, exec cmd s = .next t ∧ t.now = max s.now d ∧ t.Settled
        ∧ (s.smc.queue = [] → t.smc = { s.smc with
            state := .ready, widthTimer := none, intervalTimer := none, swapTimer := none, grab := false })
        ∧ (∀ (e : OwedGrab) (rest : List OwedGrab), s.smc.queue = e :: rest →
          (e.can ≠ s.ret.selectedCan →
            t.smc.state = .swapping ∧ t.ret.selectedCan = e.can ∧ t.smc.canSelect = decide (e.can = .can2)
              ∧ t.smc.queue = s.smc.queue ∧ t.smc.swapTimer = some (t.now + 50000000) ∧ t.smc.grab = false)
          ∧ (e.can = s.ret.selectedCan → s.canIsFull e.can = true →
            t.smc.state = .halted ∧ t.smc.haltedCan = some e.can ∧ t.smc.queue = []
              ∧ t.alarmRaised (.station .samplerHalted) = true ∧ t.smc.grab = false)
          ∧ (e.can = s.ret.selectedCan → s.canIsFull e.can = false →
            t.smc.state = .grabbing ∧ t.smc.queue = rest ∧ t.smc.grab = true
              ∧ t.smc.widthTimer = some (t.now + s.params.station.grabWidth * 10000)
              ∧ t.smc.intervalTimer = some (t.now + s.params.station.grabInterval * 10000)
              ∧ t.canCount e.can = s.canCount e.can + 1)))

/-- R164 to R166: CAN RESET zeroes its can and ends a halt; SAMPLER ENABLE sets the enable, and OFF stops every timer,
ends the pulse and the halt and empties the queue. A can-full input going inactive ends a halt, with no halted can and
the condition SAMPLER_HALTED cleared; otherwise the change alters the input's filtered level alone, and the time base,
which the command moves to the end of the filter width (the model's choice, log entry 3). -/
def Obligations.SamplerRequestsAndCanInputs : Prop :=
  ∀ (s : State) (c : Can),
    (s.Ready →
      (∀ n : Nat, n ≠ 1 → n ≠ 2 → exec (.canReset n) s = .next { s with reply := some ⟨.badParam, []⟩ })
      ∧ (∃ t : State, exec (.canReset (canNumber c)) s = .next t ∧ t.Settled ∧ t.reply = some ⟨.ok, []⟩
          ∧ t.ret = (if c = .can1 then { s.ret with canCount1 := 0 } else { s.ret with canCount2 := 0 })
          ∧ t.current ≠ s.current
          ∧ t.smc = (if s.smc.state = .halted then { s.smc with state := .ready, haltedCan := none } else s.smc)
          ∧ (s.smc.state = .halted → t.alarmRaised (.station .samplerHalted) = false)
          ∧ t = { s with
              ret := t.ret, bankA := t.bankA, bankB := t.bankB, current := t.current, smc := t.smc
              alarms := t.alarms, flags := t.flags, reply := t.reply })
      ∧ (∀ x : Switch, s.ret.enable = x →
          exec (.samplerEnable x) s = .next { s with reply := some ⟨.ok, []⟩ })
      ∧ (s.ret.enable = .off →
          exec (.samplerEnable .on) s
            = .next { { s with
                ret := { s.ret with enable := .on }, smc := { s.smc with state := .ready } }.retainedUpdate with
                reply := some ⟨.ok, []⟩ })
      ∧ (s.ret.enable = .on →
          ∃ t : State, exec (.samplerEnable .off) s = .next t ∧ t.Settled ∧ t.reply = some ⟨.ok, []⟩
            ∧ t.ret.enable = .off ∧ t.ret.selectedCan = s.ret.selectedCan
            ∧ t.smc = { s.smc with
                state := .off, queue := [], haltedCan := none, widthTimer := none, intervalTimer := none
                swapTimer := none, grab := false }
            ∧ (s.smc.queue ≠ [] → s.alarmRaised (.station .samplerMissed) = false →
                (t.alarm (.station .samplerMissed)).state = .returnedUnack)
            ∧ t = { s with
                ret := t.ret, bankA := t.bankA, bankB := t.bankB, current := t.current, smc := t.smc
                archive := t.archive, write := t.write, erase := t.erase, alarms := t.alarms, flags := t.flags
                reply := t.reply }))
    ∧ (∀ u : Moment, s.phase = .running → s.Settled → (s.smc.fullInput c).since = some u →
        ∃ t : State, exec (.canfullChange c) s = .next t
          ∧ (s.smc.state = .halted → (s.smc.fullInput c).raw = false →
              t.smc = { s.smc.setFullInput c ⟨false, false, none⟩ with state := .ready, haltedCan := none }
                ∧ t.alarmRaised (.station .samplerHalted) = false
                ∧ (∀ a : AlarmId, a ≠ .station .samplerHalted → t.alarm a = s.alarm a)
                ∧ (t.alarms = s.alarms → t.flags = s.flags)
                ∧ (t.alarms ≠ s.alarms → t.flags = { s.flags with alarmChanged := true }))
          ∧ (s.smc.state ≠ .halted ∨ (s.smc.fullInput c).raw = true →
              t.smc = s.smc.setFullInput c ⟨(s.smc.fullInput c).raw, (s.smc.fullInput c).raw, none⟩
                ∧ t.alarms = s.alarms ∧ t.flags = s.flags)
          ∧ t = { s with now := max s.now (u + 500000), smc := t.smc, alarms := t.alarms, flags := t.flags })

/-! ### Chapter 9: the archive -/

/-- R174, R175, R180: a good write completion makes the slot VALID, takes the head ticket out of the queue and sets
TICKET_STORED; a bad one makes the slot DEFECTIVE and leaves the ticket QUEUED at the head. Then a write is tried, a
suspended erase resumes if none has started, and reclaim is tested, in this order (what each of the three does is
O55). TICKET ACK makes a VALID ticket RETRIEVED and tests reclaim. Here no ENDING batch is ready to close. -/
def Obligations.WritesAndAcksMoveTickets : Prop :=
  ∀ s : State,
    (∀ (w : WriteInFlight) (p : PendingTicket) (ps : List PendingTicket), s.phase = .running → s.ArchiveSound →
      s.write = some w → s.ret.pendingTickets = p :: ps → (∀ x ∈ s.ret.ending, s.readyToClose x = false) →
      (∃ stored t : State, exec (.writeCompletion true) s = .next t ∧ t.Settled
        ∧ stored = { s with
            archive := { s.archive with
              sectors := s.archive.sectors.set w.sector
                { s.archive.sectors[w.sector] with
                  slots := s.archive.sectors[w.sector].slots.set w.slot (.valid p.ticket) } }
            write := none
            ret := { s.ret with pendingTickets := ps }
            flags := { s.flags with ticketStored := true } }
        ∧ t = stored.tryStartWrite.resumeErase.testReclaim.settle
        ∧ t.archive.slot (w.sector, w.slot) = .valid p.ticket
        ∧ t.ret.pendingTickets.map PendingTicket.ticket = ps.map PendingTicket.ticket
        ∧ t.flags.ticketStored = true
        ∧ (∀ e : EraseInProgress, s.erase = some e → e.since = none →
            t.erase = (if t.write.isSome then some e else some { e with since := some s.now })
            ∧ t.archive.sectors[e.sector].state = (if t.write.isSome then .eraseSuspended else .erasing))
        ∧ t = { s with
            ret := t.ret, bankA := t.bankA, bankB := t.bankB, current := t.current, archive := t.archive
            write := t.write, erase := t.erase, alarms := t.alarms, flags := t.flags })
      ∧ (∃ failed t : State, exec (.writeCompletion false) s = .next t ∧ t.Settled
        ∧ failed = { s with
            archive := { s.archive with
              sectors := s.archive.sectors.set w.sector
                { s.archive.sectors[w.sector] with
                  slots := s.archive.sectors[w.sector].slots.set w.slot .defective } }
            write := none
            ret := { s.ret with pendingTickets := { p with writing := false } :: ps } }
        ∧ t = failed.tryStartWrite.resumeErase.testReclaim.settle
        ∧ t.archive.slot (w.sector, w.slot) = .defective
        ∧ t.ret.pendingTickets.map PendingTicket.ticket = (p :: ps).map PendingTicket.ticket
        ∧ t.flags.ticketStored = s.flags.ticketStored
        ∧ t = { s with
            ret := t.ret, bankA := t.bankA, bankB := t.bankB, current := t.current, archive := t.archive
            write := t.write, erase := t.erase, alarms := t.alarms, flags := t.flags }))
    ∧ (s.Ready →
      exec (.ticketAck 0) s = .next { s with reply := some ⟨.badParam, []⟩ }
      ∧ ∀ n : Nat, n ≠ 0 →
        (∀ (ij : Sector × Sector) (k : Ticket), s.archive.findTicket? n = some ij → s.archive.slot ij = .valid k →
          ∃ t : State, exec (.ticketAck n) s = .next t ∧ t.reply = some ⟨.ok, []⟩
            ∧ t = { State.testReclaim { s with
                archive := { s.archive with
                  sectors := s.archive.sectors.set ij.1
                    { s.archive.sectors[ij.1] with
                      slots := s.archive.sectors[ij.1].slots.set ij.2 (.retrieved k) } } } with
                reply := some ⟨.ok, []⟩ }
            ∧ t.archive.slot ij = .retrieved k
            ∧ (∀ kl : Sector × Sector, kl ≠ ij → t.archive.slot kl = s.archive.slot kl)
            ∧ t = { s with archive := t.archive, erase := t.erase, reply := t.reply })
        ∧ (∀ (ij : Sector × Sector) (k : Ticket), s.archive.findTicket? n = some ij →
          s.archive.slot ij = .retrieved k →
          ∃ t : State, exec (.ticketAck n) s = .next t ∧ t.reply = some ⟨.ok, []⟩
            ∧ t = { s.testReclaim with reply := some ⟨.ok, []⟩ }
            ∧ (∀ kl : Sector × Sector, t.archive.slot kl = s.archive.slot kl)
            ∧ t = { s with archive := t.archive, erase := t.erase, reply := t.reply })
        ∧ (s.archive.findTicket? n = none →
            exec (.ticketAck n) s = .next { s with
              reply := some ⟨if (s.pendingTicket? n).isSome then .notAllowed else .notFound, []⟩ }))

/-- R178: an erase completes: its sector is ERASED with every slot EMPTY, a write is tried, and reclaim is tested.
That the command moves the time base to the end of the erasing time that remained is the model's choice (log entry 3).
R173, R177: trying a write. With a QUEUED ticket at the head and no write in flight, the slot is the lowest EMPTY one
of the OPEN sector, else slot 0 of the first ERASED sector in ring order after the newest, which becomes OPEN with the
open counter's number; it becomes WRITING, its sector the newest, and FULL with its last EMPTY slot; ARCHIVE_FULL is
cleared and a running erase suspended with the time that remains. Without a slot ARCHIVE_FULL is raised and the ticket
stays. A suspended erase resumes where no write is in flight. R176: the reclaim test starts the erase of the oldest
FULL sector, with 1,500 ms, exactly where no erase and no write is in progress, fewer than 2 sectors are ERASED, and
each of its slots is RETRIEVED or DEFECTIVE. -/
def Obligations.EraseCompletionEmptiesTheSector : Prop :=
  (∀ (s : State) (e : EraseInProgress) (u : Moment), s.phase = .running → s.erase = some e → e.since = some u →
      ∃ erased t : State, exec .eraseCompletion s = .next t
        ∧ erased = { s with
            now := max s.now (u + e.remaining)
            archive := { s.archive with
              sectors := s.archive.sectors.set e.sector ⟨.erased, none, Vector.replicate 8 .empty⟩ }
            erase := none }
        ∧ t = erased.tryStartWrite.testReclaim.settle
        ∧ (t.erase ≠ none → erased.tryStartWrite = erased ∨ erased.tryStartWrite.write = none)
        ∧ (t.erase ≠ none → erased.tryStartWrite.archive.erasedCount < 2))
    ∧ (∀ s : State,
      ((s.ret.pendingTickets = [] ∨ s.write ≠ none ∨ s.ret.pendingTickets.head?.any PendingTicket.writing = true) →
        s.tryStartWrite = s)
      ∧ ∀ (p : PendingTicket) (ps : List PendingTicket), s.ret.pendingTickets = p :: ps → p.writing = false →
        s.write = none →
        ((∀ i : Sector, s.archive.sectors[i].state ≠ .opened ∧ s.archive.sectors[i].state ≠ .erased) →
          s.tryStartWrite = s.raiseAlarm (.station .archiveFull))
        ∧ ∀ (i j : Sector) (opens : Bool), s.EraseMatches →
          (opens = false ∧ s.archive.sectors[i].state = .opened
              ∧ (∀ k : Sector, k ≠ i → s.archive.sectors[k].state ≠ .opened)
              ∧ s.archive.slot (i, j) = .empty ∧ (∀ k : Sector, k < j → s.archive.slot (i, k) ≠ .empty)
            ∨ opens = true ∧ j = 0 ∧ s.archive.sectors[i].state = .erased
              ∧ (∀ k : Sector, s.archive.sectors[k].state ≠ .opened)
              ∧ ∃ n : Nat, n < 8 ∧ i = s.archive.newest + 1 + Fin.ofNat 8 n
                ∧ ∀ m : Nat, m < n → s.archive.sectors[s.archive.newest + 1 + Fin.ofNat 8 m].state ≠ .erased) →
          ∃ t : State, s.tryStartWrite = t ∧ t.write = some ⟨i, j⟩
            ∧ t.ret = { s.ret with pendingTickets := ⟨p.ticket, true⟩ :: ps }
            ∧ t.archive = { s.archive with
                sectors := t.archive.sectors, newest := i
                openCounter := (if opens then s.archive.openCounter + 1 else s.archive.openCounter) }
            ∧ t.archive.slot (i, j) = .writing
            ∧ (∀ kl : Sector × Sector, kl ≠ (i, j) → t.archive.slot kl = s.archive.slot kl)
            ∧ t.archive.sectors[i].openNumber
                = (if opens then some s.archive.openCounter else s.archive.sectors[i].openNumber)
            ∧ ((∀ k : Sector, k ≠ j → s.archive.slot (i, k) ≠ .empty) → t.archive.sectors[i].state = .full)
            ∧ (∀ k : Sector, k ≠ j → s.archive.slot (i, k) = .empty → t.archive.sectors[i].state = .opened)
            ∧ (s.erase = none → t.erase = none)
            ∧ (∀ e : EraseInProgress, s.erase = some e → e.sector ≠ i
                ∧ t.archive.sectors[e.sector].state = .eraseSuspended
                ∧ (e.since = none → t.erase = some e)
                ∧ ∀ u : Moment, e.since = some u → t.erase = some ⟨e.sector, e.remaining - (s.now - u), none⟩)
            ∧ (∀ k : Sector, k ≠ i → (∀ e : EraseInProgress, s.erase = some e → e.sector ≠ k) →
                t.archive.sectors[k] = s.archive.sectors[k])
            ∧ t.alarm (.station .archiveFull)
                = (s.clearAlarm (.station .archiveFull)).alarm (.station .archiveFull)
            ∧ t.alarmRaised (.station .archiveFull) = false
            ∧ (∀ a : AlarmId, a ≠ .station .archiveFull → t.alarm a = s.alarm a)
            ∧ t = { s with
                ret := t.ret, archive := t.archive, write := t.write, erase := t.erase, alarms := t.alarms
                flags := t.flags })
    ∧ (∀ s : State,
      (∀ e : EraseInProgress, s.write = none → s.erase = some e → e.since = none →
        s.resumeErase = { s with
          erase := some { e with since := some s.now }
          archive := { s.archive with
            sectors := s.archive.sectors.set e.sector { s.archive.sectors[e.sector] with state := .erasing } } })
      ∧ ((s.write ≠ none ∨ ∀ e : EraseInProgress, s.erase = some e → e.since ≠ none) → s.resumeErase = s))
    ∧ ∀ s : State,
      ((s.erase ≠ none ∨ s.write ≠ none ∨ 2 ≤ allEight.countP (fun i => decide (s.archive.sectors[i].state = .erased))
          ∨ ∀ i : Sector, s.archive.sectors[i].state ≠ .full) → s.testReclaim = s)
      ∧ (∀ (i : Sector) (opened : Counter), s.archive.sectors[i].state = .full →
          s.archive.sectors[i].openNumber = some opened →
          (∀ k : Sector, k ≠ i → s.archive.sectors[k].state = .full →
            ∃ n : Counter, s.archive.sectors[k].openNumber = some n ∧ n ≠ opened ∧ atOrAfter n opened = true) →
          ((∃ j : Sector, (s.archive.slot (i, j)).released = false) → s.testReclaim = s)
          ∧ (s.erase = none → s.write = none →
            allEight.countP (fun i => decide (s.archive.sectors[i].state = .erased)) < 2 →
            (∀ j : Sector, s.archive.slot (i, j) = .defective ∨ ∃ k : Ticket, s.archive.slot (i, j) = .retrieved k) →
            s.testReclaim = { s with
              erase := some ⟨i, 15000000, some s.now⟩
              archive := { s.archive with
                sectors := s.archive.sectors.set i { s.archive.sectors[i] with state := .erasing } } }))
      ∧ (∀ k j : Sector, s.testReclaim.archive.sectors[k].state ≠ s.archive.sectors[k].state →
          s.testReclaim.archive.sectors[k].state = .erasing ∧ s.archive.sectors[k].state = .full
            ∧ ∀ x : Ticket, s.archive.slot (k, j) ≠ .valid x)

/-! ### Chapter 10: alarms, status, the clock and the reads -/

/-- R190: the alarm table of raised and cleared conditions. -/
def Obligations.RaisedAndClearedConditionsMoveTheAlarm : Prop :=
  ∀ (s : State) (a : AlarmId) (f : State → AlarmId → State) (raised : Bool),
    f = (if raised then State.raiseAlarm else State.clearAlarm) →
    ((s.alarm a).state = .normal → raised = true → ((f s a).alarm a) = ⟨.activeUnack, some s.clock⟩)
    ∧ ((s.alarm a).state = .activeUnack → raised = false → ((f s a).alarm a) = ⟨.returnedUnack, some s.clock⟩)
    ∧ ((s.alarm a).state = .activeAck → raised = false → ((f s a).alarm a) = ⟨.normal, some s.clock⟩)
    ∧ ((s.alarm a).state = .returnedUnack → raised = true → ((f s a).alarm a) = ⟨.activeUnack, some s.clock⟩)
    ∧ (((s.alarm a).state = .normal ∧ raised = false ∨ (s.alarm a).state = .activeUnack ∧ raised = true
        ∨ (s.alarm a).state = .activeAck ∧ raised = true ∨ (s.alarm a).state = .returnedUnack ∧ raised = false) →
        f s a = s)
    ∧ ((f s a).alarm a ≠ s.alarm a → (f s a).flags = { s.flags with alarmChanged := true })
    ∧ (∀ b : AlarmId, b ≠ a → (f s a).alarm b = s.alarm b)
    ∧ f s a = { s with alarms := (f s a).alarms, flags := (f s a).flags }

/-- R192, R193, R195 to R197: an acknowledgement changes alarm states and no flag, and leaves no alarm that awaits it;
STATUS hands over the event flags and empties the set, so that ATTN goes inactive; COMMON_ALARM and ATTN stand at
their levels (log entry 25). R52, R100, R215: each output's level is its logical state under its polarity while the
module runs; from an assertion of RESET_N every output stands at its inactive level and TXD idle, whatever was being
sent, until the completion of the start, after which each block drives its own (log entry 23). That the number of
alarms takes two bytes in the reply of ALARM ACK is read from R208 by inference (log entry 22). -/
def Obligations.AcknowledgementAndStatusClearTheirOwn : Prop :=
  (∀ s : State, s.phase = .running → ∀ o : Output, s.level o = (s.logical o != s.params.station.activeLow[o.index]))
    ∧ (∀ (s : State) (strike : Strike), s.resetActive = false →
      ∃ t : State, exec (.resetNAssert strike) s = .next t ∧ t.txd = .idle
        ∧ ∀ o : Output, t.level o = s.params.station.activeLow[o.index])
    ∧ (∀ s : State, s.powered = true → s.resetActive = true → s.phase = .stopped →
      ∃ t u : State, exec .resetNRelease s = .next t ∧ exec .startCompletion t = .next u
        ∧ t.txd = .idle ∧ (∀ o : Output, t.level o = s.params.station.activeLow[o.index])
        ∧ u.txd = .idle
        ∧ (∀ r : Run, u.level (.route r) = s.params.station.activeLow[(Output.route r).index])
        ∧ u.level .proverDir = s.params.station.activeLow[Output.proverDir.index]
        ∧ u.level .grab = s.params.station.activeLow[Output.grab.index]
        ∧ u.level .canSelect
            = (decide (u.ret.selectedCan = .can2) != s.params.station.activeLow[Output.canSelect.index])
        ∧ u.level .slowdown = (u.ret.slowdown != s.params.station.activeLow[Output.slowdown.index])
        ∧ u.level .stop = (u.ret.stop != s.params.station.activeLow[Output.stop.index])
        ∧ u.level .attn = (true != s.params.station.activeLow[Output.attn.index]))
    ∧ ∀ s : State, s.Ready →
      (∃ (t : State) (n : Nat), exec (.alarmAck .all none none) s = .next t
        ∧ (∀ a : AlarmId, (t.alarm a).state = (s.alarm a).state.acknowledged
            ∧ ((t.alarm a).state = (s.alarm a).state → t.alarm a = s.alarm a)
            ∧ ((t.alarm a).state ≠ (s.alarm a).state → (t.alarm a).changed = some s.clock)
            ∧ t.alarmRaised a = s.alarmRaised a)
        ∧ n = allAlarms.countP (fun a => decide ((t.alarm a).state ≠ (s.alarm a).state))
        ∧ t = { s with alarms := t.alarms, reply := some ⟨.ok, [.u16 n]⟩ })
      ∧ (∀ a : AlarmId, exec (.alarmAck .one (some a.name) (a.subject?.map (fun r => r.val + 1))) s
        = .next (if (s.alarm a).state.acknowledged = (s.alarm a).state then { s with reply := some ⟨.ok, [.u16 0]⟩ }
          else { s with
            alarms := s.alarms.set a.index ⟨(s.alarm a).state.acknowledged, some s.clock⟩
            reply := some ⟨.ok, [.u16 1]⟩ }))
      ∧ (∀ a : RunAlarm, exec (.alarmAck .one (some (.run a)) none) s = .next { s with reply := some ⟨.badParam, []⟩ })
      ∧ (∃ (t : State) (fields : List Field), exec .status s = .next t
        ∧ t = { s with flags := .none, reply := some ⟨.ok, .u16 (bitsValue s.flags.bits) :: fields⟩ }
        ∧ t.logical .attn = false)
      ∧ (s.logical .commonAlarm = true ↔ ∃ a : AlarmId, (s.alarm a).state ≠ .normal)
      ∧ (s.logical .attn = true ↔ ∃ f : EventFlag, s.flags.has f = true)

/-- R94, R98, R200: the station clock. SET TIME sets it, marks it set and audits the change, and writes the last-seen
time; each second it advances, holding at its top, with the last-seen time written in one retained update while the
module runs, and alone while the module is stopped. -/
def Obligations.ClockIsSetAndCounts : Prop :=
  ∀ s : State,
    (s.Ready → ∀ n : Nat, n ≤ 4294967295 →
      ∃ t : State, exec (.setTime n) s = .next t ∧ t.Settled ∧ t.clock = n ∧ t.secondFrom = s.now
        ∧ t.ret = { s.ret with clockSet := true, lastSeen := n } ∧ t.current ≠ s.current
        ∧ t.alarmRaised (.station .timeUnset) = false ∧ t.reply = some ⟨.ok, []⟩
        ∧ t.audit = s.audit.write ⟨s.auditNext, s.clock, .timeSet s.clock n⟩ ∧ t.auditNext = s.auditNext + 1
        ∧ t = { s with
            ret := t.ret, bankA := t.bankA, bankB := t.bankB, current := t.current, clock := t.clock
            secondFrom := t.secondFrom, audit := t.audit, auditNext := t.auditNext, alarms := t.alarms
            flags := t.flags, reply := t.reply })
    ∧ (s.phase = .running →
      ∃ t : State, exec .clockSecond s = .next t ∧ t.Settled ∧ t.clock = min 4294967295 (s.clock + 1)
        ∧ t.ret = { s.ret with lastSeen := t.clock } ∧ t.current ≠ s.current
        ∧ t = { s with
            now := max s.now (s.secondFrom + 10000000), secondFrom := s.secondFrom + 10000000, clock := t.clock
            ret := t.ret, bankA := t.bankA, bankB := t.bankB, current := t.current })
    ∧ (s.phase ≠ .running →
      exec .clockSecond s = .next { s with
        now := max s.now (s.secondFrom + 10000000), secondFrom := s.secondFrom + 10000000
        clock := min 4294967295 (s.clock + 1) })

/-- R26, R41, R64, R86, R96, R110, R154, R168, R179, R181, R183, R194, R199: the reading requests answer and change
nothing but the reply; an AUDIT READ returns at most eight entries: from the number asked on if it is in the ring, none
if it lies at or beyond the next number, and otherwise from the oldest on with the mark GAP, with the oldest, newest and
next numbers. FREEZE (R95) copies every total and every batch held into the latch, with the next snapshot number and
the station clock, and changes no total. The layouts of the replies rest on log entries 13, 18 and 22. -/
def Obligations.ReadsAnswerAndChangeNothing : Prop :=
  (∀ s : State, s.Ready →
      (∀ c : Instr,
        ((∃ mark is, c = .readValues mark is) ∨ (∃ n, c = .readSection n) ∨ (∃ n, c = .readRun n)
          ∨ (∃ src part run id, c = .readTotals src part run id) ∨ c = .batchList ∨ c = .readProve
          ∨ c = .readSampler ∨ (∃ n, c = .ticketRead n) ∨ c = .archiveStatus ∨ (∃ n, c = .auditRead n)
          ∨ (∃ b, c = .readAlarms b) ∨ (∃ ps, c = .statusMatch ps)) →
        ∃ reply : Reply, exec c s = .next { s with reply := some reply })
      ∧ exec (.readValues .all []) s
          = .next { s with reply := some ⟨.ok, .u8 12 :: allValues.flatMap s.valueReply⟩ }
      ∧ (∀ ref : SectionRef, exec (.readSection ref.number.val) s = .next { s with reply := some ⟨.ok,
          [.u8 ref.number.val, .u8 (if s.locked ref then 1 else 0), .u16 (sectionDigest s.params ref).toNat]
            ++ sectionContent s.params ref⟩ })
      ∧ (∀ r : Run, exec (.readRun (r.val + 1)) s = .next { s with reply := some ⟨.ok, s.runReply r⟩ })
      ∧ (∀ r : Run, exec (.readTotals .live .run (some (r.val + 1)) none) s = .next { s with reply := some ⟨.ok,
          .u8 0 :: (cumulativeTotalsFields s.ret.runTotals[r] ++ pulseCountFields s.ret.pulseCounts[r])⟩ })
      ∧ (s.snapshot = none →
          exec (.readTotals .snapshot .station none none) s = .next { s with reply := some ⟨.noSnapshot, []⟩ })
      ∧ (∃ fields, exec .batchList s = .next { s with reply := some ⟨.ok, .u8 s.ret.queue.length :: fields⟩ })
      ∧ (∃ fields, exec .readProve s = .next { s with reply := some ⟨.ok, .u8 s.psq.state.code :: fields⟩ })
      ∧ (∃ fields, exec .readSampler s = .next { s with reply := some ⟨.ok,
          .u8 (switchCode s.ret.enable) :: .u8 s.smc.state.code :: fields⟩ })
      ∧ (∀ (n : Nat) (ij : Sector × Sector) (k : Ticket), n ≠ 0 → s.archive.findTicket? n = some ij →
          s.archive.slot ij = .valid k →
          exec (.ticketRead n) s = .next { s with reply := some ⟨.ok,
            [.u8 0, .u8 1, .u8 ij.1.val, .u8 1, .u8 ij.2.val] ++ ticketFields k⟩ })
      ∧ (∃ fields, exec .archiveStatus s = .next { s with reply := some ⟨.ok, archiveFields s.archive ++ fields⟩ })
      ∧ (∀ n : Counter, ∃ (es : List AuditEntry) (gap : Bool), (es, gap) = auditAnswer s.audit.entries n
          ∧ es.length ≤ 8 ∧ es.Sublist s.audit.entries
          ∧ (s.audit.entries = [] → es = [] ∧ gap = false)
          ∧ (∀ first last : AuditEntry, s.audit.entries.head? = some first → s.audit.entries.getLast? = some last →
            (inRing first.seq last.seq n = true → gap = false
              ∧ es = (s.audit.entries.filter (fun e => decide ((n - first.seq).toNat ≤ (e.seq - first.seq).toNat))).take 8)
            ∧ (inRing first.seq last.seq n = false →
              (beyondNewest last.seq n = true → es = [] ∧ gap = false)
              ∧ (beyondNewest last.seq n = false → es = s.audit.entries.take 8 ∧ gap = true)))
          ∧ exec (.auditRead n) s = .next { s with reply := some ⟨.ok,
              .u8 es.length :: es.flatMap auditFields ++ [.u8 (if gap then 1 else 0)]
                ++ (match s.audit.entries.head? with | none => [.u8 0] | some e => [.u8 1, .u32 e.seq.toNat])
                ++ (match s.audit.entries.getLast? with | none => [.u8 0] | some e => [.u8 1, .u32 e.seq.toNat])
                ++ [.u32 s.auditNext.toNat]⟩ })
      ∧ exec (.readAlarms true) s = .next { s with reply := some ⟨.ok, .u8 54 :: allAlarms.flatMap s.alarmReply⟩ }
      ∧ (∀ ps : List MatchPair, ps.length = 8 → exec (.statusMatch ps) s = .next { s with reply := some ⟨.ok,
          [.u8 (bitsValue [pairsMatch ps (s.summaryFlags 0).bits, pairsMatch ps (s.summaryFlags 1).bits,
            pairsMatch ps (s.summaryFlags 2).bits, pairsMatch ps (s.summaryFlags 3).bits])]⟩ }))
    ∧ (∀ s : State, s.Ready →
      exec .freeze s
        = .next { s with
            snapshot := some
              { seq := s.snapshotSeq + 1
                time := s.clock
                runTotals := s.ret.runTotals
                pulseCounts := s.ret.pulseCounts
                station := s.ret.station
                unbatched := s.ret.unbatched
                batches := s.ret.active.toList.map (fun b => (BatchState.active, b))
                  ++ s.ret.ending.map (fun b => (BatchState.ending, b)) }
            snapshotSeq := s.snapshotSeq + 1
            reply := some ⟨.ok, [.u32 (s.snapshotSeq + 1).toNat, .u32 s.clock]⟩ })

/-! ### Chapter 11: the link -/

/-- R203 to R207, R210, R214: characters, the gap timer and the transmitter. A framing error and the gap timer discard
the partial frame; a start byte opens one, and each byte but the last joins it and starts the gap timer again; a
length above 1,024 and a CRC that differs discard it. The last byte of a frame whose CRC agrees: with the restart mark
set the frame is discarded; with the transmitter IDLE it is dispatched, so a reply kind is discarded, a refusal of the
link goes out as a status alone, and a request is taken by its owner, whose reply goes out as one frame; with the
transmitter SENDING it becomes the waiting frame, if there is none. When a reply has left, the transmitter is IDLE or
takes the waiting frame. R204, R210: the bytes of a reply frame. R207, R209, R213: the frame of each of the 39 request
kinds goes to the owner of its command, which the command alone reaches too; that frame cut short or with bytes behind
it has BAD_LENGTH, as has a body of another length for a kind of fixed length, and an empty STAGE ITEM; a byte that
names no member, a run set that names no run or sets an upper bit, and a vessel character outside 20h to 7Eh have
BAD_PARAM. That the gap timer's command moves the time base to its deadline (log entry 3), the numbers of the members
(13) and the presence bytes (16) are the model's choice. -/
def Obligations.LinkTakesFramesAndSendsReplies : Prop :=
  (∀ s : State, s.phase = .running → s.Settled →
      (∀ byte : Byte, exec (.rxCharacter byte false) s
        = .next { s with link := { s.link with framer := .hunt, gapTimer := none } })
      ∧ (s.link.framer = .hunt →
        exec (.rxCharacter 0xA5#8 true) s = .next { s with
          link := { s.link with framer := .receiving [], gapTimer := some (s.now + 200000) } }
        ∧ ∀ byte : Byte, byte ≠ 0xA5#8 → exec (.rxCharacter byte true) s = .next s)
      ∧ (∀ d : Moment, s.link.gapTimer = some d →
        exec .gapTimerExpiry s = .next { s with
          now := max s.now d, link := { s.link with framer := .hunt, gapTimer := none } })
      ∧ (∀ (kind tag : Byte) (crc : List Byte) (owner : Owner) (last : Byte),
        crc ++ [last] = leBytes 2 (crc16 [0#8, 0#8, kind, tag]).toNat →
        s.link.framer = .receiving ([0#8, 0#8, kind, tag] ++ crc) → s.link.restartMark = none →
        s.link.sending = none → judgeFrame ⟨kind, tag, []⟩ = .owner owner →
        ∃ (t u : State) (reply : Reply), exec (.rxCharacter last true) s = .next t
          ∧ owner { s with link := { s.link with framer := .hunt, gapTimer := none } } = (u, reply)
          ∧ t.link.sending = some (replyFrame ⟨kind, tag, []⟩ reply) ∧ t.reply = some reply ∧ t.link.framer = .hunt
          ∧ t.params = u.params ∧ t.ret = u.ret ∧ t.audit = u.audit ∧ t.Settled)
      ∧ (∀ f : Frame,
        (0x80 ≤ f.kind.toNat → judgeFrame f = .discard)
        ∧ (f.kind.toNat < 0x80 → catalogue f.kind.toNat = none → judgeFrame f = .refusal .unknownKind))
      ∧ (∀ (taken : List Byte) (byte : Byte) (n : Nat), s.link.framer = .receiving taken →
        n = ofLe ((taken ++ [byte]).take 2) →
        ((taken = [] ∨ n ≤ 1024 ∧ taken.length + 1 < n + 6) →
          exec (.rxCharacter byte true) s = .next { s with
            link := { s.link with framer := .receiving (taken ++ [byte]), gapTimer := some (s.now + 200000) } })
        ∧ ((taken ≠ [] ∧ 1024 < n
            ∨ taken ≠ [] ∧ n + 6 ≤ taken.length + 1 ∧ ofLe ((taken ++ [byte]).drop (taken.length - 1))
                ≠ (crc16 ((taken ++ [byte]).take (taken.length - 1))).toNat) →
          exec (.rxCharacter byte true) s = .next { s with link := { s.link with framer := .hunt, gapTimer := none } }))
      ∧ (∀ (f : Frame) (crc : List Byte) (last : Byte) (hunting : State),
        f.body.length ≤ 1024 → crc ++ [last]
          = leBytes 2 (crc16 (leBytes 2 f.body.length ++ [f.kind, f.tag] ++ f.body)).toNat →
        s.link.framer = .receiving (leBytes 2 f.body.length ++ [f.kind, f.tag] ++ f.body ++ crc) →
        hunting = { s with link := { s.link with framer := .hunt, gapTimer := none } } →
        (s.link.restartMark ≠ none → exec (.rxCharacter last true) s = .next hunting)
        ∧ (s.link.restartMark = none →
          (s.link.sending ≠ none →
            exec (.rxCharacter last true) s
              = .next { hunting with link := { hunting.link with waiting := some (s.link.waiting.getD f) } })
          ∧ (s.link.sending = none →
            (judgeFrame f = .discard → exec (.rxCharacter last true) s = .next hunting)
            ∧ (∀ st : Status, judgeFrame f = .refusal st → exec (.rxCharacter last true) s = .next { hunting with
                link := { hunting.link with sending := some (replyFrame f ⟨st, []⟩) }, reply := some ⟨st, []⟩ })
            ∧ (∀ owner : Owner, judgeFrame f = .owner owner →
              ∃ (u : State) (reply : Reply), owner hunting = (u, reply)
                ∧ exec (.rxCharacter last true) s = .next ({ u with
                    link := { u.link with sending := some (replyFrame f reply) }, reply := some reply }.settle)))))
      ∧ (s.link.restartMark = none → s.link.waiting = none → s.link.sending ≠ none →
        exec .transmissionComplete s = .next { s with link := { s.link with sending := none } })
      ∧ (∀ f : Frame, s.link.restartMark = none → s.link.sending ≠ none → s.link.waiting = some f →
        judgeFrame f = .refusal .unknownKind →
        exec .transmissionComplete s = .next { s with
          link := { s.link with sending := some (replyFrame f ⟨.unknownKind, []⟩), waiting := none }
          reply := some ⟨.unknownKind, []⟩ })
      ∧ (∀ (f : Frame) (idle : State), s.link.restartMark = none → s.link.sending ≠ none → s.link.waiting = some f →
        idle = { s with link := { s.link with sending := none, waiting := none } } →
        (judgeFrame f = .discard → exec .transmissionComplete s = .next idle)
        ∧ (∀ st : Status, judgeFrame f = .refusal st → exec .transmissionComplete s = .next { idle with
            link := { idle.link with sending := some (replyFrame f ⟨st, []⟩) }, reply := some ⟨st, []⟩ })
        ∧ (∀ owner : Owner, judgeFrame f = .owner owner →
          ∃ (u : State) (reply : Reply), owner idle = (u, reply)
            ∧ exec .transmissionComplete s = .next ({ u with
                link := { u.link with sending := some (replyFrame f reply) }, reply := some reply }.settle))))
    ∧ (∀ (f : Frame) (reply : Reply) (body : List Byte) (n crc : Nat),
      body = BitVec.ofNat 8 reply.status.code :: reply.fields.flatMap Field.bytes → n = body.length →
      crc = (crc16 (BitVec.ofNat 8 n :: BitVec.ofNat 8 (n / 256) :: (f.kind + 0x80#8) :: f.tag :: body)).toNat →
      replyFrame f reply
        = [0xA5#8, BitVec.ofNat 8 n, BitVec.ofNat 8 (n / 256), f.kind + 0x80#8, f.tag] ++ body
          ++ [BitVec.ofNat 8 crc, BitVec.ofNat 8 (crc / 256)])
    ∧ (∀ (c : Instr) (tag : Byte) (f : Frame), requestFrame? tag c = some f → c.wellFormed = true →
      (∀ (dir : Direction), c ≠ .runService noRuns dir) →
      (∀ (kind : SectionKind) (n : Nat), c ≠ .stageOpen kind (some noRuns) n) →
      (∀ rec : BatchRecord, c = .batchQueueAdd rec → vesselPrintable rec.vessel = true) →
      (∃ owner : Owner, judgeFrame f = .owner owner
        ∧ ∀ s : State, s.Ready → exec c s = .next { (owner s).1.settle with reply := some (owner s).2 })
      ∧ ∀ extra : List Byte, extra ≠ [] → (∀ item : List Byte, c ≠ .stageItem item) →
        judgeFrame { f with body := f.body ++ extra } = .refusal .badLength
        ∧ ∀ cut : List Byte, f.body = cut ++ extra → judgeFrame { f with body := cut } = .refusal .badLength)
    ∧ (∀ kind : Nat, kind < 0x80 → ((catalogue kind).isSome = true ↔ ∃ (c : Instr) (f : Frame),
        requestFrame? 0 c = some f ∧ f.kind.toNat = kind))
    ∧ (∀ (kind : Byte) (k : Nat) (tag : Byte) (body : List Byte),
      (kind, k) ∈ ([(0x01, 2), (0x0A, 5), (0x0B, 1), (0x12, 0), (0x13, 0), (0x14, 1), (0x15, 0), (0x16, 1), (0x18, 1),
        (0x20, 0), (0x22, 1), (0x29, 4), (0x2A, 0), (0x2B, 0), (0x2C, 0), (0x2D, 0), (0x30, 1), (0x31, 0), (0x32, 0),
        (0x33, 0), (0x34, 0), (0x38, 1), (0x39, 1), (0x3A, 0), (0x40, 4), (0x41, 4), (0x42, 0), (0x43, 4), (0x48, 0),
        (0x4C, 4)] : List (Byte × Nat)) →
      body.length ≠ k → judgeFrame ⟨kind, tag, body⟩ = .refusal .badLength)
    ∧ (∀ tag : Byte, judgeFrame ⟨0x11, tag, []⟩ = .refusal .badLength)
    ∧ (∀ (tag a b x y : Byte) (value : List Byte), value.length = 4 →
      ((a = 0 ∨ 16 ≤ a.toNat ∨ 2 ≤ b.toNat) → judgeFrame ⟨0x01, tag, [a, b]⟩ = .refusal .badParam)
      ∧ (2 ≤ a.toNat → judgeFrame ⟨0x08, tag, [1, x, a] ++ value⟩ = .refusal .badParam
        ∧ judgeFrame ⟨0x09, tag, [a, 0]⟩ = .refusal .badParam
        ∧ judgeFrame ⟨0x22, tag, [a]⟩ = .refusal .badParam
        ∧ judgeFrame ⟨0x39, tag, [a]⟩ = .refusal .badParam
        ∧ judgeFrame ⟨0x4A, tag, [a, 0, 0]⟩ = .refusal .badParam
        ∧ judgeFrame ⟨0x4B, tag, [a]⟩ = .refusal .badParam)
      ∧ (6 ≤ a.toNat → judgeFrame ⟨0x10, tag, [a, 0, x]⟩ = .refusal .badParam)
      ∧ ((a = 0 ∨ 16 ≤ a.toNat) → judgeFrame ⟨0x10, tag, [x, 1, a, y]⟩ = .refusal .badParam)
      ∧ ((2 ≤ a.toNat ∨ 3 ≤ b.toNat) → judgeFrame ⟨0x21, tag, [a, b, 0, 0]⟩ = .refusal .badParam)
      ∧ ((2 ≤ a.toNat ∨ 2 ≤ b.toNat) → judgeFrame ⟨0x49, tag, [1, a, b]⟩ = .refusal .badParam)
      ∧ (24 ≤ a.toNat → judgeFrame ⟨0x4A, tag, [x, 1, a, 0]⟩ = .refusal .badParam)
      ∧ (1 ≤ a.toNat → judgeFrame ⟨0x4B, tag, [1, a]⟩ = .refusal .badParam))
    ∧ ∀ (rec : BatchRecord) (tag : Byte) (f : Frame), requestFrame? tag (.batchQueueAdd rec) = some f →
      (Instr.batchQueueAdd rec).wellFormed = true → vesselPrintable rec.vessel = false →
      judgeFrame f = .refusal .badParam
end

