-- ==== Sys2Proof/Laws/State.lean ====
section
/-! SUPPORT. The lemmas of the named updates of State: one for each field of each update, true by definition, so that no
later proof unfolds a record update. -/

namespace Sys2Proof.Machine

section Updates

variable (s : State)

/-! ### State.modRun -/

@[simp] theorem State.modRun_now (r : Run) (f : RunPulse → RunPulse) : (s.modRun r f).now = s.now := rfl
@[simp] theorem State.modRun_phase (r : Run) (f : RunPulse → RunPulse) : (s.modRun r f).phase = s.phase := rfl
@[simp] theorem State.modRun_powered (r : Run) (f : RunPulse → RunPulse) : (s.modRun r f).powered = s.powered := rfl
@[simp] theorem State.modRun_resetActive (r : Run) (f : RunPulse → RunPulse) : (s.modRun r f).resetActive = s.resetActive := rfl
@[simp] theorem State.modRun_ret (r : Run) (f : RunPulse → RunPulse) : (s.modRun r f).ret = s.ret := rfl
@[simp] theorem State.modRun_bankA (r : Run) (f : RunPulse → RunPulse) : (s.modRun r f).bankA = s.bankA := rfl
@[simp] theorem State.modRun_bankB (r : Run) (f : RunPulse → RunPulse) : (s.modRun r f).bankB = s.bankB := rfl
@[simp] theorem State.modRun_current (r : Run) (f : RunPulse → RunPulse) : (s.modRun r f).current = s.current := rfl
@[simp] theorem State.modRun_clock (r : Run) (f : RunPulse → RunPulse) : (s.modRun r f).clock = s.clock := rfl
@[simp] theorem State.modRun_secondFrom (r : Run) (f : RunPulse → RunPulse) : (s.modRun r f).secondFrom = s.secondFrom := rfl
@[simp] theorem State.modRun_params (r : Run) (f : RunPulse → RunPulse) : (s.modRun r f).params = s.params := rfl
@[simp] theorem State.modRun_locks (r : Run) (f : RunPulse → RunPulse) : (s.modRun r f).locks = s.locks := rfl
@[simp] theorem State.modRun_recordedSeal (r : Run) (f : RunPulse → RunPulse) : (s.modRun r f).recordedSeal = s.recordedSeal := rfl
@[simp] theorem State.modRun_sealInput (r : Run) (f : RunPulse → RunPulse) : (s.modRun r f).sealInput = s.sealInput := rfl
@[simp] theorem State.modRun_staging (r : Run) (f : RunPulse → RunPulse) : (s.modRun r f).staging = s.staging := rfl
@[simp] theorem State.modRun_pulses (r : Run) (f : RunPulse → RunPulse) : (s.modRun r f).pulses = modAt s.pulses r f := rfl
@[simp] theorem State.modRun_cen (r : Run) (f : RunPulse → RunPulse) : (s.modRun r f).cen = s.cen := rfl
@[simp] theorem State.modRun_values (r : Run) (f : RunPulse → RunPulse) : (s.modRun r f).values = s.values := rfl
@[simp] theorem State.modRun_snapshot (r : Run) (f : RunPulse → RunPulse) : (s.modRun r f).snapshot = s.snapshot := rfl
@[simp] theorem State.modRun_snapshotSeq (r : Run) (f : RunPulse → RunPulse) : (s.modRun r f).snapshotSeq = s.snapshotSeq := rfl
@[simp] theorem State.modRun_psq (r : Run) (f : RunPulse → RunPulse) : (s.modRun r f).psq = s.psq := rfl
@[simp] theorem State.modRun_smc (r : Run) (f : RunPulse → RunPulse) : (s.modRun r f).smc = s.smc := rfl
@[simp] theorem State.modRun_archive (r : Run) (f : RunPulse → RunPulse) : (s.modRun r f).archive = s.archive := rfl
@[simp] theorem State.modRun_write (r : Run) (f : RunPulse → RunPulse) : (s.modRun r f).write = s.write := rfl
@[simp] theorem State.modRun_erase (r : Run) (f : RunPulse → RunPulse) : (s.modRun r f).erase = s.erase := rfl
@[simp] theorem State.modRun_audit (r : Run) (f : RunPulse → RunPulse) : (s.modRun r f).audit = s.audit := rfl
@[simp] theorem State.modRun_auditNext (r : Run) (f : RunPulse → RunPulse) : (s.modRun r f).auditNext = s.auditNext := rfl
@[simp] theorem State.modRun_alarms (r : Run) (f : RunPulse → RunPulse) : (s.modRun r f).alarms = s.alarms := rfl
@[simp] theorem State.modRun_flags (r : Run) (f : RunPulse → RunPulse) : (s.modRun r f).flags = s.flags := rfl
@[simp] theorem State.modRun_link (r : Run) (f : RunPulse → RunPulse) : (s.modRun r f).link = s.link := rfl
@[simp] theorem State.modRun_reply (r : Run) (f : RunPulse → RunPulse) : (s.modRun r f).reply = s.reply := rfl
@[simp] theorem State.modRun_pending (r : Run) (f : RunPulse → RunPulse) : (s.modRun r f).pending = s.pending := rfl

/-! ### State.modCen -/

@[simp] theorem State.modCen_now (r : Run) (f : RunCorrection → RunCorrection) : (s.modCen r f).now = s.now := rfl
@[simp] theorem State.modCen_phase (r : Run) (f : RunCorrection → RunCorrection) : (s.modCen r f).phase = s.phase := rfl
@[simp] theorem State.modCen_powered (r : Run) (f : RunCorrection → RunCorrection) : (s.modCen r f).powered = s.powered := rfl
@[simp] theorem State.modCen_resetActive (r : Run) (f : RunCorrection → RunCorrection) : (s.modCen r f).resetActive = s.resetActive := rfl
@[simp] theorem State.modCen_ret (r : Run) (f : RunCorrection → RunCorrection) : (s.modCen r f).ret = s.ret := rfl
@[simp] theorem State.modCen_bankA (r : Run) (f : RunCorrection → RunCorrection) : (s.modCen r f).bankA = s.bankA := rfl
@[simp] theorem State.modCen_bankB (r : Run) (f : RunCorrection → RunCorrection) : (s.modCen r f).bankB = s.bankB := rfl
@[simp] theorem State.modCen_current (r : Run) (f : RunCorrection → RunCorrection) : (s.modCen r f).current = s.current := rfl
@[simp] theorem State.modCen_clock (r : Run) (f : RunCorrection → RunCorrection) : (s.modCen r f).clock = s.clock := rfl
@[simp] theorem State.modCen_secondFrom (r : Run) (f : RunCorrection → RunCorrection) : (s.modCen r f).secondFrom = s.secondFrom := rfl
@[simp] theorem State.modCen_params (r : Run) (f : RunCorrection → RunCorrection) : (s.modCen r f).params = s.params := rfl
@[simp] theorem State.modCen_locks (r : Run) (f : RunCorrection → RunCorrection) : (s.modCen r f).locks = s.locks := rfl
@[simp] theorem State.modCen_recordedSeal (r : Run) (f : RunCorrection → RunCorrection) : (s.modCen r f).recordedSeal = s.recordedSeal := rfl
@[simp] theorem State.modCen_sealInput (r : Run) (f : RunCorrection → RunCorrection) : (s.modCen r f).sealInput = s.sealInput := rfl
@[simp] theorem State.modCen_staging (r : Run) (f : RunCorrection → RunCorrection) : (s.modCen r f).staging = s.staging := rfl
@[simp] theorem State.modCen_pulses (r : Run) (f : RunCorrection → RunCorrection) : (s.modCen r f).pulses = s.pulses := rfl
@[simp] theorem State.modCen_cen (r : Run) (f : RunCorrection → RunCorrection) : (s.modCen r f).cen = modAt s.cen r f := rfl
@[simp] theorem State.modCen_values (r : Run) (f : RunCorrection → RunCorrection) : (s.modCen r f).values = s.values := rfl
@[simp] theorem State.modCen_snapshot (r : Run) (f : RunCorrection → RunCorrection) : (s.modCen r f).snapshot = s.snapshot := rfl
@[simp] theorem State.modCen_snapshotSeq (r : Run) (f : RunCorrection → RunCorrection) : (s.modCen r f).snapshotSeq = s.snapshotSeq := rfl
@[simp] theorem State.modCen_psq (r : Run) (f : RunCorrection → RunCorrection) : (s.modCen r f).psq = s.psq := rfl
@[simp] theorem State.modCen_smc (r : Run) (f : RunCorrection → RunCorrection) : (s.modCen r f).smc = s.smc := rfl
@[simp] theorem State.modCen_archive (r : Run) (f : RunCorrection → RunCorrection) : (s.modCen r f).archive = s.archive := rfl
@[simp] theorem State.modCen_write (r : Run) (f : RunCorrection → RunCorrection) : (s.modCen r f).write = s.write := rfl
@[simp] theorem State.modCen_erase (r : Run) (f : RunCorrection → RunCorrection) : (s.modCen r f).erase = s.erase := rfl
@[simp] theorem State.modCen_audit (r : Run) (f : RunCorrection → RunCorrection) : (s.modCen r f).audit = s.audit := rfl
@[simp] theorem State.modCen_auditNext (r : Run) (f : RunCorrection → RunCorrection) : (s.modCen r f).auditNext = s.auditNext := rfl
@[simp] theorem State.modCen_alarms (r : Run) (f : RunCorrection → RunCorrection) : (s.modCen r f).alarms = s.alarms := rfl
@[simp] theorem State.modCen_flags (r : Run) (f : RunCorrection → RunCorrection) : (s.modCen r f).flags = s.flags := rfl
@[simp] theorem State.modCen_link (r : Run) (f : RunCorrection → RunCorrection) : (s.modCen r f).link = s.link := rfl
@[simp] theorem State.modCen_reply (r : Run) (f : RunCorrection → RunCorrection) : (s.modCen r f).reply = s.reply := rfl
@[simp] theorem State.modCen_pending (r : Run) (f : RunCorrection → RunCorrection) : (s.modCen r f).pending = s.pending := rfl

/-! ### State.modPsq -/

@[simp] theorem State.modPsq_now (f : ProverSeq → ProverSeq) : (s.modPsq f).now = s.now := rfl
@[simp] theorem State.modPsq_phase (f : ProverSeq → ProverSeq) : (s.modPsq f).phase = s.phase := rfl
@[simp] theorem State.modPsq_powered (f : ProverSeq → ProverSeq) : (s.modPsq f).powered = s.powered := rfl
@[simp] theorem State.modPsq_resetActive (f : ProverSeq → ProverSeq) : (s.modPsq f).resetActive = s.resetActive := rfl
@[simp] theorem State.modPsq_ret (f : ProverSeq → ProverSeq) : (s.modPsq f).ret = s.ret := rfl
@[simp] theorem State.modPsq_bankA (f : ProverSeq → ProverSeq) : (s.modPsq f).bankA = s.bankA := rfl
@[simp] theorem State.modPsq_bankB (f : ProverSeq → ProverSeq) : (s.modPsq f).bankB = s.bankB := rfl
@[simp] theorem State.modPsq_current (f : ProverSeq → ProverSeq) : (s.modPsq f).current = s.current := rfl
@[simp] theorem State.modPsq_clock (f : ProverSeq → ProverSeq) : (s.modPsq f).clock = s.clock := rfl
@[simp] theorem State.modPsq_secondFrom (f : ProverSeq → ProverSeq) : (s.modPsq f).secondFrom = s.secondFrom := rfl
@[simp] theorem State.modPsq_params (f : ProverSeq → ProverSeq) : (s.modPsq f).params = s.params := rfl
@[simp] theorem State.modPsq_locks (f : ProverSeq → ProverSeq) : (s.modPsq f).locks = s.locks := rfl
@[simp] theorem State.modPsq_recordedSeal (f : ProverSeq → ProverSeq) : (s.modPsq f).recordedSeal = s.recordedSeal := rfl
@[simp] theorem State.modPsq_sealInput (f : ProverSeq → ProverSeq) : (s.modPsq f).sealInput = s.sealInput := rfl
@[simp] theorem State.modPsq_staging (f : ProverSeq → ProverSeq) : (s.modPsq f).staging = s.staging := rfl
@[simp] theorem State.modPsq_pulses (f : ProverSeq → ProverSeq) : (s.modPsq f).pulses = s.pulses := rfl
@[simp] theorem State.modPsq_cen (f : ProverSeq → ProverSeq) : (s.modPsq f).cen = s.cen := rfl
@[simp] theorem State.modPsq_values (f : ProverSeq → ProverSeq) : (s.modPsq f).values = s.values := rfl
@[simp] theorem State.modPsq_snapshot (f : ProverSeq → ProverSeq) : (s.modPsq f).snapshot = s.snapshot := rfl
@[simp] theorem State.modPsq_snapshotSeq (f : ProverSeq → ProverSeq) : (s.modPsq f).snapshotSeq = s.snapshotSeq := rfl
@[simp] theorem State.modPsq_psq (f : ProverSeq → ProverSeq) : (s.modPsq f).psq = f s.psq := rfl
@[simp] theorem State.modPsq_smc (f : ProverSeq → ProverSeq) : (s.modPsq f).smc = s.smc := rfl
@[simp] theorem State.modPsq_archive (f : ProverSeq → ProverSeq) : (s.modPsq f).archive = s.archive := rfl
@[simp] theorem State.modPsq_write (f : ProverSeq → ProverSeq) : (s.modPsq f).write = s.write := rfl
@[simp] theorem State.modPsq_erase (f : ProverSeq → ProverSeq) : (s.modPsq f).erase = s.erase := rfl
@[simp] theorem State.modPsq_audit (f : ProverSeq → ProverSeq) : (s.modPsq f).audit = s.audit := rfl
@[simp] theorem State.modPsq_auditNext (f : ProverSeq → ProverSeq) : (s.modPsq f).auditNext = s.auditNext := rfl
@[simp] theorem State.modPsq_alarms (f : ProverSeq → ProverSeq) : (s.modPsq f).alarms = s.alarms := rfl
@[simp] theorem State.modPsq_flags (f : ProverSeq → ProverSeq) : (s.modPsq f).flags = s.flags := rfl
@[simp] theorem State.modPsq_link (f : ProverSeq → ProverSeq) : (s.modPsq f).link = s.link := rfl
@[simp] theorem State.modPsq_reply (f : ProverSeq → ProverSeq) : (s.modPsq f).reply = s.reply := rfl
@[simp] theorem State.modPsq_pending (f : ProverSeq → ProverSeq) : (s.modPsq f).pending = s.pending := rfl

/-! ### State.modSmc -/

@[simp] theorem State.modSmc_now (f : Sampler → Sampler) : (s.modSmc f).now = s.now := rfl
@[simp] theorem State.modSmc_phase (f : Sampler → Sampler) : (s.modSmc f).phase = s.phase := rfl
@[simp] theorem State.modSmc_powered (f : Sampler → Sampler) : (s.modSmc f).powered = s.powered := rfl
@[simp] theorem State.modSmc_resetActive (f : Sampler → Sampler) : (s.modSmc f).resetActive = s.resetActive := rfl
@[simp] theorem State.modSmc_ret (f : Sampler → Sampler) : (s.modSmc f).ret = s.ret := rfl
@[simp] theorem State.modSmc_bankA (f : Sampler → Sampler) : (s.modSmc f).bankA = s.bankA := rfl
@[simp] theorem State.modSmc_bankB (f : Sampler → Sampler) : (s.modSmc f).bankB = s.bankB := rfl
@[simp] theorem State.modSmc_current (f : Sampler → Sampler) : (s.modSmc f).current = s.current := rfl
@[simp] theorem State.modSmc_clock (f : Sampler → Sampler) : (s.modSmc f).clock = s.clock := rfl
@[simp] theorem State.modSmc_secondFrom (f : Sampler → Sampler) : (s.modSmc f).secondFrom = s.secondFrom := rfl
@[simp] theorem State.modSmc_params (f : Sampler → Sampler) : (s.modSmc f).params = s.params := rfl
@[simp] theorem State.modSmc_locks (f : Sampler → Sampler) : (s.modSmc f).locks = s.locks := rfl
@[simp] theorem State.modSmc_recordedSeal (f : Sampler → Sampler) : (s.modSmc f).recordedSeal = s.recordedSeal := rfl
@[simp] theorem State.modSmc_sealInput (f : Sampler → Sampler) : (s.modSmc f).sealInput = s.sealInput := rfl
@[simp] theorem State.modSmc_staging (f : Sampler → Sampler) : (s.modSmc f).staging = s.staging := rfl
@[simp] theorem State.modSmc_pulses (f : Sampler → Sampler) : (s.modSmc f).pulses = s.pulses := rfl
@[simp] theorem State.modSmc_cen (f : Sampler → Sampler) : (s.modSmc f).cen = s.cen := rfl
@[simp] theorem State.modSmc_values (f : Sampler → Sampler) : (s.modSmc f).values = s.values := rfl
@[simp] theorem State.modSmc_snapshot (f : Sampler → Sampler) : (s.modSmc f).snapshot = s.snapshot := rfl
@[simp] theorem State.modSmc_snapshotSeq (f : Sampler → Sampler) : (s.modSmc f).snapshotSeq = s.snapshotSeq := rfl
@[simp] theorem State.modSmc_psq (f : Sampler → Sampler) : (s.modSmc f).psq = s.psq := rfl
@[simp] theorem State.modSmc_smc (f : Sampler → Sampler) : (s.modSmc f).smc = f s.smc := rfl
@[simp] theorem State.modSmc_archive (f : Sampler → Sampler) : (s.modSmc f).archive = s.archive := rfl
@[simp] theorem State.modSmc_write (f : Sampler → Sampler) : (s.modSmc f).write = s.write := rfl
@[simp] theorem State.modSmc_erase (f : Sampler → Sampler) : (s.modSmc f).erase = s.erase := rfl
@[simp] theorem State.modSmc_audit (f : Sampler → Sampler) : (s.modSmc f).audit = s.audit := rfl
@[simp] theorem State.modSmc_auditNext (f : Sampler → Sampler) : (s.modSmc f).auditNext = s.auditNext := rfl
@[simp] theorem State.modSmc_alarms (f : Sampler → Sampler) : (s.modSmc f).alarms = s.alarms := rfl
@[simp] theorem State.modSmc_flags (f : Sampler → Sampler) : (s.modSmc f).flags = s.flags := rfl
@[simp] theorem State.modSmc_link (f : Sampler → Sampler) : (s.modSmc f).link = s.link := rfl
@[simp] theorem State.modSmc_reply (f : Sampler → Sampler) : (s.modSmc f).reply = s.reply := rfl
@[simp] theorem State.modSmc_pending (f : Sampler → Sampler) : (s.modSmc f).pending = s.pending := rfl

/-! ### State.modRet -/

@[simp] theorem State.modRet_now (f : Retained → Retained) : (s.modRet f).now = s.now := rfl
@[simp] theorem State.modRet_phase (f : Retained → Retained) : (s.modRet f).phase = s.phase := rfl
@[simp] theorem State.modRet_powered (f : Retained → Retained) : (s.modRet f).powered = s.powered := rfl
@[simp] theorem State.modRet_resetActive (f : Retained → Retained) : (s.modRet f).resetActive = s.resetActive := rfl
@[simp] theorem State.modRet_ret (f : Retained → Retained) : (s.modRet f).ret = f s.ret := rfl
@[simp] theorem State.modRet_bankA (f : Retained → Retained) : (s.modRet f).bankA = s.bankA := rfl
@[simp] theorem State.modRet_bankB (f : Retained → Retained) : (s.modRet f).bankB = s.bankB := rfl
@[simp] theorem State.modRet_current (f : Retained → Retained) : (s.modRet f).current = s.current := rfl
@[simp] theorem State.modRet_clock (f : Retained → Retained) : (s.modRet f).clock = s.clock := rfl
@[simp] theorem State.modRet_secondFrom (f : Retained → Retained) : (s.modRet f).secondFrom = s.secondFrom := rfl
@[simp] theorem State.modRet_params (f : Retained → Retained) : (s.modRet f).params = s.params := rfl
@[simp] theorem State.modRet_locks (f : Retained → Retained) : (s.modRet f).locks = s.locks := rfl
@[simp] theorem State.modRet_recordedSeal (f : Retained → Retained) : (s.modRet f).recordedSeal = s.recordedSeal := rfl
@[simp] theorem State.modRet_sealInput (f : Retained → Retained) : (s.modRet f).sealInput = s.sealInput := rfl
@[simp] theorem State.modRet_staging (f : Retained → Retained) : (s.modRet f).staging = s.staging := rfl
@[simp] theorem State.modRet_pulses (f : Retained → Retained) : (s.modRet f).pulses = s.pulses := rfl
@[simp] theorem State.modRet_cen (f : Retained → Retained) : (s.modRet f).cen = s.cen := rfl
@[simp] theorem State.modRet_values (f : Retained → Retained) : (s.modRet f).values = s.values := rfl
@[simp] theorem State.modRet_snapshot (f : Retained → Retained) : (s.modRet f).snapshot = s.snapshot := rfl
@[simp] theorem State.modRet_snapshotSeq (f : Retained → Retained) : (s.modRet f).snapshotSeq = s.snapshotSeq := rfl
@[simp] theorem State.modRet_psq (f : Retained → Retained) : (s.modRet f).psq = s.psq := rfl
@[simp] theorem State.modRet_smc (f : Retained → Retained) : (s.modRet f).smc = s.smc := rfl
@[simp] theorem State.modRet_archive (f : Retained → Retained) : (s.modRet f).archive = s.archive := rfl
@[simp] theorem State.modRet_write (f : Retained → Retained) : (s.modRet f).write = s.write := rfl
@[simp] theorem State.modRet_erase (f : Retained → Retained) : (s.modRet f).erase = s.erase := rfl
@[simp] theorem State.modRet_audit (f : Retained → Retained) : (s.modRet f).audit = s.audit := rfl
@[simp] theorem State.modRet_auditNext (f : Retained → Retained) : (s.modRet f).auditNext = s.auditNext := rfl
@[simp] theorem State.modRet_alarms (f : Retained → Retained) : (s.modRet f).alarms = s.alarms := rfl
@[simp] theorem State.modRet_flags (f : Retained → Retained) : (s.modRet f).flags = s.flags := rfl
@[simp] theorem State.modRet_link (f : Retained → Retained) : (s.modRet f).link = s.link := rfl
@[simp] theorem State.modRet_reply (f : Retained → Retained) : (s.modRet f).reply = s.reply := rfl
@[simp] theorem State.modRet_pending (f : Retained → Retained) : (s.modRet f).pending = s.pending := rfl

/-! ### State.modArchive -/

@[simp] theorem State.modArchive_now (f : Archive → Archive) : (s.modArchive f).now = s.now := rfl
@[simp] theorem State.modArchive_phase (f : Archive → Archive) : (s.modArchive f).phase = s.phase := rfl
@[simp] theorem State.modArchive_powered (f : Archive → Archive) : (s.modArchive f).powered = s.powered := rfl
@[simp] theorem State.modArchive_resetActive (f : Archive → Archive) : (s.modArchive f).resetActive = s.resetActive := rfl
@[simp] theorem State.modArchive_ret (f : Archive → Archive) : (s.modArchive f).ret = s.ret := rfl
@[simp] theorem State.modArchive_bankA (f : Archive → Archive) : (s.modArchive f).bankA = s.bankA := rfl
@[simp] theorem State.modArchive_bankB (f : Archive → Archive) : (s.modArchive f).bankB = s.bankB := rfl
@[simp] theorem State.modArchive_current (f : Archive → Archive) : (s.modArchive f).current = s.current := rfl
@[simp] theorem State.modArchive_clock (f : Archive → Archive) : (s.modArchive f).clock = s.clock := rfl
@[simp] theorem State.modArchive_secondFrom (f : Archive → Archive) : (s.modArchive f).secondFrom = s.secondFrom := rfl
@[simp] theorem State.modArchive_params (f : Archive → Archive) : (s.modArchive f).params = s.params := rfl
@[simp] theorem State.modArchive_locks (f : Archive → Archive) : (s.modArchive f).locks = s.locks := rfl
@[simp] theorem State.modArchive_recordedSeal (f : Archive → Archive) : (s.modArchive f).recordedSeal = s.recordedSeal := rfl
@[simp] theorem State.modArchive_sealInput (f : Archive → Archive) : (s.modArchive f).sealInput = s.sealInput := rfl
@[simp] theorem State.modArchive_staging (f : Archive → Archive) : (s.modArchive f).staging = s.staging := rfl
@[simp] theorem State.modArchive_pulses (f : Archive → Archive) : (s.modArchive f).pulses = s.pulses := rfl
@[simp] theorem State.modArchive_cen (f : Archive → Archive) : (s.modArchive f).cen = s.cen := rfl
@[simp] theorem State.modArchive_values (f : Archive → Archive) : (s.modArchive f).values = s.values := rfl
@[simp] theorem State.modArchive_snapshot (f : Archive → Archive) : (s.modArchive f).snapshot = s.snapshot := rfl
@[simp] theorem State.modArchive_snapshotSeq (f : Archive → Archive) : (s.modArchive f).snapshotSeq = s.snapshotSeq := rfl
@[simp] theorem State.modArchive_psq (f : Archive → Archive) : (s.modArchive f).psq = s.psq := rfl
@[simp] theorem State.modArchive_smc (f : Archive → Archive) : (s.modArchive f).smc = s.smc := rfl
@[simp] theorem State.modArchive_archive (f : Archive → Archive) : (s.modArchive f).archive = f s.archive := rfl
@[simp] theorem State.modArchive_write (f : Archive → Archive) : (s.modArchive f).write = s.write := rfl
@[simp] theorem State.modArchive_erase (f : Archive → Archive) : (s.modArchive f).erase = s.erase := rfl
@[simp] theorem State.modArchive_audit (f : Archive → Archive) : (s.modArchive f).audit = s.audit := rfl
@[simp] theorem State.modArchive_auditNext (f : Archive → Archive) : (s.modArchive f).auditNext = s.auditNext := rfl
@[simp] theorem State.modArchive_alarms (f : Archive → Archive) : (s.modArchive f).alarms = s.alarms := rfl
@[simp] theorem State.modArchive_flags (f : Archive → Archive) : (s.modArchive f).flags = s.flags := rfl
@[simp] theorem State.modArchive_link (f : Archive → Archive) : (s.modArchive f).link = s.link := rfl
@[simp] theorem State.modArchive_reply (f : Archive → Archive) : (s.modArchive f).reply = s.reply := rfl
@[simp] theorem State.modArchive_pending (f : Archive → Archive) : (s.modArchive f).pending = s.pending := rfl

/-! ### State.atMoment -/

@[simp] theorem State.atMoment_now (d : Moment) : (s.atMoment d).now = max s.now d := rfl
@[simp] theorem State.atMoment_phase (d : Moment) : (s.atMoment d).phase = s.phase := rfl
@[simp] theorem State.atMoment_powered (d : Moment) : (s.atMoment d).powered = s.powered := rfl
@[simp] theorem State.atMoment_resetActive (d : Moment) : (s.atMoment d).resetActive = s.resetActive := rfl
@[simp] theorem State.atMoment_ret (d : Moment) : (s.atMoment d).ret = s.ret := rfl
@[simp] theorem State.atMoment_bankA (d : Moment) : (s.atMoment d).bankA = s.bankA := rfl
@[simp] theorem State.atMoment_bankB (d : Moment) : (s.atMoment d).bankB = s.bankB := rfl
@[simp] theorem State.atMoment_current (d : Moment) : (s.atMoment d).current = s.current := rfl
@[simp] theorem State.atMoment_clock (d : Moment) : (s.atMoment d).clock = s.clock := rfl
@[simp] theorem State.atMoment_secondFrom (d : Moment) : (s.atMoment d).secondFrom = s.secondFrom := rfl
@[simp] theorem State.atMoment_params (d : Moment) : (s.atMoment d).params = s.params := rfl
@[simp] theorem State.atMoment_locks (d : Moment) : (s.atMoment d).locks = s.locks := rfl
@[simp] theorem State.atMoment_recordedSeal (d : Moment) : (s.atMoment d).recordedSeal = s.recordedSeal := rfl
@[simp] theorem State.atMoment_sealInput (d : Moment) : (s.atMoment d).sealInput = s.sealInput := rfl
@[simp] theorem State.atMoment_staging (d : Moment) : (s.atMoment d).staging = s.staging := rfl
@[simp] theorem State.atMoment_pulses (d : Moment) : (s.atMoment d).pulses = s.pulses := rfl
@[simp] theorem State.atMoment_cen (d : Moment) : (s.atMoment d).cen = s.cen := rfl
@[simp] theorem State.atMoment_values (d : Moment) : (s.atMoment d).values = s.values := rfl
@[simp] theorem State.atMoment_snapshot (d : Moment) : (s.atMoment d).snapshot = s.snapshot := rfl
@[simp] theorem State.atMoment_snapshotSeq (d : Moment) : (s.atMoment d).snapshotSeq = s.snapshotSeq := rfl
@[simp] theorem State.atMoment_psq (d : Moment) : (s.atMoment d).psq = s.psq := rfl
@[simp] theorem State.atMoment_smc (d : Moment) : (s.atMoment d).smc = s.smc := rfl
@[simp] theorem State.atMoment_archive (d : Moment) : (s.atMoment d).archive = s.archive := rfl
@[simp] theorem State.atMoment_write (d : Moment) : (s.atMoment d).write = s.write := rfl
@[simp] theorem State.atMoment_erase (d : Moment) : (s.atMoment d).erase = s.erase := rfl
@[simp] theorem State.atMoment_audit (d : Moment) : (s.atMoment d).audit = s.audit := rfl
@[simp] theorem State.atMoment_auditNext (d : Moment) : (s.atMoment d).auditNext = s.auditNext := rfl
@[simp] theorem State.atMoment_alarms (d : Moment) : (s.atMoment d).alarms = s.alarms := rfl
@[simp] theorem State.atMoment_flags (d : Moment) : (s.atMoment d).flags = s.flags := rfl
@[simp] theorem State.atMoment_link (d : Moment) : (s.atMoment d).link = s.link := rfl
@[simp] theorem State.atMoment_reply (d : Moment) : (s.atMoment d).reply = s.reply := rfl
@[simp] theorem State.atMoment_pending (d : Moment) : (s.atMoment d).pending = s.pending := rfl

/-! ### State.addFlag -/

@[simp] theorem State.addFlag_now (x : EventFlag) : (s.addFlag x).now = s.now := rfl
@[simp] theorem State.addFlag_phase (x : EventFlag) : (s.addFlag x).phase = s.phase := rfl
@[simp] theorem State.addFlag_powered (x : EventFlag) : (s.addFlag x).powered = s.powered := rfl
@[simp] theorem State.addFlag_resetActive (x : EventFlag) : (s.addFlag x).resetActive = s.resetActive := rfl
@[simp] theorem State.addFlag_ret (x : EventFlag) : (s.addFlag x).ret = s.ret := rfl
@[simp] theorem State.addFlag_bankA (x : EventFlag) : (s.addFlag x).bankA = s.bankA := rfl
@[simp] theorem State.addFlag_bankB (x : EventFlag) : (s.addFlag x).bankB = s.bankB := rfl
@[simp] theorem State.addFlag_current (x : EventFlag) : (s.addFlag x).current = s.current := rfl
@[simp] theorem State.addFlag_clock (x : EventFlag) : (s.addFlag x).clock = s.clock := rfl
@[simp] theorem State.addFlag_secondFrom (x : EventFlag) : (s.addFlag x).secondFrom = s.secondFrom := rfl
@[simp] theorem State.addFlag_params (x : EventFlag) : (s.addFlag x).params = s.params := rfl
@[simp] theorem State.addFlag_locks (x : EventFlag) : (s.addFlag x).locks = s.locks := rfl
@[simp] theorem State.addFlag_recordedSeal (x : EventFlag) : (s.addFlag x).recordedSeal = s.recordedSeal := rfl
@[simp] theorem State.addFlag_sealInput (x : EventFlag) : (s.addFlag x).sealInput = s.sealInput := rfl
@[simp] theorem State.addFlag_staging (x : EventFlag) : (s.addFlag x).staging = s.staging := rfl
@[simp] theorem State.addFlag_pulses (x : EventFlag) : (s.addFlag x).pulses = s.pulses := rfl
@[simp] theorem State.addFlag_cen (x : EventFlag) : (s.addFlag x).cen = s.cen := rfl
@[simp] theorem State.addFlag_values (x : EventFlag) : (s.addFlag x).values = s.values := rfl
@[simp] theorem State.addFlag_snapshot (x : EventFlag) : (s.addFlag x).snapshot = s.snapshot := rfl
@[simp] theorem State.addFlag_snapshotSeq (x : EventFlag) : (s.addFlag x).snapshotSeq = s.snapshotSeq := rfl
@[simp] theorem State.addFlag_psq (x : EventFlag) : (s.addFlag x).psq = s.psq := rfl
@[simp] theorem State.addFlag_smc (x : EventFlag) : (s.addFlag x).smc = s.smc := rfl
@[simp] theorem State.addFlag_archive (x : EventFlag) : (s.addFlag x).archive = s.archive := rfl
@[simp] theorem State.addFlag_write (x : EventFlag) : (s.addFlag x).write = s.write := rfl
@[simp] theorem State.addFlag_erase (x : EventFlag) : (s.addFlag x).erase = s.erase := rfl
@[simp] theorem State.addFlag_audit (x : EventFlag) : (s.addFlag x).audit = s.audit := rfl
@[simp] theorem State.addFlag_auditNext (x : EventFlag) : (s.addFlag x).auditNext = s.auditNext := rfl
@[simp] theorem State.addFlag_alarms (x : EventFlag) : (s.addFlag x).alarms = s.alarms := rfl
@[simp] theorem State.addFlag_flags (x : EventFlag) : (s.addFlag x).flags = s.flags.add x := rfl
@[simp] theorem State.addFlag_link (x : EventFlag) : (s.addFlag x).link = s.link := rfl
@[simp] theorem State.addFlag_reply (x : EventFlag) : (s.addFlag x).reply = s.reply := rfl
@[simp] theorem State.addFlag_pending (x : EventFlag) : (s.addFlag x).pending = s.pending := rfl

/-! ### State.appendAudit -/

@[simp] theorem State.appendAudit_now (b : AuditBody) : (s.appendAudit b).now = s.now := rfl
@[simp] theorem State.appendAudit_phase (b : AuditBody) : (s.appendAudit b).phase = s.phase := rfl
@[simp] theorem State.appendAudit_powered (b : AuditBody) : (s.appendAudit b).powered = s.powered := rfl
@[simp] theorem State.appendAudit_resetActive (b : AuditBody) : (s.appendAudit b).resetActive = s.resetActive := rfl
@[simp] theorem State.appendAudit_ret (b : AuditBody) : (s.appendAudit b).ret = s.ret := rfl
@[simp] theorem State.appendAudit_bankA (b : AuditBody) : (s.appendAudit b).bankA = s.bankA := rfl
@[simp] theorem State.appendAudit_bankB (b : AuditBody) : (s.appendAudit b).bankB = s.bankB := rfl
@[simp] theorem State.appendAudit_current (b : AuditBody) : (s.appendAudit b).current = s.current := rfl
@[simp] theorem State.appendAudit_clock (b : AuditBody) : (s.appendAudit b).clock = s.clock := rfl
@[simp] theorem State.appendAudit_secondFrom (b : AuditBody) : (s.appendAudit b).secondFrom = s.secondFrom := rfl
@[simp] theorem State.appendAudit_params (b : AuditBody) : (s.appendAudit b).params = s.params := rfl
@[simp] theorem State.appendAudit_locks (b : AuditBody) : (s.appendAudit b).locks = s.locks := rfl
@[simp] theorem State.appendAudit_recordedSeal (b : AuditBody) : (s.appendAudit b).recordedSeal = s.recordedSeal := rfl
@[simp] theorem State.appendAudit_sealInput (b : AuditBody) : (s.appendAudit b).sealInput = s.sealInput := rfl
@[simp] theorem State.appendAudit_staging (b : AuditBody) : (s.appendAudit b).staging = s.staging := rfl
@[simp] theorem State.appendAudit_pulses (b : AuditBody) : (s.appendAudit b).pulses = s.pulses := rfl
@[simp] theorem State.appendAudit_cen (b : AuditBody) : (s.appendAudit b).cen = s.cen := rfl
@[simp] theorem State.appendAudit_values (b : AuditBody) : (s.appendAudit b).values = s.values := rfl
@[simp] theorem State.appendAudit_snapshot (b : AuditBody) : (s.appendAudit b).snapshot = s.snapshot := rfl
@[simp] theorem State.appendAudit_snapshotSeq (b : AuditBody) : (s.appendAudit b).snapshotSeq = s.snapshotSeq := rfl
@[simp] theorem State.appendAudit_psq (b : AuditBody) : (s.appendAudit b).psq = s.psq := rfl
@[simp] theorem State.appendAudit_smc (b : AuditBody) : (s.appendAudit b).smc = s.smc := rfl
@[simp] theorem State.appendAudit_archive (b : AuditBody) : (s.appendAudit b).archive = s.archive := rfl
@[simp] theorem State.appendAudit_write (b : AuditBody) : (s.appendAudit b).write = s.write := rfl
@[simp] theorem State.appendAudit_erase (b : AuditBody) : (s.appendAudit b).erase = s.erase := rfl
@[simp] theorem State.appendAudit_audit (b : AuditBody) : (s.appendAudit b).audit = s.audit.write ⟨s.auditNext, s.clock, b⟩ := rfl
@[simp] theorem State.appendAudit_auditNext (b : AuditBody) : (s.appendAudit b).auditNext = s.auditNext + 1 := rfl
@[simp] theorem State.appendAudit_alarms (b : AuditBody) : (s.appendAudit b).alarms = s.alarms := rfl
@[simp] theorem State.appendAudit_flags (b : AuditBody) : (s.appendAudit b).flags = s.flags := rfl
@[simp] theorem State.appendAudit_link (b : AuditBody) : (s.appendAudit b).link = s.link := rfl
@[simp] theorem State.appendAudit_reply (b : AuditBody) : (s.appendAudit b).reply = s.reply := rfl
@[simp] theorem State.appendAudit_pending (b : AuditBody) : (s.appendAudit b).pending = s.pending := rfl

/-! ### State.modValue -/

@[simp] theorem State.modValue_now (v : ValueId) (f : LiveValue → LiveValue) : (s.modValue v f).now = s.now := rfl
@[simp] theorem State.modValue_phase (v : ValueId) (f : LiveValue → LiveValue) : (s.modValue v f).phase = s.phase := rfl
@[simp] theorem State.modValue_powered (v : ValueId) (f : LiveValue → LiveValue) : (s.modValue v f).powered = s.powered := rfl
@[simp] theorem State.modValue_resetActive (v : ValueId) (f : LiveValue → LiveValue) : (s.modValue v f).resetActive = s.resetActive := rfl
@[simp] theorem State.modValue_ret (v : ValueId) (f : LiveValue → LiveValue) : (s.modValue v f).ret = s.ret := rfl
@[simp] theorem State.modValue_bankA (v : ValueId) (f : LiveValue → LiveValue) : (s.modValue v f).bankA = s.bankA := rfl
@[simp] theorem State.modValue_bankB (v : ValueId) (f : LiveValue → LiveValue) : (s.modValue v f).bankB = s.bankB := rfl
@[simp] theorem State.modValue_current (v : ValueId) (f : LiveValue → LiveValue) : (s.modValue v f).current = s.current := rfl
@[simp] theorem State.modValue_clock (v : ValueId) (f : LiveValue → LiveValue) : (s.modValue v f).clock = s.clock := rfl
@[simp] theorem State.modValue_secondFrom (v : ValueId) (f : LiveValue → LiveValue) : (s.modValue v f).secondFrom = s.secondFrom := rfl
@[simp] theorem State.modValue_params (v : ValueId) (f : LiveValue → LiveValue) : (s.modValue v f).params = s.params := rfl
@[simp] theorem State.modValue_locks (v : ValueId) (f : LiveValue → LiveValue) : (s.modValue v f).locks = s.locks := rfl
@[simp] theorem State.modValue_recordedSeal (v : ValueId) (f : LiveValue → LiveValue) : (s.modValue v f).recordedSeal = s.recordedSeal := rfl
@[simp] theorem State.modValue_sealInput (v : ValueId) (f : LiveValue → LiveValue) : (s.modValue v f).sealInput = s.sealInput := rfl
@[simp] theorem State.modValue_staging (v : ValueId) (f : LiveValue → LiveValue) : (s.modValue v f).staging = s.staging := rfl
@[simp] theorem State.modValue_pulses (v : ValueId) (f : LiveValue → LiveValue) : (s.modValue v f).pulses = s.pulses := rfl
@[simp] theorem State.modValue_cen (v : ValueId) (f : LiveValue → LiveValue) : (s.modValue v f).cen = s.cen := rfl
@[simp] theorem State.modValue_values (v : ValueId) (f : LiveValue → LiveValue) : (s.modValue v f).values = modAt s.values (valueIndex v) f := rfl
@[simp] theorem State.modValue_snapshot (v : ValueId) (f : LiveValue → LiveValue) : (s.modValue v f).snapshot = s.snapshot := rfl
@[simp] theorem State.modValue_snapshotSeq (v : ValueId) (f : LiveValue → LiveValue) : (s.modValue v f).snapshotSeq = s.snapshotSeq := rfl
@[simp] theorem State.modValue_psq (v : ValueId) (f : LiveValue → LiveValue) : (s.modValue v f).psq = s.psq := rfl
@[simp] theorem State.modValue_smc (v : ValueId) (f : LiveValue → LiveValue) : (s.modValue v f).smc = s.smc := rfl
@[simp] theorem State.modValue_archive (v : ValueId) (f : LiveValue → LiveValue) : (s.modValue v f).archive = s.archive := rfl
@[simp] theorem State.modValue_write (v : ValueId) (f : LiveValue → LiveValue) : (s.modValue v f).write = s.write := rfl
@[simp] theorem State.modValue_erase (v : ValueId) (f : LiveValue → LiveValue) : (s.modValue v f).erase = s.erase := rfl
@[simp] theorem State.modValue_audit (v : ValueId) (f : LiveValue → LiveValue) : (s.modValue v f).audit = s.audit := rfl
@[simp] theorem State.modValue_auditNext (v : ValueId) (f : LiveValue → LiveValue) : (s.modValue v f).auditNext = s.auditNext := rfl
@[simp] theorem State.modValue_alarms (v : ValueId) (f : LiveValue → LiveValue) : (s.modValue v f).alarms = s.alarms := rfl
@[simp] theorem State.modValue_flags (v : ValueId) (f : LiveValue → LiveValue) : (s.modValue v f).flags = s.flags := rfl
@[simp] theorem State.modValue_link (v : ValueId) (f : LiveValue → LiveValue) : (s.modValue v f).link = s.link := rfl
@[simp] theorem State.modValue_reply (v : ValueId) (f : LiveValue → LiveValue) : (s.modValue v f).reply = s.reply := rfl
@[simp] theorem State.modValue_pending (v : ValueId) (f : LiveValue → LiveValue) : (s.modValue v f).pending = s.pending := rfl

end Updates

end Sys2Proof.Machine
end

