-- ==== Sys2Proof/Laws/Ops.lean ====
section
/-! SUPPORT. What the shared operations can do: one frame lemma each, which lists every field that the operation leaves as
it was, and the lemmas that say what it does to the rest. -/

namespace Sys2Proof.Machine

/-! ### Tables -/

@[simp] theorem modAt_same {α : Type} {n : Nat} (xs : Vector α n) (i : Fin n) (f : α → α) :
    (modAt xs i f)[i] = f xs[i] := by simp [modAt]

theorem modAt_other {α : Type} {n : Nat} (xs : Vector α n) (i j : Fin n) (f : α → α) (h : i ≠ j) :
    (modAt xs i f)[j] = xs[j] := by
  have h2 : i.val ≠ j.val := fun e => h (Fin.ext e)
  simp [modAt, Vector.getElem_set_ne, h2]

/-! ### Rounding (00_scope) -/

/-- Half up: the result is the nearest integer, and a tie goes up. -/
theorem roundHalfUp_spec (n d : Nat) (h : 0 < d) :
    2 * d * roundHalfUp n d ≤ 2 * n + d ∧ 2 * n + d < 2 * d * (roundHalfUp n d + 1) := by
  have h2 : 0 < 2 * d := by omega
  constructor
  · exact Nat.mul_div_le _ _
  · have := Nat.lt_mul_div_succ (2 * n + d) h2
    simpa [roundHalfUp] using this

/-! ### Alarms, audit and retained memory -/

section Basic

variable (s : State)

/-- Moving an alarm changes the alarm table and the event flag set alone (R189, R190). -/
@[simp] theorem State.moveAlarm_frame (a : AlarmId) (f : AlarmState → AlarmState) :
    (s.moveAlarm a f).now = s.now ∧ (s.moveAlarm a f).phase = s.phase ∧ (s.moveAlarm a f).powered = s.powered ∧
    (s.moveAlarm a f).resetActive = s.resetActive ∧ (s.moveAlarm a f).ret = s.ret ∧
    (s.moveAlarm a f).bankA = s.bankA ∧ (s.moveAlarm a f).bankB = s.bankB ∧ (s.moveAlarm a f).current = s.current ∧
    (s.moveAlarm a f).clock = s.clock ∧ (s.moveAlarm a f).secondFrom = s.secondFrom ∧
    (s.moveAlarm a f).params = s.params ∧ (s.moveAlarm a f).locks = s.locks ∧
    (s.moveAlarm a f).recordedSeal = s.recordedSeal ∧ (s.moveAlarm a f).sealInput = s.sealInput ∧
    (s.moveAlarm a f).staging = s.staging ∧ (s.moveAlarm a f).pulses = s.pulses ∧ (s.moveAlarm a f).cen = s.cen ∧
    (s.moveAlarm a f).values = s.values ∧ (s.moveAlarm a f).snapshot = s.snapshot ∧
    (s.moveAlarm a f).snapshotSeq = s.snapshotSeq ∧ (s.moveAlarm a f).psq = s.psq ∧ (s.moveAlarm a f).smc = s.smc ∧
    (s.moveAlarm a f).archive = s.archive ∧ (s.moveAlarm a f).write = s.write ∧ (s.moveAlarm a f).erase = s.erase ∧
    (s.moveAlarm a f).audit = s.audit ∧ (s.moveAlarm a f).auditNext = s.auditNext ∧
    (s.moveAlarm a f).link = s.link ∧ (s.moveAlarm a f).reply = s.reply ∧ (s.moveAlarm a f).pending = s.pending := by
  unfold State.moveAlarm; split <;> simp

/-- Raising a condition changes the alarm table and the event flag set alone. -/
@[simp] theorem State.raiseAlarm_frame (a : AlarmId) :
    (s.raiseAlarm a).now = s.now ∧ (s.raiseAlarm a).phase = s.phase ∧ (s.raiseAlarm a).powered = s.powered ∧
    (s.raiseAlarm a).resetActive = s.resetActive ∧ (s.raiseAlarm a).ret = s.ret ∧
    (s.raiseAlarm a).bankA = s.bankA ∧ (s.raiseAlarm a).bankB = s.bankB ∧ (s.raiseAlarm a).current = s.current ∧
    (s.raiseAlarm a).clock = s.clock ∧ (s.raiseAlarm a).secondFrom = s.secondFrom ∧
    (s.raiseAlarm a).params = s.params ∧ (s.raiseAlarm a).locks = s.locks ∧
    (s.raiseAlarm a).recordedSeal = s.recordedSeal ∧ (s.raiseAlarm a).sealInput = s.sealInput ∧
    (s.raiseAlarm a).staging = s.staging ∧ (s.raiseAlarm a).pulses = s.pulses ∧ (s.raiseAlarm a).cen = s.cen ∧
    (s.raiseAlarm a).values = s.values ∧ (s.raiseAlarm a).snapshot = s.snapshot ∧
    (s.raiseAlarm a).snapshotSeq = s.snapshotSeq ∧ (s.raiseAlarm a).psq = s.psq ∧ (s.raiseAlarm a).smc = s.smc ∧
    (s.raiseAlarm a).archive = s.archive ∧ (s.raiseAlarm a).write = s.write ∧ (s.raiseAlarm a).erase = s.erase ∧
    (s.raiseAlarm a).audit = s.audit ∧ (s.raiseAlarm a).auditNext = s.auditNext ∧ (s.raiseAlarm a).link = s.link ∧
    (s.raiseAlarm a).reply = s.reply ∧ (s.raiseAlarm a).pending = s.pending := by
  simp [State.raiseAlarm]

/-- Clearing a condition changes the alarm table and the event flag set alone. -/
@[simp] theorem State.clearAlarm_frame (a : AlarmId) :
    (s.clearAlarm a).now = s.now ∧ (s.clearAlarm a).phase = s.phase ∧ (s.clearAlarm a).powered = s.powered ∧
    (s.clearAlarm a).resetActive = s.resetActive ∧ (s.clearAlarm a).ret = s.ret ∧
    (s.clearAlarm a).bankA = s.bankA ∧ (s.clearAlarm a).bankB = s.bankB ∧ (s.clearAlarm a).current = s.current ∧
    (s.clearAlarm a).clock = s.clock ∧ (s.clearAlarm a).secondFrom = s.secondFrom ∧
    (s.clearAlarm a).params = s.params ∧ (s.clearAlarm a).locks = s.locks ∧
    (s.clearAlarm a).recordedSeal = s.recordedSeal ∧ (s.clearAlarm a).sealInput = s.sealInput ∧
    (s.clearAlarm a).staging = s.staging ∧ (s.clearAlarm a).pulses = s.pulses ∧ (s.clearAlarm a).cen = s.cen ∧
    (s.clearAlarm a).values = s.values ∧ (s.clearAlarm a).snapshot = s.snapshot ∧
    (s.clearAlarm a).snapshotSeq = s.snapshotSeq ∧ (s.clearAlarm a).psq = s.psq ∧ (s.clearAlarm a).smc = s.smc ∧
    (s.clearAlarm a).archive = s.archive ∧ (s.clearAlarm a).write = s.write ∧ (s.clearAlarm a).erase = s.erase ∧
    (s.clearAlarm a).audit = s.audit ∧ (s.clearAlarm a).auditNext = s.auditNext ∧ (s.clearAlarm a).link = s.link ∧
    (s.clearAlarm a).reply = s.reply ∧ (s.clearAlarm a).pending = s.pending := by
  simp [State.clearAlarm]

/-- Setting a condition changes the alarm table and the event flag set alone. -/
@[simp] theorem State.setAlarm_frame (a : AlarmId) (b : Bool) :
    (s.setAlarm a b).now = s.now ∧ (s.setAlarm a b).phase = s.phase ∧ (s.setAlarm a b).powered = s.powered ∧
    (s.setAlarm a b).resetActive = s.resetActive ∧ (s.setAlarm a b).ret = s.ret ∧
    (s.setAlarm a b).bankA = s.bankA ∧ (s.setAlarm a b).bankB = s.bankB ∧ (s.setAlarm a b).current = s.current ∧
    (s.setAlarm a b).clock = s.clock ∧ (s.setAlarm a b).secondFrom = s.secondFrom ∧
    (s.setAlarm a b).params = s.params ∧ (s.setAlarm a b).locks = s.locks ∧
    (s.setAlarm a b).recordedSeal = s.recordedSeal ∧ (s.setAlarm a b).sealInput = s.sealInput ∧
    (s.setAlarm a b).staging = s.staging ∧ (s.setAlarm a b).pulses = s.pulses ∧ (s.setAlarm a b).cen = s.cen ∧
    (s.setAlarm a b).values = s.values ∧ (s.setAlarm a b).snapshot = s.snapshot ∧
    (s.setAlarm a b).snapshotSeq = s.snapshotSeq ∧ (s.setAlarm a b).psq = s.psq ∧ (s.setAlarm a b).smc = s.smc ∧
    (s.setAlarm a b).archive = s.archive ∧ (s.setAlarm a b).write = s.write ∧ (s.setAlarm a b).erase = s.erase ∧
    (s.setAlarm a b).audit = s.audit ∧ (s.setAlarm a b).auditNext = s.auditNext ∧ (s.setAlarm a b).link = s.link ∧
    (s.setAlarm a b).reply = s.reply ∧ (s.setAlarm a b).pending = s.pending := by
  unfold State.setAlarm; split <;> simp

/-- A momentary condition changes the alarm table and the event flag set alone (R191). -/
@[simp] theorem State.pulseAlarm_frame (a : AlarmId) :
    (s.pulseAlarm a).now = s.now ∧ (s.pulseAlarm a).phase = s.phase ∧ (s.pulseAlarm a).powered = s.powered ∧
    (s.pulseAlarm a).resetActive = s.resetActive ∧ (s.pulseAlarm a).ret = s.ret ∧
    (s.pulseAlarm a).bankA = s.bankA ∧ (s.pulseAlarm a).bankB = s.bankB ∧ (s.pulseAlarm a).current = s.current ∧
    (s.pulseAlarm a).clock = s.clock ∧ (s.pulseAlarm a).secondFrom = s.secondFrom ∧
    (s.pulseAlarm a).params = s.params ∧ (s.pulseAlarm a).locks = s.locks ∧
    (s.pulseAlarm a).recordedSeal = s.recordedSeal ∧ (s.pulseAlarm a).sealInput = s.sealInput ∧
    (s.pulseAlarm a).staging = s.staging ∧ (s.pulseAlarm a).pulses = s.pulses ∧ (s.pulseAlarm a).cen = s.cen ∧
    (s.pulseAlarm a).values = s.values ∧ (s.pulseAlarm a).snapshot = s.snapshot ∧
    (s.pulseAlarm a).snapshotSeq = s.snapshotSeq ∧ (s.pulseAlarm a).psq = s.psq ∧ (s.pulseAlarm a).smc = s.smc ∧
    (s.pulseAlarm a).archive = s.archive ∧ (s.pulseAlarm a).write = s.write ∧ (s.pulseAlarm a).erase = s.erase ∧
    (s.pulseAlarm a).audit = s.audit ∧ (s.pulseAlarm a).auditNext = s.auditNext ∧ (s.pulseAlarm a).link = s.link ∧
    (s.pulseAlarm a).reply = s.reply ∧ (s.pulseAlarm a).pending = s.pending := by
  simp [State.pulseAlarm]

/-- A retained update writes a bank and makes it current, and changes nothing else (R94). -/
@[simp] theorem State.retainedUpdate_frame :
    (s.retainedUpdate).now = s.now ∧ (s.retainedUpdate).phase = s.phase ∧ (s.retainedUpdate).powered = s.powered ∧
    (s.retainedUpdate).resetActive = s.resetActive ∧ (s.retainedUpdate).ret = s.ret ∧
    (s.retainedUpdate).clock = s.clock ∧ (s.retainedUpdate).secondFrom = s.secondFrom ∧
    (s.retainedUpdate).params = s.params ∧ (s.retainedUpdate).locks = s.locks ∧
    (s.retainedUpdate).recordedSeal = s.recordedSeal ∧ (s.retainedUpdate).sealInput = s.sealInput ∧
    (s.retainedUpdate).staging = s.staging ∧ (s.retainedUpdate).pulses = s.pulses ∧
    (s.retainedUpdate).cen = s.cen ∧ (s.retainedUpdate).values = s.values ∧
    (s.retainedUpdate).snapshot = s.snapshot ∧ (s.retainedUpdate).snapshotSeq = s.snapshotSeq ∧
    (s.retainedUpdate).psq = s.psq ∧ (s.retainedUpdate).smc = s.smc ∧ (s.retainedUpdate).archive = s.archive ∧
    (s.retainedUpdate).write = s.write ∧ (s.retainedUpdate).erase = s.erase ∧ (s.retainedUpdate).audit = s.audit ∧
    (s.retainedUpdate).auditNext = s.auditNext ∧ (s.retainedUpdate).alarms = s.alarms ∧
    (s.retainedUpdate).flags = s.flags ∧ (s.retainedUpdate).link = s.link ∧ (s.retainedUpdate).reply = s.reply ∧
    (s.retainedUpdate).pending = s.pending := by
  unfold State.retainedUpdate; split <;> simp

/-- The end of an event writes retained memory and changes nothing else (R94). -/
@[simp] theorem State.settle_frame :
    (s.settle).now = s.now ∧ (s.settle).phase = s.phase ∧ (s.settle).powered = s.powered ∧
    (s.settle).resetActive = s.resetActive ∧ (s.settle).ret = s.ret ∧ (s.settle).clock = s.clock ∧
    (s.settle).secondFrom = s.secondFrom ∧ (s.settle).params = s.params ∧ (s.settle).locks = s.locks ∧
    (s.settle).recordedSeal = s.recordedSeal ∧ (s.settle).sealInput = s.sealInput ∧
    (s.settle).staging = s.staging ∧ (s.settle).pulses = s.pulses ∧ (s.settle).cen = s.cen ∧
    (s.settle).values = s.values ∧ (s.settle).snapshot = s.snapshot ∧ (s.settle).snapshotSeq = s.snapshotSeq ∧
    (s.settle).psq = s.psq ∧ (s.settle).smc = s.smc ∧ (s.settle).archive = s.archive ∧ (s.settle).write = s.write ∧
    (s.settle).erase = s.erase ∧ (s.settle).audit = s.audit ∧ (s.settle).auditNext = s.auditNext ∧
    (s.settle).alarms = s.alarms ∧ (s.settle).flags = s.flags ∧ (s.settle).link = s.link ∧
    (s.settle).reply = s.reply ∧ (s.settle).pending = s.pending := by
  unfold State.settle; split <;> simp


/-- After the end of an event the current bank holds the retained content (R94). -/
theorem State.settle_settled : s.settle.ret = s.settle.currentBank.content := by
  unfold State.settle
  split
  · assumption
  · unfold State.retainedUpdate State.currentBank; split <;> simp_all

/-- With retained content that is already written, the end of an event changes nothing. -/
@[simp] theorem State.settle_of_settled (h : s.ret = s.currentBank.content) : s.settle = s := by
  unfold State.settle; simp [h]

theorem AlarmId.index_injective (a b : AlarmId) (h : a.index = b.index) : a = b := by
  cases a with
  | station x => cases b with
    | station y => cases x <;> cases y <;> simp_all [AlarmId.index, stationAlarmIndex]
    | run r y =>
      have := stationAlarmIndex_lt x
      simp [AlarmId.index] at h; omega
  | run r x => cases b with
    | station y =>
      have := stationAlarmIndex_lt y
      simp [AlarmId.index] at h; omega
    | run q y =>
      have hx := runAlarmIndex_lt x
      have hy := runAlarmIndex_lt y
      have hr := r.isLt
      have hq := q.isLt
      simp only [AlarmId.index, Fin.mk.injEq] at h
      have h1 : r.val = q.val := by omega
      have h2 : runAlarmIndex x = runAlarmIndex y := by omega
      have h3 : x = y := by cases x <;> cases y <;> simp_all [runAlarmIndex]
      rw [Fin.ext h1, h3]

/-- Moving an alarm gives it the state that the table of R190 gives. -/
theorem State.alarm_moveAlarm_same (a : AlarmId) (f : AlarmState → AlarmState) :
    ((s.moveAlarm a f).alarm a).state = f (s.alarm a).state := by
  unfold State.moveAlarm; split
  · simp_all
  · simp [State.alarm]

/-- Moving an alarm leaves every other alarm as it was. -/
theorem State.alarm_moveAlarm_other (a b : AlarmId) (f : AlarmState → AlarmState) (h : a ≠ b) :
    (s.moveAlarm a f).alarm b = s.alarm b := by
  have h2 : a.index.val ≠ b.index.val := fun e => h (AlarmId.index_injective a b (Fin.ext e))
  unfold State.moveAlarm; split
  · rfl
  · simp [State.alarm, Vector.getElem_set_ne, h2]

/-! ### How a command is taken -/

theorem State.event_running (f : State → State) (h : s.phase = .running) : s.event f = (f s).settle := by
  simp [State.event, h]

theorem State.event_stopped (f : State → State) (h : s.phase ≠ .running) : s.event f = s := by
  unfold State.event; split <;> simp_all

theorem State.request_taken (f : State → State × Reply) (h : s.phase = .running) (hm : s.link.restartMark = none) :
    s.request f = { (f s).1.settle with reply := some (f s).2 } := by
  simp [State.request, State.takesRequests, State.answer, h, hm]

theorem State.request_not_taken (f : State → State × Reply) (h : s.takesRequests = false) : s.request f = s := by
  simp [State.request, h]

/-! ### The Ticket Archive and the close test -/

/-- Changing a batch changes retained content alone. -/
@[simp] theorem State.modBatch_frame (id : Nat) (f : Batch → Batch) :
    (s.modBatch id f).now = s.now ∧ (s.modBatch id f).phase = s.phase ∧ (s.modBatch id f).powered = s.powered ∧
    (s.modBatch id f).resetActive = s.resetActive ∧ (s.modBatch id f).bankA = s.bankA ∧
    (s.modBatch id f).bankB = s.bankB ∧ (s.modBatch id f).current = s.current ∧ (s.modBatch id f).clock = s.clock ∧
    (s.modBatch id f).secondFrom = s.secondFrom ∧ (s.modBatch id f).params = s.params ∧
    (s.modBatch id f).locks = s.locks ∧ (s.modBatch id f).recordedSeal = s.recordedSeal ∧
    (s.modBatch id f).sealInput = s.sealInput ∧ (s.modBatch id f).staging = s.staging ∧
    (s.modBatch id f).pulses = s.pulses ∧ (s.modBatch id f).cen = s.cen ∧ (s.modBatch id f).values = s.values ∧
    (s.modBatch id f).snapshot = s.snapshot ∧ (s.modBatch id f).snapshotSeq = s.snapshotSeq ∧
    (s.modBatch id f).psq = s.psq ∧ (s.modBatch id f).smc = s.smc ∧ (s.modBatch id f).archive = s.archive ∧
    (s.modBatch id f).write = s.write ∧ (s.modBatch id f).erase = s.erase ∧ (s.modBatch id f).audit = s.audit ∧
    (s.modBatch id f).auditNext = s.auditNext ∧ (s.modBatch id f).alarms = s.alarms ∧
    (s.modBatch id f).flags = s.flags ∧ (s.modBatch id f).link = s.link ∧ (s.modBatch id f).reply = s.reply ∧
    (s.modBatch id f).pending = s.pending := by
  simp [State.modBatch]

/-- Suspending an erase changes archive memory and the erase in progress (R177). -/
@[simp] theorem State.suspendErase_frame :
    (s.suspendErase).now = s.now ∧ (s.suspendErase).phase = s.phase ∧ (s.suspendErase).powered = s.powered ∧
    (s.suspendErase).resetActive = s.resetActive ∧ (s.suspendErase).ret = s.ret ∧
    (s.suspendErase).bankA = s.bankA ∧ (s.suspendErase).bankB = s.bankB ∧ (s.suspendErase).current = s.current ∧
    (s.suspendErase).clock = s.clock ∧ (s.suspendErase).secondFrom = s.secondFrom ∧
    (s.suspendErase).params = s.params ∧ (s.suspendErase).locks = s.locks ∧
    (s.suspendErase).recordedSeal = s.recordedSeal ∧ (s.suspendErase).sealInput = s.sealInput ∧
    (s.suspendErase).staging = s.staging ∧ (s.suspendErase).pulses = s.pulses ∧ (s.suspendErase).cen = s.cen ∧
    (s.suspendErase).values = s.values ∧ (s.suspendErase).snapshot = s.snapshot ∧
    (s.suspendErase).snapshotSeq = s.snapshotSeq ∧ (s.suspendErase).psq = s.psq ∧ (s.suspendErase).smc = s.smc ∧
    (s.suspendErase).write = s.write ∧ (s.suspendErase).audit = s.audit ∧
    (s.suspendErase).auditNext = s.auditNext ∧ (s.suspendErase).alarms = s.alarms ∧
    (s.suspendErase).flags = s.flags ∧ (s.suspendErase).link = s.link ∧ (s.suspendErase).reply = s.reply ∧
    (s.suspendErase).pending = s.pending := by
  unfold State.suspendErase; repeat' split
  all_goals simp

/-- Resuming an erase changes archive memory and the erase in progress (R177). -/
@[simp] theorem State.resumeErase_frame :
    (s.resumeErase).now = s.now ∧ (s.resumeErase).phase = s.phase ∧ (s.resumeErase).powered = s.powered ∧
    (s.resumeErase).resetActive = s.resetActive ∧ (s.resumeErase).ret = s.ret ∧ (s.resumeErase).bankA = s.bankA ∧
    (s.resumeErase).bankB = s.bankB ∧ (s.resumeErase).current = s.current ∧ (s.resumeErase).clock = s.clock ∧
    (s.resumeErase).secondFrom = s.secondFrom ∧ (s.resumeErase).params = s.params ∧
    (s.resumeErase).locks = s.locks ∧ (s.resumeErase).recordedSeal = s.recordedSeal ∧
    (s.resumeErase).sealInput = s.sealInput ∧ (s.resumeErase).staging = s.staging ∧
    (s.resumeErase).pulses = s.pulses ∧ (s.resumeErase).cen = s.cen ∧ (s.resumeErase).values = s.values ∧
    (s.resumeErase).snapshot = s.snapshot ∧ (s.resumeErase).snapshotSeq = s.snapshotSeq ∧
    (s.resumeErase).psq = s.psq ∧ (s.resumeErase).smc = s.smc ∧ (s.resumeErase).write = s.write ∧
    (s.resumeErase).audit = s.audit ∧ (s.resumeErase).auditNext = s.auditNext ∧ (s.resumeErase).alarms = s.alarms ∧
    (s.resumeErase).flags = s.flags ∧ (s.resumeErase).link = s.link ∧ (s.resumeErase).reply = s.reply ∧
    (s.resumeErase).pending = s.pending := by
  unfold State.resumeErase; repeat' split
  all_goals simp

/-- The start of a write (R173). -/
@[simp] theorem State.startWrite_frame (a : Archive) (i j : Sector) :
    (s.startWrite a i j).now = s.now ∧ (s.startWrite a i j).phase = s.phase ∧
    (s.startWrite a i j).powered = s.powered ∧ (s.startWrite a i j).resetActive = s.resetActive ∧
    (s.startWrite a i j).bankA = s.bankA ∧ (s.startWrite a i j).bankB = s.bankB ∧
    (s.startWrite a i j).current = s.current ∧ (s.startWrite a i j).clock = s.clock ∧
    (s.startWrite a i j).secondFrom = s.secondFrom ∧ (s.startWrite a i j).params = s.params ∧
    (s.startWrite a i j).locks = s.locks ∧ (s.startWrite a i j).recordedSeal = s.recordedSeal ∧
    (s.startWrite a i j).sealInput = s.sealInput ∧ (s.startWrite a i j).staging = s.staging ∧
    (s.startWrite a i j).pulses = s.pulses ∧ (s.startWrite a i j).cen = s.cen ∧
    (s.startWrite a i j).values = s.values ∧ (s.startWrite a i j).snapshot = s.snapshot ∧
    (s.startWrite a i j).snapshotSeq = s.snapshotSeq ∧ (s.startWrite a i j).psq = s.psq ∧
    (s.startWrite a i j).smc = s.smc ∧ (s.startWrite a i j).audit = s.audit ∧
    (s.startWrite a i j).auditNext = s.auditNext ∧ (s.startWrite a i j).link = s.link ∧
    (s.startWrite a i j).reply = s.reply ∧ (s.startWrite a i j).pending = s.pending := by
  simp [State.startWrite]

/-- Trying to start a write (R173). -/
@[simp] theorem State.tryStartWrite_frame :
    (s.tryStartWrite).now = s.now ∧ (s.tryStartWrite).phase = s.phase ∧ (s.tryStartWrite).powered = s.powered ∧
    (s.tryStartWrite).resetActive = s.resetActive ∧ (s.tryStartWrite).bankA = s.bankA ∧
    (s.tryStartWrite).bankB = s.bankB ∧ (s.tryStartWrite).current = s.current ∧ (s.tryStartWrite).clock = s.clock ∧
    (s.tryStartWrite).secondFrom = s.secondFrom ∧ (s.tryStartWrite).params = s.params ∧
    (s.tryStartWrite).locks = s.locks ∧ (s.tryStartWrite).recordedSeal = s.recordedSeal ∧
    (s.tryStartWrite).sealInput = s.sealInput ∧ (s.tryStartWrite).staging = s.staging ∧
    (s.tryStartWrite).pulses = s.pulses ∧ (s.tryStartWrite).cen = s.cen ∧ (s.tryStartWrite).values = s.values ∧
    (s.tryStartWrite).snapshot = s.snapshot ∧ (s.tryStartWrite).snapshotSeq = s.snapshotSeq ∧
    (s.tryStartWrite).psq = s.psq ∧ (s.tryStartWrite).smc = s.smc ∧ (s.tryStartWrite).audit = s.audit ∧
    (s.tryStartWrite).auditNext = s.auditNext ∧ (s.tryStartWrite).link = s.link ∧
    (s.tryStartWrite).reply = s.reply ∧ (s.tryStartWrite).pending = s.pending := by
  unfold State.tryStartWrite; repeat' split
  all_goals simp

/-- The reclaim test (R176). -/
@[simp] theorem State.testReclaim_frame :
    (s.testReclaim).now = s.now ∧ (s.testReclaim).phase = s.phase ∧ (s.testReclaim).powered = s.powered ∧
    (s.testReclaim).resetActive = s.resetActive ∧ (s.testReclaim).ret = s.ret ∧ (s.testReclaim).bankA = s.bankA ∧
    (s.testReclaim).bankB = s.bankB ∧ (s.testReclaim).current = s.current ∧ (s.testReclaim).clock = s.clock ∧
    (s.testReclaim).secondFrom = s.secondFrom ∧ (s.testReclaim).params = s.params ∧
    (s.testReclaim).locks = s.locks ∧ (s.testReclaim).recordedSeal = s.recordedSeal ∧
    (s.testReclaim).sealInput = s.sealInput ∧ (s.testReclaim).staging = s.staging ∧
    (s.testReclaim).pulses = s.pulses ∧ (s.testReclaim).cen = s.cen ∧ (s.testReclaim).values = s.values ∧
    (s.testReclaim).snapshot = s.snapshot ∧ (s.testReclaim).snapshotSeq = s.snapshotSeq ∧
    (s.testReclaim).psq = s.psq ∧ (s.testReclaim).smc = s.smc ∧ (s.testReclaim).write = s.write ∧
    (s.testReclaim).audit = s.audit ∧ (s.testReclaim).auditNext = s.auditNext ∧ (s.testReclaim).alarms = s.alarms ∧
    (s.testReclaim).flags = s.flags ∧ (s.testReclaim).link = s.link ∧ (s.testReclaim).reply = s.reply ∧
    (s.testReclaim).pending = s.pending := by
  unfold State.testReclaim; repeat' split
  all_goals simp

/-- The close of a batch (R121). -/
@[simp] theorem State.closeBatch_frame (b : Batch) :
    (s.closeBatch b).now = s.now ∧ (s.closeBatch b).phase = s.phase ∧ (s.closeBatch b).powered = s.powered ∧
    (s.closeBatch b).resetActive = s.resetActive ∧ (s.closeBatch b).bankA = s.bankA ∧
    (s.closeBatch b).bankB = s.bankB ∧ (s.closeBatch b).current = s.current ∧ (s.closeBatch b).clock = s.clock ∧
    (s.closeBatch b).secondFrom = s.secondFrom ∧ (s.closeBatch b).params = s.params ∧
    (s.closeBatch b).locks = s.locks ∧ (s.closeBatch b).recordedSeal = s.recordedSeal ∧
    (s.closeBatch b).sealInput = s.sealInput ∧ (s.closeBatch b).staging = s.staging ∧
    (s.closeBatch b).pulses = s.pulses ∧ (s.closeBatch b).cen = s.cen ∧ (s.closeBatch b).values = s.values ∧
    (s.closeBatch b).snapshot = s.snapshot ∧ (s.closeBatch b).snapshotSeq = s.snapshotSeq ∧
    (s.closeBatch b).psq = s.psq ∧ (s.closeBatch b).smc = s.smc ∧ (s.closeBatch b).audit = s.audit ∧
    (s.closeBatch b).auditNext = s.auditNext ∧ (s.closeBatch b).link = s.link ∧ (s.closeBatch b).reply = s.reply ∧
    (s.closeBatch b).pending = s.pending := by
  simp [State.closeBatch]

/-- The close test of one batch (R119). -/
@[simp] theorem State.closeTest_frame (b : Batch) :
    (s.closeTest b).now = s.now ∧ (s.closeTest b).phase = s.phase ∧ (s.closeTest b).powered = s.powered ∧
    (s.closeTest b).resetActive = s.resetActive ∧ (s.closeTest b).bankA = s.bankA ∧
    (s.closeTest b).bankB = s.bankB ∧ (s.closeTest b).current = s.current ∧ (s.closeTest b).clock = s.clock ∧
    (s.closeTest b).secondFrom = s.secondFrom ∧ (s.closeTest b).params = s.params ∧
    (s.closeTest b).locks = s.locks ∧ (s.closeTest b).recordedSeal = s.recordedSeal ∧
    (s.closeTest b).sealInput = s.sealInput ∧ (s.closeTest b).staging = s.staging ∧
    (s.closeTest b).pulses = s.pulses ∧ (s.closeTest b).cen = s.cen ∧ (s.closeTest b).values = s.values ∧
    (s.closeTest b).snapshot = s.snapshot ∧ (s.closeTest b).snapshotSeq = s.snapshotSeq ∧
    (s.closeTest b).psq = s.psq ∧ (s.closeTest b).smc = s.smc ∧ (s.closeTest b).audit = s.audit ∧
    (s.closeTest b).auditNext = s.auditNext ∧ (s.closeTest b).link = s.link ∧ (s.closeTest b).reply = s.reply ∧
    (s.closeTest b).pending = s.pending := by
  unfold State.closeTest; repeat' split
  all_goals simp

/-- The close tests (R120). -/
@[simp] theorem State.closeTests_frame :
    s.closeTests.now = s.now ∧ s.closeTests.phase = s.phase ∧ s.closeTests.powered = s.powered ∧
    s.closeTests.resetActive = s.resetActive ∧ s.closeTests.bankA = s.bankA ∧ s.closeTests.bankB = s.bankB ∧
    s.closeTests.current = s.current ∧ s.closeTests.clock = s.clock ∧ s.closeTests.secondFrom = s.secondFrom ∧
    s.closeTests.params = s.params ∧ s.closeTests.locks = s.locks ∧ s.closeTests.recordedSeal = s.recordedSeal ∧
    s.closeTests.sealInput = s.sealInput ∧ s.closeTests.staging = s.staging ∧ s.closeTests.pulses = s.pulses ∧
    s.closeTests.cen = s.cen ∧ s.closeTests.values = s.values ∧ s.closeTests.snapshot = s.snapshot ∧
    s.closeTests.snapshotSeq = s.snapshotSeq ∧ s.closeTests.psq = s.psq ∧ s.closeTests.smc = s.smc ∧
    s.closeTests.audit = s.audit ∧ s.closeTests.auditNext = s.auditNext ∧ s.closeTests.link = s.link ∧
    s.closeTests.reply = s.reply ∧ s.closeTests.pending = s.pending := by
  have key : ∀ (bs : List Batch) (s : State), 
    (bs.foldl State.closeTest s).now = s.now ∧ (bs.foldl State.closeTest s).phase = s.phase ∧
    (bs.foldl State.closeTest s).powered = s.powered ∧ (bs.foldl State.closeTest s).resetActive = s.resetActive ∧
    (bs.foldl State.closeTest s).bankA = s.bankA ∧ (bs.foldl State.closeTest s).bankB = s.bankB ∧
    (bs.foldl State.closeTest s).current = s.current ∧ (bs.foldl State.closeTest s).clock = s.clock ∧
    (bs.foldl State.closeTest s).secondFrom = s.secondFrom ∧ (bs.foldl State.closeTest s).params = s.params ∧
    (bs.foldl State.closeTest s).locks = s.locks ∧ (bs.foldl State.closeTest s).recordedSeal = s.recordedSeal ∧
    (bs.foldl State.closeTest s).sealInput = s.sealInput ∧ (bs.foldl State.closeTest s).staging = s.staging ∧
    (bs.foldl State.closeTest s).pulses = s.pulses ∧ (bs.foldl State.closeTest s).cen = s.cen ∧
    (bs.foldl State.closeTest s).values = s.values ∧ (bs.foldl State.closeTest s).snapshot = s.snapshot ∧
    (bs.foldl State.closeTest s).snapshotSeq = s.snapshotSeq ∧ (bs.foldl State.closeTest s).psq = s.psq ∧
    (bs.foldl State.closeTest s).smc = s.smc ∧ (bs.foldl State.closeTest s).audit = s.audit ∧
    (bs.foldl State.closeTest s).auditNext = s.auditNext ∧ (bs.foldl State.closeTest s).link = s.link ∧
    (bs.foldl State.closeTest s).reply = s.reply ∧ (bs.foldl State.closeTest s).pending = s.pending := by
    intro bs
    induction bs with
    | nil => intro s; simp
    | cons b bs ih => intro s; have := ih (s.closeTest b); simp_all
  simpa [State.closeTests] using key s.ret.ending s

/-! ### Batches, the sampler and the prover -/

/-- The end moment of a batch (R108, R111). -/
@[simp] theorem State.endActive_frame (b : Batch) (e : EndReason) (l : Option Run) :
    (s.endActive b e l).now = s.now ∧ (s.endActive b e l).phase = s.phase ∧
    (s.endActive b e l).powered = s.powered ∧ (s.endActive b e l).resetActive = s.resetActive ∧
    (s.endActive b e l).bankA = s.bankA ∧ (s.endActive b e l).bankB = s.bankB ∧
    (s.endActive b e l).current = s.current ∧ (s.endActive b e l).clock = s.clock ∧
    (s.endActive b e l).secondFrom = s.secondFrom ∧ (s.endActive b e l).params = s.params ∧
    (s.endActive b e l).locks = s.locks ∧ (s.endActive b e l).recordedSeal = s.recordedSeal ∧
    (s.endActive b e l).sealInput = s.sealInput ∧ (s.endActive b e l).staging = s.staging ∧
    (s.endActive b e l).pulses = s.pulses ∧ (s.endActive b e l).cen = s.cen ∧
    (s.endActive b e l).values = s.values ∧ (s.endActive b e l).snapshot = s.snapshot ∧
    (s.endActive b e l).snapshotSeq = s.snapshotSeq ∧ (s.endActive b e l).psq = s.psq ∧
    (s.endActive b e l).smc = s.smc ∧ (s.endActive b e l).archive = s.archive ∧
    (s.endActive b e l).write = s.write ∧ (s.endActive b e l).erase = s.erase ∧
    (s.endActive b e l).audit = s.audit ∧ (s.endActive b e l).auditNext = s.auditNext ∧
    (s.endActive b e l).alarms = s.alarms ∧ (s.endActive b e l).flags = s.flags ∧
    (s.endActive b e l).link = s.link ∧ (s.endActive b e l).reply = s.reply ∧
    (s.endActive b e l).pending = s.pending := by
  simp [State.endActive]

/-- The activation of a batch (R107). -/
@[simp] theorem State.activate_frame (b : BatchRecord) (i : Slot) :
    (s.activate b i).now = s.now ∧ (s.activate b i).phase = s.phase ∧ (s.activate b i).powered = s.powered ∧
    (s.activate b i).resetActive = s.resetActive ∧ (s.activate b i).bankA = s.bankA ∧
    (s.activate b i).bankB = s.bankB ∧ (s.activate b i).current = s.current ∧ (s.activate b i).clock = s.clock ∧
    (s.activate b i).secondFrom = s.secondFrom ∧ (s.activate b i).params = s.params ∧
    (s.activate b i).locks = s.locks ∧ (s.activate b i).recordedSeal = s.recordedSeal ∧
    (s.activate b i).sealInput = s.sealInput ∧ (s.activate b i).staging = s.staging ∧
    (s.activate b i).pulses = s.pulses ∧ (s.activate b i).cen = s.cen ∧ (s.activate b i).values = s.values ∧
    (s.activate b i).snapshot = s.snapshot ∧ (s.activate b i).snapshotSeq = s.snapshotSeq ∧
    (s.activate b i).psq = s.psq ∧ (s.activate b i).smc = s.smc ∧ (s.activate b i).archive = s.archive ∧
    (s.activate b i).write = s.write ∧ (s.activate b i).erase = s.erase ∧ (s.activate b i).audit = s.audit ∧
    (s.activate b i).auditNext = s.auditNext ∧ (s.activate b i).link = s.link ∧ (s.activate b i).reply = s.reply ∧
    (s.activate b i).pending = s.pending := by
  simp [State.activate]

/-- The slowdown test (R115). -/
@[simp] theorem State.slowdownTest_frame (b : Batch) :
    (s.slowdownTest b).now = s.now ∧ (s.slowdownTest b).phase = s.phase ∧ (s.slowdownTest b).powered = s.powered ∧
    (s.slowdownTest b).resetActive = s.resetActive ∧ (s.slowdownTest b).bankA = s.bankA ∧
    (s.slowdownTest b).bankB = s.bankB ∧ (s.slowdownTest b).current = s.current ∧
    (s.slowdownTest b).clock = s.clock ∧ (s.slowdownTest b).secondFrom = s.secondFrom ∧
    (s.slowdownTest b).params = s.params ∧ (s.slowdownTest b).locks = s.locks ∧
    (s.slowdownTest b).recordedSeal = s.recordedSeal ∧ (s.slowdownTest b).sealInput = s.sealInput ∧
    (s.slowdownTest b).staging = s.staging ∧ (s.slowdownTest b).pulses = s.pulses ∧
    (s.slowdownTest b).cen = s.cen ∧ (s.slowdownTest b).values = s.values ∧
    (s.slowdownTest b).snapshot = s.snapshot ∧ (s.slowdownTest b).snapshotSeq = s.snapshotSeq ∧
    (s.slowdownTest b).psq = s.psq ∧ (s.slowdownTest b).smc = s.smc ∧ (s.slowdownTest b).archive = s.archive ∧
    (s.slowdownTest b).write = s.write ∧ (s.slowdownTest b).erase = s.erase ∧ (s.slowdownTest b).audit = s.audit ∧
    (s.slowdownTest b).auditNext = s.auditNext ∧ (s.slowdownTest b).alarms = s.alarms ∧
    (s.slowdownTest b).link = s.link ∧ (s.slowdownTest b).reply = s.reply ∧ (s.slowdownTest b).pending = s.pending := by
  unfold State.slowdownTest; repeat' split
  all_goals simp

/-- The end of a batch at its target (R116, R117). -/
@[simp] theorem State.endForTarget_frame (b : Batch) (l : Option Run) :
    (s.endForTarget b l).now = s.now ∧ (s.endForTarget b l).phase = s.phase ∧
    (s.endForTarget b l).powered = s.powered ∧ (s.endForTarget b l).resetActive = s.resetActive ∧
    (s.endForTarget b l).bankA = s.bankA ∧ (s.endForTarget b l).bankB = s.bankB ∧
    (s.endForTarget b l).current = s.current ∧ (s.endForTarget b l).clock = s.clock ∧
    (s.endForTarget b l).secondFrom = s.secondFrom ∧ (s.endForTarget b l).params = s.params ∧
    (s.endForTarget b l).locks = s.locks ∧ (s.endForTarget b l).recordedSeal = s.recordedSeal ∧
    (s.endForTarget b l).sealInput = s.sealInput ∧ (s.endForTarget b l).staging = s.staging ∧
    (s.endForTarget b l).pulses = s.pulses ∧ (s.endForTarget b l).cen = s.cen ∧
    (s.endForTarget b l).values = s.values ∧ (s.endForTarget b l).snapshot = s.snapshot ∧
    (s.endForTarget b l).snapshotSeq = s.snapshotSeq ∧ (s.endForTarget b l).psq = s.psq ∧
    (s.endForTarget b l).smc = s.smc ∧ (s.endForTarget b l).archive = s.archive ∧
    (s.endForTarget b l).write = s.write ∧ (s.endForTarget b l).erase = s.erase ∧
    (s.endForTarget b l).audit = s.audit ∧ (s.endForTarget b l).auditNext = s.auditNext ∧
    (s.endForTarget b l).alarms = s.alarms ∧ (s.endForTarget b l).flags = s.flags ∧
    (s.endForTarget b l).link = s.link ∧ (s.endForTarget b l).reply = s.reply ∧
    (s.endForTarget b l).pending = s.pending := by
  unfold State.endForTarget; split <;> simp

/-- The target test (R116). -/
@[simp] theorem State.targetTest_frame (b : Batch) (l : Option Run) :
    (s.targetTest b l).now = s.now ∧ (s.targetTest b l).phase = s.phase ∧ (s.targetTest b l).powered = s.powered ∧
    (s.targetTest b l).resetActive = s.resetActive ∧ (s.targetTest b l).bankA = s.bankA ∧
    (s.targetTest b l).bankB = s.bankB ∧ (s.targetTest b l).current = s.current ∧
    (s.targetTest b l).clock = s.clock ∧ (s.targetTest b l).secondFrom = s.secondFrom ∧
    (s.targetTest b l).params = s.params ∧ (s.targetTest b l).locks = s.locks ∧
    (s.targetTest b l).recordedSeal = s.recordedSeal ∧ (s.targetTest b l).sealInput = s.sealInput ∧
    (s.targetTest b l).staging = s.staging ∧ (s.targetTest b l).pulses = s.pulses ∧
    (s.targetTest b l).cen = s.cen ∧ (s.targetTest b l).values = s.values ∧
    (s.targetTest b l).snapshot = s.snapshot ∧ (s.targetTest b l).snapshotSeq = s.snapshotSeq ∧
    (s.targetTest b l).psq = s.psq ∧ (s.targetTest b l).smc = s.smc ∧ (s.targetTest b l).archive = s.archive ∧
    (s.targetTest b l).write = s.write ∧ (s.targetTest b l).erase = s.erase ∧ (s.targetTest b l).audit = s.audit ∧
    (s.targetTest b l).auditNext = s.auditNext ∧ (s.targetTest b l).alarms = s.alarms ∧
    (s.targetTest b l).link = s.link ∧ (s.targetTest b l).reply = s.reply ∧ (s.targetTest b l).pending = s.pending := by
  unfold State.targetTest; repeat' split
  all_goals simp

/-- The tests of a crediting (R115 to R117). -/
@[simp] theorem State.batchTests_frame (c : CreditTarget) (l : Option Run) :
    (s.batchTests c l).now = s.now ∧ (s.batchTests c l).phase = s.phase ∧ (s.batchTests c l).powered = s.powered ∧
    (s.batchTests c l).resetActive = s.resetActive ∧ (s.batchTests c l).bankA = s.bankA ∧
    (s.batchTests c l).bankB = s.bankB ∧ (s.batchTests c l).current = s.current ∧
    (s.batchTests c l).clock = s.clock ∧ (s.batchTests c l).secondFrom = s.secondFrom ∧
    (s.batchTests c l).params = s.params ∧ (s.batchTests c l).locks = s.locks ∧
    (s.batchTests c l).recordedSeal = s.recordedSeal ∧ (s.batchTests c l).sealInput = s.sealInput ∧
    (s.batchTests c l).staging = s.staging ∧ (s.batchTests c l).pulses = s.pulses ∧
    (s.batchTests c l).cen = s.cen ∧ (s.batchTests c l).values = s.values ∧
    (s.batchTests c l).snapshot = s.snapshot ∧ (s.batchTests c l).snapshotSeq = s.snapshotSeq ∧
    (s.batchTests c l).psq = s.psq ∧ (s.batchTests c l).smc = s.smc ∧ (s.batchTests c l).archive = s.archive ∧
    (s.batchTests c l).write = s.write ∧ (s.batchTests c l).erase = s.erase ∧ (s.batchTests c l).audit = s.audit ∧
    (s.batchTests c l).auditNext = s.auditNext ∧ (s.batchTests c l).alarms = s.alarms ∧
    (s.batchTests c l).link = s.link ∧ (s.batchTests c l).reply = s.reply ∧ (s.batchTests c l).pending = s.pending := by
  unfold State.batchTests; repeat' split
  all_goals simp

/-- A missed grab is counted with its batch. -/
@[simp] theorem State.missGrab_frame (id : Nat) :
    (s.missGrab id).now = s.now ∧ (s.missGrab id).phase = s.phase ∧ (s.missGrab id).powered = s.powered ∧
    (s.missGrab id).resetActive = s.resetActive ∧ (s.missGrab id).bankA = s.bankA ∧
    (s.missGrab id).bankB = s.bankB ∧ (s.missGrab id).current = s.current ∧ (s.missGrab id).clock = s.clock ∧
    (s.missGrab id).secondFrom = s.secondFrom ∧ (s.missGrab id).params = s.params ∧
    (s.missGrab id).locks = s.locks ∧ (s.missGrab id).recordedSeal = s.recordedSeal ∧
    (s.missGrab id).sealInput = s.sealInput ∧ (s.missGrab id).staging = s.staging ∧
    (s.missGrab id).pulses = s.pulses ∧ (s.missGrab id).cen = s.cen ∧ (s.missGrab id).values = s.values ∧
    (s.missGrab id).snapshot = s.snapshot ∧ (s.missGrab id).snapshotSeq = s.snapshotSeq ∧
    (s.missGrab id).psq = s.psq ∧ (s.missGrab id).smc = s.smc ∧ (s.missGrab id).archive = s.archive ∧
    (s.missGrab id).write = s.write ∧ (s.missGrab id).erase = s.erase ∧ (s.missGrab id).audit = s.audit ∧
    (s.missGrab id).auditNext = s.auditNext ∧ (s.missGrab id).alarms = s.alarms ∧ (s.missGrab id).flags = s.flags ∧
    (s.missGrab id).link = s.link ∧ (s.missGrab id).reply = s.reply ∧ (s.missGrab id).pending = s.pending := by
  simp [State.missGrab]

/-- Setting a can count changes retained content alone. -/
@[simp] theorem State.setCanCount_frame (c : Can) (n : Nat) :
    (s.setCanCount c n).now = s.now ∧ (s.setCanCount c n).phase = s.phase ∧
    (s.setCanCount c n).powered = s.powered ∧ (s.setCanCount c n).resetActive = s.resetActive ∧
    (s.setCanCount c n).bankA = s.bankA ∧ (s.setCanCount c n).bankB = s.bankB ∧
    (s.setCanCount c n).current = s.current ∧ (s.setCanCount c n).clock = s.clock ∧
    (s.setCanCount c n).secondFrom = s.secondFrom ∧ (s.setCanCount c n).params = s.params ∧
    (s.setCanCount c n).locks = s.locks ∧ (s.setCanCount c n).recordedSeal = s.recordedSeal ∧
    (s.setCanCount c n).sealInput = s.sealInput ∧ (s.setCanCount c n).staging = s.staging ∧
    (s.setCanCount c n).pulses = s.pulses ∧ (s.setCanCount c n).cen = s.cen ∧
    (s.setCanCount c n).values = s.values ∧ (s.setCanCount c n).snapshot = s.snapshot ∧
    (s.setCanCount c n).snapshotSeq = s.snapshotSeq ∧ (s.setCanCount c n).psq = s.psq ∧
    (s.setCanCount c n).smc = s.smc ∧ (s.setCanCount c n).archive = s.archive ∧
    (s.setCanCount c n).write = s.write ∧ (s.setCanCount c n).erase = s.erase ∧
    (s.setCanCount c n).audit = s.audit ∧ (s.setCanCount c n).auditNext = s.auditNext ∧
    (s.setCanCount c n).alarms = s.alarms ∧ (s.setCanCount c n).flags = s.flags ∧
    (s.setCanCount c n).link = s.link ∧ (s.setCanCount c n).reply = s.reply ∧
    (s.setCanCount c n).pending = s.pending := by
  unfold State.setCanCount; split <;> simp

/-- The start of a swap (R163). -/
@[simp] theorem State.startSwap_frame (c : Can) :
    (s.startSwap c).now = s.now ∧ (s.startSwap c).phase = s.phase ∧ (s.startSwap c).powered = s.powered ∧
    (s.startSwap c).resetActive = s.resetActive ∧ (s.startSwap c).bankA = s.bankA ∧
    (s.startSwap c).bankB = s.bankB ∧ (s.startSwap c).current = s.current ∧ (s.startSwap c).clock = s.clock ∧
    (s.startSwap c).secondFrom = s.secondFrom ∧ (s.startSwap c).params = s.params ∧
    (s.startSwap c).locks = s.locks ∧ (s.startSwap c).recordedSeal = s.recordedSeal ∧
    (s.startSwap c).sealInput = s.sealInput ∧ (s.startSwap c).staging = s.staging ∧
    (s.startSwap c).pulses = s.pulses ∧ (s.startSwap c).cen = s.cen ∧ (s.startSwap c).values = s.values ∧
    (s.startSwap c).snapshot = s.snapshot ∧ (s.startSwap c).snapshotSeq = s.snapshotSeq ∧
    (s.startSwap c).psq = s.psq ∧ (s.startSwap c).archive = s.archive ∧ (s.startSwap c).write = s.write ∧
    (s.startSwap c).erase = s.erase ∧ (s.startSwap c).audit = s.audit ∧ (s.startSwap c).auditNext = s.auditNext ∧
    (s.startSwap c).alarms = s.alarms ∧ (s.startSwap c).flags = s.flags ∧ (s.startSwap c).link = s.link ∧
    (s.startSwap c).reply = s.reply ∧ (s.startSwap c).pending = s.pending := by
  simp [State.startSwap]

/-- The start of a grab (R162). -/
@[simp] theorem State.startGrab_frame (e : OwedGrab) (es : List OwedGrab) :
    (s.startGrab e es).now = s.now ∧ (s.startGrab e es).phase = s.phase ∧ (s.startGrab e es).powered = s.powered ∧
    (s.startGrab e es).resetActive = s.resetActive ∧ (s.startGrab e es).bankA = s.bankA ∧
    (s.startGrab e es).bankB = s.bankB ∧ (s.startGrab e es).current = s.current ∧
    (s.startGrab e es).clock = s.clock ∧ (s.startGrab e es).secondFrom = s.secondFrom ∧
    (s.startGrab e es).params = s.params ∧ (s.startGrab e es).locks = s.locks ∧
    (s.startGrab e es).recordedSeal = s.recordedSeal ∧ (s.startGrab e es).sealInput = s.sealInput ∧
    (s.startGrab e es).staging = s.staging ∧ (s.startGrab e es).pulses = s.pulses ∧
    (s.startGrab e es).cen = s.cen ∧ (s.startGrab e es).values = s.values ∧
    (s.startGrab e es).snapshot = s.snapshot ∧ (s.startGrab e es).snapshotSeq = s.snapshotSeq ∧
    (s.startGrab e es).psq = s.psq ∧ (s.startGrab e es).archive = s.archive ∧ (s.startGrab e es).write = s.write ∧
    (s.startGrab e es).erase = s.erase ∧ (s.startGrab e es).audit = s.audit ∧
    (s.startGrab e es).auditNext = s.auditNext ∧ (s.startGrab e es).alarms = s.alarms ∧
    (s.startGrab e es).flags = s.flags ∧ (s.startGrab e es).link = s.link ∧ (s.startGrab e es).reply = s.reply ∧
    (s.startGrab e es).pending = s.pending := by
  simp [State.startGrab]

/-- Leaving HALTED (R165). -/
@[simp] theorem State.leaveHalt_frame :
    (s.leaveHalt).now = s.now ∧ (s.leaveHalt).phase = s.phase ∧ (s.leaveHalt).powered = s.powered ∧
    (s.leaveHalt).resetActive = s.resetActive ∧ (s.leaveHalt).ret = s.ret ∧ (s.leaveHalt).bankA = s.bankA ∧
    (s.leaveHalt).bankB = s.bankB ∧ (s.leaveHalt).current = s.current ∧ (s.leaveHalt).clock = s.clock ∧
    (s.leaveHalt).secondFrom = s.secondFrom ∧ (s.leaveHalt).params = s.params ∧ (s.leaveHalt).locks = s.locks ∧
    (s.leaveHalt).recordedSeal = s.recordedSeal ∧ (s.leaveHalt).sealInput = s.sealInput ∧
    (s.leaveHalt).staging = s.staging ∧ (s.leaveHalt).pulses = s.pulses ∧ (s.leaveHalt).cen = s.cen ∧
    (s.leaveHalt).values = s.values ∧ (s.leaveHalt).snapshot = s.snapshot ∧
    (s.leaveHalt).snapshotSeq = s.snapshotSeq ∧ (s.leaveHalt).psq = s.psq ∧ (s.leaveHalt).archive = s.archive ∧
    (s.leaveHalt).write = s.write ∧ (s.leaveHalt).erase = s.erase ∧ (s.leaveHalt).audit = s.audit ∧
    (s.leaveHalt).auditNext = s.auditNext ∧ (s.leaveHalt).link = s.link ∧ (s.leaveHalt).reply = s.reply ∧
    (s.leaveHalt).pending = s.pending := by
  unfold State.leaveHalt; repeat' split
  all_goals simp

/-- Discarding the queue (R164, R166). -/
@[simp] theorem State.discardQueue_frame :
    s.discardQueue.now = s.now ∧ s.discardQueue.phase = s.phase ∧ s.discardQueue.powered = s.powered ∧
    s.discardQueue.resetActive = s.resetActive ∧ s.discardQueue.bankA = s.bankA ∧ s.discardQueue.bankB = s.bankB ∧
    s.discardQueue.current = s.current ∧ s.discardQueue.clock = s.clock ∧
    s.discardQueue.secondFrom = s.secondFrom ∧ s.discardQueue.params = s.params ∧ s.discardQueue.locks = s.locks ∧
    s.discardQueue.recordedSeal = s.recordedSeal ∧ s.discardQueue.sealInput = s.sealInput ∧
    s.discardQueue.staging = s.staging ∧ s.discardQueue.pulses = s.pulses ∧ s.discardQueue.cen = s.cen ∧
    s.discardQueue.values = s.values ∧ s.discardQueue.snapshot = s.snapshot ∧
    s.discardQueue.snapshotSeq = s.snapshotSeq ∧ s.discardQueue.psq = s.psq ∧ s.discardQueue.archive = s.archive ∧
    s.discardQueue.write = s.write ∧ s.discardQueue.erase = s.erase ∧ s.discardQueue.audit = s.audit ∧
    s.discardQueue.auditNext = s.auditNext ∧ s.discardQueue.link = s.link ∧ s.discardQueue.reply = s.reply ∧
    s.discardQueue.pending = s.pending := by
  have key : ∀ (q : List OwedGrab) (s : State),
    (q.foldl (fun s e => s.missGrab e.batchId) s).now = s.now ∧
    (q.foldl (fun s e => s.missGrab e.batchId) s).phase = s.phase ∧
    (q.foldl (fun s e => s.missGrab e.batchId) s).powered = s.powered ∧
    (q.foldl (fun s e => s.missGrab e.batchId) s).resetActive = s.resetActive ∧
    (q.foldl (fun s e => s.missGrab e.batchId) s).bankA = s.bankA ∧
    (q.foldl (fun s e => s.missGrab e.batchId) s).bankB = s.bankB ∧
    (q.foldl (fun s e => s.missGrab e.batchId) s).current = s.current ∧
    (q.foldl (fun s e => s.missGrab e.batchId) s).clock = s.clock ∧
    (q.foldl (fun s e => s.missGrab e.batchId) s).secondFrom = s.secondFrom ∧
    (q.foldl (fun s e => s.missGrab e.batchId) s).params = s.params ∧
    (q.foldl (fun s e => s.missGrab e.batchId) s).locks = s.locks ∧
    (q.foldl (fun s e => s.missGrab e.batchId) s).recordedSeal = s.recordedSeal ∧
    (q.foldl (fun s e => s.missGrab e.batchId) s).sealInput = s.sealInput ∧
    (q.foldl (fun s e => s.missGrab e.batchId) s).staging = s.staging ∧
    (q.foldl (fun s e => s.missGrab e.batchId) s).pulses = s.pulses ∧
    (q.foldl (fun s e => s.missGrab e.batchId) s).cen = s.cen ∧
    (q.foldl (fun s e => s.missGrab e.batchId) s).values = s.values ∧
    (q.foldl (fun s e => s.missGrab e.batchId) s).snapshot = s.snapshot ∧
    (q.foldl (fun s e => s.missGrab e.batchId) s).snapshotSeq = s.snapshotSeq ∧
    (q.foldl (fun s e => s.missGrab e.batchId) s).psq = s.psq ∧
    (q.foldl (fun s e => s.missGrab e.batchId) s).smc = s.smc ∧
    (q.foldl (fun s e => s.missGrab e.batchId) s).archive = s.archive ∧
    (q.foldl (fun s e => s.missGrab e.batchId) s).write = s.write ∧
    (q.foldl (fun s e => s.missGrab e.batchId) s).erase = s.erase ∧
    (q.foldl (fun s e => s.missGrab e.batchId) s).audit = s.audit ∧
    (q.foldl (fun s e => s.missGrab e.batchId) s).auditNext = s.auditNext ∧
    (q.foldl (fun s e => s.missGrab e.batchId) s).alarms = s.alarms ∧
    (q.foldl (fun s e => s.missGrab e.batchId) s).flags = s.flags ∧
    (q.foldl (fun s e => s.missGrab e.batchId) s).link = s.link ∧
    (q.foldl (fun s e => s.missGrab e.batchId) s).reply = s.reply ∧
    (q.foldl (fun s e => s.missGrab e.batchId) s).pending = s.pending := by
    intro q
    induction q with
    | nil => intro s; simp
    | cons e q ih => intro s; have := ih (s.missGrab e.batchId); simp_all
  unfold State.discardQueue
  split
  · simp
  · simp [key]

/-- The sampler halts (R164). -/
@[simp] theorem State.halt_frame (c : Can) :
    (s.halt c).now = s.now ∧ (s.halt c).phase = s.phase ∧ (s.halt c).powered = s.powered ∧
    (s.halt c).resetActive = s.resetActive ∧ (s.halt c).bankA = s.bankA ∧ (s.halt c).bankB = s.bankB ∧
    (s.halt c).current = s.current ∧ (s.halt c).clock = s.clock ∧ (s.halt c).secondFrom = s.secondFrom ∧
    (s.halt c).params = s.params ∧ (s.halt c).locks = s.locks ∧ (s.halt c).recordedSeal = s.recordedSeal ∧
    (s.halt c).sealInput = s.sealInput ∧ (s.halt c).staging = s.staging ∧ (s.halt c).pulses = s.pulses ∧
    (s.halt c).cen = s.cen ∧ (s.halt c).values = s.values ∧ (s.halt c).snapshot = s.snapshot ∧
    (s.halt c).snapshotSeq = s.snapshotSeq ∧ (s.halt c).psq = s.psq ∧ (s.halt c).archive = s.archive ∧
    (s.halt c).write = s.write ∧ (s.halt c).erase = s.erase ∧ (s.halt c).audit = s.audit ∧
    (s.halt c).auditNext = s.auditNext ∧ (s.halt c).link = s.link ∧ (s.halt c).reply = s.reply ∧
    (s.halt c).pending = s.pending := by
  simp [State.halt]

/-- The head of the queue is examined (R161). -/
@[simp] theorem State.examineHead_frame :
    (s.examineHead).now = s.now ∧ (s.examineHead).phase = s.phase ∧ (s.examineHead).powered = s.powered ∧
    (s.examineHead).resetActive = s.resetActive ∧ (s.examineHead).bankA = s.bankA ∧
    (s.examineHead).bankB = s.bankB ∧ (s.examineHead).current = s.current ∧ (s.examineHead).clock = s.clock ∧
    (s.examineHead).secondFrom = s.secondFrom ∧ (s.examineHead).params = s.params ∧
    (s.examineHead).locks = s.locks ∧ (s.examineHead).recordedSeal = s.recordedSeal ∧
    (s.examineHead).sealInput = s.sealInput ∧ (s.examineHead).staging = s.staging ∧
    (s.examineHead).pulses = s.pulses ∧ (s.examineHead).cen = s.cen ∧ (s.examineHead).values = s.values ∧
    (s.examineHead).snapshot = s.snapshot ∧ (s.examineHead).snapshotSeq = s.snapshotSeq ∧
    (s.examineHead).psq = s.psq ∧ (s.examineHead).archive = s.archive ∧ (s.examineHead).write = s.write ∧
    (s.examineHead).erase = s.erase ∧ (s.examineHead).audit = s.audit ∧ (s.examineHead).auditNext = s.auditNext ∧
    (s.examineHead).link = s.link ∧ (s.examineHead).reply = s.reply ∧ (s.examineHead).pending = s.pending := by
  unfold State.examineHead; repeat' split
  all_goals simp

/-- One due grab (R159, R160). -/
@[simp] theorem State.dueGrab_frame (id : Nat) (c : Can) :
    (s.dueGrab id c).now = s.now ∧ (s.dueGrab id c).phase = s.phase ∧ (s.dueGrab id c).powered = s.powered ∧
    (s.dueGrab id c).resetActive = s.resetActive ∧ (s.dueGrab id c).bankA = s.bankA ∧
    (s.dueGrab id c).bankB = s.bankB ∧ (s.dueGrab id c).current = s.current ∧ (s.dueGrab id c).clock = s.clock ∧
    (s.dueGrab id c).secondFrom = s.secondFrom ∧ (s.dueGrab id c).params = s.params ∧
    (s.dueGrab id c).locks = s.locks ∧ (s.dueGrab id c).recordedSeal = s.recordedSeal ∧
    (s.dueGrab id c).sealInput = s.sealInput ∧ (s.dueGrab id c).staging = s.staging ∧
    (s.dueGrab id c).pulses = s.pulses ∧ (s.dueGrab id c).cen = s.cen ∧ (s.dueGrab id c).values = s.values ∧
    (s.dueGrab id c).snapshot = s.snapshot ∧ (s.dueGrab id c).snapshotSeq = s.snapshotSeq ∧
    (s.dueGrab id c).psq = s.psq ∧ (s.dueGrab id c).archive = s.archive ∧ (s.dueGrab id c).write = s.write ∧
    (s.dueGrab id c).erase = s.erase ∧ (s.dueGrab id c).audit = s.audit ∧
    (s.dueGrab id c).auditNext = s.auditNext ∧ (s.dueGrab id c).link = s.link ∧ (s.dueGrab id c).reply = s.reply ∧
    (s.dueGrab id c).pending = s.pending := by
  unfold State.dueGrab; split <;> simp

/-- The due grabs of one crediting (R158). -/
@[simp] theorem State.dueGrabs_frame (id : Nat) (c : Can) (n : Nat) :
    (s.dueGrabs id c n).now = s.now ∧ (s.dueGrabs id c n).phase = s.phase ∧
    (s.dueGrabs id c n).powered = s.powered ∧ (s.dueGrabs id c n).resetActive = s.resetActive ∧
    (s.dueGrabs id c n).bankA = s.bankA ∧ (s.dueGrabs id c n).bankB = s.bankB ∧
    (s.dueGrabs id c n).current = s.current ∧ (s.dueGrabs id c n).clock = s.clock ∧
    (s.dueGrabs id c n).secondFrom = s.secondFrom ∧ (s.dueGrabs id c n).params = s.params ∧
    (s.dueGrabs id c n).locks = s.locks ∧ (s.dueGrabs id c n).recordedSeal = s.recordedSeal ∧
    (s.dueGrabs id c n).sealInput = s.sealInput ∧ (s.dueGrabs id c n).staging = s.staging ∧
    (s.dueGrabs id c n).pulses = s.pulses ∧ (s.dueGrabs id c n).cen = s.cen ∧
    (s.dueGrabs id c n).values = s.values ∧ (s.dueGrabs id c n).snapshot = s.snapshot ∧
    (s.dueGrabs id c n).snapshotSeq = s.snapshotSeq ∧ (s.dueGrabs id c n).psq = s.psq ∧
    (s.dueGrabs id c n).archive = s.archive ∧ (s.dueGrabs id c n).write = s.write ∧
    (s.dueGrabs id c n).erase = s.erase ∧ (s.dueGrabs id c n).audit = s.audit ∧
    (s.dueGrabs id c n).auditNext = s.auditNext ∧ (s.dueGrabs id c n).link = s.link ∧
    (s.dueGrabs id c n).reply = s.reply ∧ (s.dueGrabs id c n).pending = s.pending := by
  induction n generalizing s with
  | zero => simp [State.dueGrabs]
  | succ n ih => have := ih (s.dueGrab id c); simp_all [State.dueGrabs]

/-- A crediting's volume reaches a batch's accumulator (R158). -/
@[simp] theorem State.sampleBatch_frame (b : Batch) (g : Nat) :
    (s.sampleBatch b g).now = s.now ∧ (s.sampleBatch b g).phase = s.phase ∧
    (s.sampleBatch b g).powered = s.powered ∧ (s.sampleBatch b g).resetActive = s.resetActive ∧
    (s.sampleBatch b g).bankA = s.bankA ∧ (s.sampleBatch b g).bankB = s.bankB ∧
    (s.sampleBatch b g).current = s.current ∧ (s.sampleBatch b g).clock = s.clock ∧
    (s.sampleBatch b g).secondFrom = s.secondFrom ∧ (s.sampleBatch b g).params = s.params ∧
    (s.sampleBatch b g).locks = s.locks ∧ (s.sampleBatch b g).recordedSeal = s.recordedSeal ∧
    (s.sampleBatch b g).sealInput = s.sealInput ∧ (s.sampleBatch b g).staging = s.staging ∧
    (s.sampleBatch b g).pulses = s.pulses ∧ (s.sampleBatch b g).cen = s.cen ∧
    (s.sampleBatch b g).values = s.values ∧ (s.sampleBatch b g).snapshot = s.snapshot ∧
    (s.sampleBatch b g).snapshotSeq = s.snapshotSeq ∧ (s.sampleBatch b g).psq = s.psq ∧
    (s.sampleBatch b g).archive = s.archive ∧ (s.sampleBatch b g).write = s.write ∧
    (s.sampleBatch b g).erase = s.erase ∧ (s.sampleBatch b g).audit = s.audit ∧
    (s.sampleBatch b g).auditNext = s.auditNext ∧ (s.sampleBatch b g).link = s.link ∧
    (s.sampleBatch b g).reply = s.reply ∧ (s.sampleBatch b g).pending = s.pending := by
  unfold State.sampleBatch; repeat' split
  all_goals simp

/-- The Sampler Controller's part of a crediting. -/
@[simp] theorem State.sampleCredit_frame (c : CreditTarget) (g : Nat) :
    (s.sampleCredit c g).now = s.now ∧ (s.sampleCredit c g).phase = s.phase ∧
    (s.sampleCredit c g).powered = s.powered ∧ (s.sampleCredit c g).resetActive = s.resetActive ∧
    (s.sampleCredit c g).bankA = s.bankA ∧ (s.sampleCredit c g).bankB = s.bankB ∧
    (s.sampleCredit c g).current = s.current ∧ (s.sampleCredit c g).clock = s.clock ∧
    (s.sampleCredit c g).secondFrom = s.secondFrom ∧ (s.sampleCredit c g).params = s.params ∧
    (s.sampleCredit c g).locks = s.locks ∧ (s.sampleCredit c g).recordedSeal = s.recordedSeal ∧
    (s.sampleCredit c g).sealInput = s.sealInput ∧ (s.sampleCredit c g).staging = s.staging ∧
    (s.sampleCredit c g).pulses = s.pulses ∧ (s.sampleCredit c g).cen = s.cen ∧
    (s.sampleCredit c g).values = s.values ∧ (s.sampleCredit c g).snapshot = s.snapshot ∧
    (s.sampleCredit c g).snapshotSeq = s.snapshotSeq ∧ (s.sampleCredit c g).psq = s.psq ∧
    (s.sampleCredit c g).archive = s.archive ∧ (s.sampleCredit c g).write = s.write ∧
    (s.sampleCredit c g).erase = s.erase ∧ (s.sampleCredit c g).audit = s.audit ∧
    (s.sampleCredit c g).auditNext = s.auditNext ∧ (s.sampleCredit c g).link = s.link ∧
    (s.sampleCredit c g).reply = s.reply ∧ (s.sampleCredit c g).pending = s.pending := by
  unfold State.sampleCredit; repeat' split
  all_goals simp

/-- Recording an outcome (R153). -/
@[simp] theorem State.recordOutcome_frame (n : Nat) (o : ProveOutcome) :
    (s.recordOutcome n o).now = s.now ∧ (s.recordOutcome n o).phase = s.phase ∧
    (s.recordOutcome n o).powered = s.powered ∧ (s.recordOutcome n o).resetActive = s.resetActive ∧
    (s.recordOutcome n o).bankA = s.bankA ∧ (s.recordOutcome n o).bankB = s.bankB ∧
    (s.recordOutcome n o).current = s.current ∧ (s.recordOutcome n o).clock = s.clock ∧
    (s.recordOutcome n o).secondFrom = s.secondFrom ∧ (s.recordOutcome n o).params = s.params ∧
    (s.recordOutcome n o).locks = s.locks ∧ (s.recordOutcome n o).recordedSeal = s.recordedSeal ∧
    (s.recordOutcome n o).sealInput = s.sealInput ∧ (s.recordOutcome n o).staging = s.staging ∧
    (s.recordOutcome n o).pulses = s.pulses ∧ (s.recordOutcome n o).cen = s.cen ∧
    (s.recordOutcome n o).values = s.values ∧ (s.recordOutcome n o).snapshot = s.snapshot ∧
    (s.recordOutcome n o).snapshotSeq = s.snapshotSeq ∧ (s.recordOutcome n o).psq = s.psq ∧
    (s.recordOutcome n o).smc = s.smc ∧ (s.recordOutcome n o).archive = s.archive ∧
    (s.recordOutcome n o).write = s.write ∧ (s.recordOutcome n o).erase = s.erase ∧
    (s.recordOutcome n o).audit = s.audit ∧ (s.recordOutcome n o).auditNext = s.auditNext ∧
    (s.recordOutcome n o).alarms = s.alarms ∧ (s.recordOutcome n o).link = s.link ∧
    (s.recordOutcome n o).reply = s.reply ∧ (s.recordOutcome n o).pending = s.pending := by
  unfold State.recordOutcome; split <;> simp

/-- The completion of a prove (R153). -/
@[simp] theorem State.completeProve_frame (o : ProveOutcome) :
    (s.completeProve o).now = s.now ∧ (s.completeProve o).phase = s.phase ∧
    (s.completeProve o).powered = s.powered ∧ (s.completeProve o).resetActive = s.resetActive ∧
    (s.completeProve o).bankA = s.bankA ∧ (s.completeProve o).bankB = s.bankB ∧
    (s.completeProve o).current = s.current ∧ (s.completeProve o).clock = s.clock ∧
    (s.completeProve o).secondFrom = s.secondFrom ∧ (s.completeProve o).params = s.params ∧
    (s.completeProve o).locks = s.locks ∧ (s.completeProve o).recordedSeal = s.recordedSeal ∧
    (s.completeProve o).sealInput = s.sealInput ∧ (s.completeProve o).staging = s.staging ∧
    (s.completeProve o).pulses = s.pulses ∧ (s.completeProve o).cen = s.cen ∧
    (s.completeProve o).values = s.values ∧ (s.completeProve o).snapshot = s.snapshot ∧
    (s.completeProve o).snapshotSeq = s.snapshotSeq ∧ (s.completeProve o).smc = s.smc ∧
    (s.completeProve o).archive = s.archive ∧ (s.completeProve o).write = s.write ∧
    (s.completeProve o).erase = s.erase ∧ (s.completeProve o).audit = s.audit ∧
    (s.completeProve o).auditNext = s.auditNext ∧ (s.completeProve o).alarms = s.alarms ∧
    (s.completeProve o).link = s.link ∧ (s.completeProve o).reply = s.reply ∧
    (s.completeProve o).pending = s.pending := by
  simp [State.completeProve]

/-- Cancelling a capture (R20). -/
@[simp] theorem State.cancelCapture_frame (r : Run) :
    (s.cancelCapture r).now = s.now ∧ (s.cancelCapture r).phase = s.phase ∧
    (s.cancelCapture r).powered = s.powered ∧ (s.cancelCapture r).resetActive = s.resetActive ∧
    (s.cancelCapture r).ret = s.ret ∧ (s.cancelCapture r).bankA = s.bankA ∧ (s.cancelCapture r).bankB = s.bankB ∧
    (s.cancelCapture r).current = s.current ∧ (s.cancelCapture r).clock = s.clock ∧
    (s.cancelCapture r).secondFrom = s.secondFrom ∧ (s.cancelCapture r).params = s.params ∧
    (s.cancelCapture r).locks = s.locks ∧ (s.cancelCapture r).recordedSeal = s.recordedSeal ∧
    (s.cancelCapture r).sealInput = s.sealInput ∧ (s.cancelCapture r).staging = s.staging ∧
    (s.cancelCapture r).cen = s.cen ∧ (s.cancelCapture r).values = s.values ∧
    (s.cancelCapture r).snapshot = s.snapshot ∧ (s.cancelCapture r).snapshotSeq = s.snapshotSeq ∧
    (s.cancelCapture r).psq = s.psq ∧ (s.cancelCapture r).smc = s.smc ∧ (s.cancelCapture r).archive = s.archive ∧
    (s.cancelCapture r).write = s.write ∧ (s.cancelCapture r).erase = s.erase ∧
    (s.cancelCapture r).audit = s.audit ∧ (s.cancelCapture r).auditNext = s.auditNext ∧
    (s.cancelCapture r).alarms = s.alarms ∧ (s.cancelCapture r).flags = s.flags ∧
    (s.cancelCapture r).link = s.link ∧ (s.cancelCapture r).reply = s.reply ∧
    (s.cancelCapture r).pending = s.pending := by
  simp [State.cancelCapture]

/-- Removing a pass watch (R21). -/
@[simp] theorem State.removeWatch_frame (r : Run) :
    (s.removeWatch r).now = s.now ∧ (s.removeWatch r).phase = s.phase ∧ (s.removeWatch r).powered = s.powered ∧
    (s.removeWatch r).resetActive = s.resetActive ∧ (s.removeWatch r).ret = s.ret ∧
    (s.removeWatch r).bankA = s.bankA ∧ (s.removeWatch r).bankB = s.bankB ∧ (s.removeWatch r).current = s.current ∧
    (s.removeWatch r).clock = s.clock ∧ (s.removeWatch r).secondFrom = s.secondFrom ∧
    (s.removeWatch r).params = s.params ∧ (s.removeWatch r).locks = s.locks ∧
    (s.removeWatch r).recordedSeal = s.recordedSeal ∧ (s.removeWatch r).sealInput = s.sealInput ∧
    (s.removeWatch r).staging = s.staging ∧ (s.removeWatch r).cen = s.cen ∧ (s.removeWatch r).values = s.values ∧
    (s.removeWatch r).snapshot = s.snapshot ∧ (s.removeWatch r).snapshotSeq = s.snapshotSeq ∧
    (s.removeWatch r).psq = s.psq ∧ (s.removeWatch r).smc = s.smc ∧ (s.removeWatch r).archive = s.archive ∧
    (s.removeWatch r).write = s.write ∧ (s.removeWatch r).erase = s.erase ∧ (s.removeWatch r).audit = s.audit ∧
    (s.removeWatch r).auditNext = s.auditNext ∧ (s.removeWatch r).alarms = s.alarms ∧
    (s.removeWatch r).flags = s.flags ∧ (s.removeWatch r).link = s.link ∧ (s.removeWatch r).reply = s.reply ∧
    (s.removeWatch r).pending = s.pending := by
  simp [State.removeWatch]

/-- Opening a pass watch (R21). -/
@[simp] theorem State.openWatch_frame (r : Run) (t : Stamp) :
    (s.openWatch r t).now = s.now ∧ (s.openWatch r t).phase = s.phase ∧ (s.openWatch r t).powered = s.powered ∧
    (s.openWatch r t).resetActive = s.resetActive ∧ (s.openWatch r t).ret = s.ret ∧
    (s.openWatch r t).bankA = s.bankA ∧ (s.openWatch r t).bankB = s.bankB ∧ (s.openWatch r t).current = s.current ∧
    (s.openWatch r t).clock = s.clock ∧ (s.openWatch r t).secondFrom = s.secondFrom ∧
    (s.openWatch r t).params = s.params ∧ (s.openWatch r t).locks = s.locks ∧
    (s.openWatch r t).recordedSeal = s.recordedSeal ∧ (s.openWatch r t).sealInput = s.sealInput ∧
    (s.openWatch r t).staging = s.staging ∧ (s.openWatch r t).cen = s.cen ∧ (s.openWatch r t).values = s.values ∧
    (s.openWatch r t).snapshot = s.snapshot ∧ (s.openWatch r t).snapshotSeq = s.snapshotSeq ∧
    (s.openWatch r t).psq = s.psq ∧ (s.openWatch r t).smc = s.smc ∧ (s.openWatch r t).archive = s.archive ∧
    (s.openWatch r t).write = s.write ∧ (s.openWatch r t).erase = s.erase ∧ (s.openWatch r t).audit = s.audit ∧
    (s.openWatch r t).auditNext = s.auditNext ∧ (s.openWatch r t).alarms = s.alarms ∧
    (s.openWatch r t).flags = s.flags ∧ (s.openWatch r t).link = s.link ∧ (s.openWatch r t).reply = s.reply ∧
    (s.openWatch r t).pending = s.pending := by
  simp [State.openWatch]

/-- Dropping the pass of the prove run (R150, R152). -/
@[simp] theorem State.dropPass_frame :
    (s.dropPass).now = s.now ∧ (s.dropPass).phase = s.phase ∧ (s.dropPass).powered = s.powered ∧
    (s.dropPass).resetActive = s.resetActive ∧ (s.dropPass).ret = s.ret ∧ (s.dropPass).bankA = s.bankA ∧
    (s.dropPass).bankB = s.bankB ∧ (s.dropPass).current = s.current ∧ (s.dropPass).clock = s.clock ∧
    (s.dropPass).secondFrom = s.secondFrom ∧ (s.dropPass).params = s.params ∧ (s.dropPass).locks = s.locks ∧
    (s.dropPass).recordedSeal = s.recordedSeal ∧ (s.dropPass).sealInput = s.sealInput ∧
    (s.dropPass).staging = s.staging ∧ (s.dropPass).cen = s.cen ∧ (s.dropPass).values = s.values ∧
    (s.dropPass).snapshot = s.snapshot ∧ (s.dropPass).snapshotSeq = s.snapshotSeq ∧ (s.dropPass).psq = s.psq ∧
    (s.dropPass).smc = s.smc ∧ (s.dropPass).archive = s.archive ∧ (s.dropPass).write = s.write ∧
    (s.dropPass).erase = s.erase ∧ (s.dropPass).audit = s.audit ∧ (s.dropPass).auditNext = s.auditNext ∧
    (s.dropPass).alarms = s.alarms ∧ (s.dropPass).flags = s.flags ∧ (s.dropPass).link = s.link ∧
    (s.dropPass).reply = s.reply ∧ (s.dropPass).pending = s.pending := by
  simp [State.dropPass]

/-- The failure of a prove (R150). -/
@[simp] theorem State.failProve_frame (c : ProveCause) :
    (s.failProve c).now = s.now ∧ (s.failProve c).phase = s.phase ∧ (s.failProve c).powered = s.powered ∧
    (s.failProve c).resetActive = s.resetActive ∧ (s.failProve c).bankA = s.bankA ∧
    (s.failProve c).bankB = s.bankB ∧ (s.failProve c).current = s.current ∧ (s.failProve c).clock = s.clock ∧
    (s.failProve c).secondFrom = s.secondFrom ∧ (s.failProve c).params = s.params ∧
    (s.failProve c).locks = s.locks ∧ (s.failProve c).recordedSeal = s.recordedSeal ∧
    (s.failProve c).sealInput = s.sealInput ∧ (s.failProve c).staging = s.staging ∧ (s.failProve c).cen = s.cen ∧
    (s.failProve c).values = s.values ∧ (s.failProve c).snapshot = s.snapshot ∧
    (s.failProve c).snapshotSeq = s.snapshotSeq ∧ (s.failProve c).smc = s.smc ∧
    (s.failProve c).archive = s.archive ∧ (s.failProve c).write = s.write ∧ (s.failProve c).erase = s.erase ∧
    (s.failProve c).audit = s.audit ∧ (s.failProve c).auditNext = s.auditNext ∧ (s.failProve c).link = s.link ∧
    (s.failProve c).reply = s.reply ∧ (s.failProve c).pending = s.pending := by
  simp [State.failProve]

/-- The completion of a launch (R132). -/
@[simp] theorem State.completeLaunch_frame (p : ProverState) :
    (s.completeLaunch p).now = s.now ∧ (s.completeLaunch p).phase = s.phase ∧
    (s.completeLaunch p).powered = s.powered ∧ (s.completeLaunch p).resetActive = s.resetActive ∧
    (s.completeLaunch p).ret = s.ret ∧ (s.completeLaunch p).bankA = s.bankA ∧
    (s.completeLaunch p).bankB = s.bankB ∧ (s.completeLaunch p).current = s.current ∧
    (s.completeLaunch p).clock = s.clock ∧ (s.completeLaunch p).secondFrom = s.secondFrom ∧
    (s.completeLaunch p).params = s.params ∧ (s.completeLaunch p).locks = s.locks ∧
    (s.completeLaunch p).recordedSeal = s.recordedSeal ∧ (s.completeLaunch p).sealInput = s.sealInput ∧
    (s.completeLaunch p).staging = s.staging ∧ (s.completeLaunch p).pulses = s.pulses ∧
    (s.completeLaunch p).cen = s.cen ∧ (s.completeLaunch p).values = s.values ∧
    (s.completeLaunch p).snapshot = s.snapshot ∧ (s.completeLaunch p).snapshotSeq = s.snapshotSeq ∧
    (s.completeLaunch p).smc = s.smc ∧ (s.completeLaunch p).archive = s.archive ∧
    (s.completeLaunch p).write = s.write ∧ (s.completeLaunch p).erase = s.erase ∧
    (s.completeLaunch p).audit = s.audit ∧ (s.completeLaunch p).auditNext = s.auditNext ∧
    (s.completeLaunch p).alarms = s.alarms ∧ (s.completeLaunch p).flags = s.flags ∧
    (s.completeLaunch p).link = s.link ∧ (s.completeLaunch p).reply = s.reply ∧
    (s.completeLaunch p).pending = s.pending := by
  simp [State.completeLaunch]

/-- Trying to complete a launch (R132). -/
@[simp] theorem State.tryLaunch_frame :
    (s.tryLaunch).now = s.now ∧ (s.tryLaunch).phase = s.phase ∧ (s.tryLaunch).powered = s.powered ∧
    (s.tryLaunch).resetActive = s.resetActive ∧ (s.tryLaunch).ret = s.ret ∧ (s.tryLaunch).bankA = s.bankA ∧
    (s.tryLaunch).bankB = s.bankB ∧ (s.tryLaunch).current = s.current ∧ (s.tryLaunch).clock = s.clock ∧
    (s.tryLaunch).secondFrom = s.secondFrom ∧ (s.tryLaunch).params = s.params ∧ (s.tryLaunch).locks = s.locks ∧
    (s.tryLaunch).recordedSeal = s.recordedSeal ∧ (s.tryLaunch).sealInput = s.sealInput ∧
    (s.tryLaunch).staging = s.staging ∧ (s.tryLaunch).pulses = s.pulses ∧ (s.tryLaunch).cen = s.cen ∧
    (s.tryLaunch).values = s.values ∧ (s.tryLaunch).snapshot = s.snapshot ∧
    (s.tryLaunch).snapshotSeq = s.snapshotSeq ∧ (s.tryLaunch).smc = s.smc ∧ (s.tryLaunch).archive = s.archive ∧
    (s.tryLaunch).write = s.write ∧ (s.tryLaunch).erase = s.erase ∧ (s.tryLaunch).audit = s.audit ∧
    (s.tryLaunch).auditNext = s.auditNext ∧ (s.tryLaunch).alarms = s.alarms ∧ (s.tryLaunch).flags = s.flags ∧
    (s.tryLaunch).link = s.link ∧ (s.tryLaunch).reply = s.reply ∧ (s.tryLaunch).pending = s.pending := by
  unfold State.tryLaunch; repeat' split
  all_goals simp

/-- The entry to a LAUNCH state (R132). -/
@[simp] theorem State.enterLaunch_frame (b : Bool) :
    (s.enterLaunch b).now = s.now ∧ (s.enterLaunch b).phase = s.phase ∧ (s.enterLaunch b).powered = s.powered ∧
    (s.enterLaunch b).resetActive = s.resetActive ∧ (s.enterLaunch b).ret = s.ret ∧
    (s.enterLaunch b).bankA = s.bankA ∧ (s.enterLaunch b).bankB = s.bankB ∧ (s.enterLaunch b).current = s.current ∧
    (s.enterLaunch b).clock = s.clock ∧ (s.enterLaunch b).secondFrom = s.secondFrom ∧
    (s.enterLaunch b).params = s.params ∧ (s.enterLaunch b).locks = s.locks ∧
    (s.enterLaunch b).recordedSeal = s.recordedSeal ∧ (s.enterLaunch b).sealInput = s.sealInput ∧
    (s.enterLaunch b).staging = s.staging ∧ (s.enterLaunch b).pulses = s.pulses ∧ (s.enterLaunch b).cen = s.cen ∧
    (s.enterLaunch b).values = s.values ∧ (s.enterLaunch b).snapshot = s.snapshot ∧
    (s.enterLaunch b).snapshotSeq = s.snapshotSeq ∧ (s.enterLaunch b).smc = s.smc ∧
    (s.enterLaunch b).archive = s.archive ∧ (s.enterLaunch b).write = s.write ∧ (s.enterLaunch b).erase = s.erase ∧
    (s.enterLaunch b).audit = s.audit ∧ (s.enterLaunch b).auditNext = s.auditNext ∧
    (s.enterLaunch b).alarms = s.alarms ∧ (s.enterLaunch b).flags = s.flags ∧ (s.enterLaunch b).link = s.link ∧
    (s.enterLaunch b).reply = s.reply ∧ (s.enterLaunch b).pending = s.pending := by
  simp [State.enterLaunch]

/-- Trying to complete ROUTING (R131). -/
@[simp] theorem State.tryRoute_frame :
    (s.tryRoute).now = s.now ∧ (s.tryRoute).phase = s.phase ∧ (s.tryRoute).powered = s.powered ∧
    (s.tryRoute).resetActive = s.resetActive ∧ (s.tryRoute).ret = s.ret ∧ (s.tryRoute).bankA = s.bankA ∧
    (s.tryRoute).bankB = s.bankB ∧ (s.tryRoute).current = s.current ∧ (s.tryRoute).clock = s.clock ∧
    (s.tryRoute).secondFrom = s.secondFrom ∧ (s.tryRoute).params = s.params ∧ (s.tryRoute).locks = s.locks ∧
    (s.tryRoute).recordedSeal = s.recordedSeal ∧ (s.tryRoute).sealInput = s.sealInput ∧
    (s.tryRoute).staging = s.staging ∧ (s.tryRoute).pulses = s.pulses ∧ (s.tryRoute).cen = s.cen ∧
    (s.tryRoute).values = s.values ∧ (s.tryRoute).snapshot = s.snapshot ∧
    (s.tryRoute).snapshotSeq = s.snapshotSeq ∧ (s.tryRoute).smc = s.smc ∧ (s.tryRoute).archive = s.archive ∧
    (s.tryRoute).write = s.write ∧ (s.tryRoute).erase = s.erase ∧ (s.tryRoute).audit = s.audit ∧
    (s.tryRoute).auditNext = s.auditNext ∧ (s.tryRoute).alarms = s.alarms ∧ (s.tryRoute).flags = s.flags ∧
    (s.tryRoute).link = s.link ∧ (s.tryRoute).reply = s.reply ∧ (s.tryRoute).pending = s.pending := by
  unfold State.tryRoute; repeat' split
  all_goals simp

/-- A result that waits (R146). -/
@[simp] theorem State.holdResult_frame (x : ProveResult) :
    (s.holdResult x).now = s.now ∧ (s.holdResult x).phase = s.phase ∧ (s.holdResult x).powered = s.powered ∧
    (s.holdResult x).resetActive = s.resetActive ∧ (s.holdResult x).bankA = s.bankA ∧
    (s.holdResult x).bankB = s.bankB ∧ (s.holdResult x).current = s.current ∧ (s.holdResult x).clock = s.clock ∧
    (s.holdResult x).secondFrom = s.secondFrom ∧ (s.holdResult x).params = s.params ∧
    (s.holdResult x).locks = s.locks ∧ (s.holdResult x).recordedSeal = s.recordedSeal ∧
    (s.holdResult x).sealInput = s.sealInput ∧ (s.holdResult x).staging = s.staging ∧
    (s.holdResult x).pulses = s.pulses ∧ (s.holdResult x).cen = s.cen ∧ (s.holdResult x).values = s.values ∧
    (s.holdResult x).snapshot = s.snapshot ∧ (s.holdResult x).snapshotSeq = s.snapshotSeq ∧
    (s.holdResult x).smc = s.smc ∧ (s.holdResult x).archive = s.archive ∧ (s.holdResult x).write = s.write ∧
    (s.holdResult x).erase = s.erase ∧ (s.holdResult x).audit = s.audit ∧
    (s.holdResult x).auditNext = s.auditNext ∧ (s.holdResult x).alarms = s.alarms ∧
    (s.holdResult x).flags = s.flags ∧ (s.holdResult x).link = s.link ∧ (s.holdResult x).reply = s.reply ∧
    (s.holdResult x).pending = s.pending := by
  simp [State.holdResult]

end Basic

/-! ### Hand-over of edges, pending steps of an expiry, TXD -/

/-- The hand-over of an edge takes the filter width, and one tick with the filter OFF (R8, R9). -/
theorem handoverTicks_eq (w : FilterWidth) : handoverTicks w = if w = .off then 1 else filterTicks w := by
  cases w <;> rfl

/-- A run with no outstanding step of an expiry has none to finish (R4, R5). -/
theorem State.finishSteps_of_none {s : State} {r : Run} (h : s.cen[r].handover = none)
    (c : s.cen[r].computed = none) : s.finishSteps r = s := by
  simp only [State.finishSteps, h, c]

/-- A RUN SERVICE finishes nothing where no named run in service has an outstanding step (R4). -/
theorem State.finishNamed_of_none {s : State} {rs : List Run}
    (h : ∀ r ∈ rs, s.ret.service[r] = .inService → s.cen[r].handover = none ∧ s.cen[r].computed = none) :
    s.finishNamed rs = s := by
  induction rs with
  | nil => rfl
  | cons r rs ih =>
    have first : (if s.ret.service[r] = .inService then s.finishSteps r else s) = s := by
      split
      next hs => exact State.finishSteps_of_none (h r (by simp) hs).1 (h r (by simp) hs).2
      next => rfl
    show State.finishNamed (if s.ret.service[r] = .inService then s.finishSteps r else s) rs = s
    rw [first]
    exact ih (fun q hq => h q (List.mem_cons_of_mem r hq))

/-- A module that is not running leaves TXD idle, whatever was being sent (R215). -/
theorem State.txd_of_not_running {s : State} (h : s.phase ≠ .running) : s.txd = .idle := by
  unfold State.txd; split <;> simp_all

/-! ### Reading a body (R207) -/

/-- Reading as many bytes as stand before the rest takes exactly them. -/
@[simp] theorem readBytes_append (taken rest : List Byte) :
    readBytes taken.length (taken ++ rest) = .done taken rest := by
  simp [readBytes]

/-- A body that no reading of its fields fits is refused with BAD_LENGTH, whatever its fields hold. -/
theorem judgeBody_of_not_fits {p : Parse (Option Owner)} (h : p.fits = false) :
    judgeBody p = .refusal .badLength := by
  simp [judgeBody, h]

/-- The search of a stamp history (R20) answers the first entry that is at or after the tick, short where none stands
before it; what stands behind it makes no difference (log entry 31). -/
theorem searchHistory_append {t : Stamp} {older newer : List HistoryEntry} {e : HistoryEntry}
    (h : ∀ x ∈ older, atOrAfter x.stamp t = false) (he : atOrAfter e.stamp t = true) (reached : Bool) :
    searchHistory t reached (older ++ e :: newer) = some ⟨e, !reached && decide (older = [])⟩ := by
  induction older generalizing reached with
  | nil => simp [searchHistory, he]
  | cons x xs ih =>
    simp only [List.cons_append, searchHistory, h x (by simp)]
    simpa using ih (fun y hy => h y (by simp [hy])) true

/-- The search answers nothing exactly where no entry is at or after the tick: the capture then waits (R20). -/
theorem searchHistory_eq_none {t : Stamp} {es : List HistoryEntry} (reached : Bool) :
    searchHistory t reached es = none ↔ ∀ x ∈ es, atOrAfter x.stamp t = false := by
  induction es generalizing reached with
  | nil => simp [searchHistory]
  | cons x xs ih => by_cases hx : atOrAfter x.stamp t = true <;> simp_all [searchHistory]

end Sys2Proof.Machine
end

