-- ==== Sys2Proof/Tests/Slice0.lean ====
section
/-! SUPPORT. Tests: a term that each check of WellFormed refuses, the worked examples of the chapters, and one witness for
each statement that has hypotheses: a concrete state and operands that meet them, with each clause at a boundary. Every
expected figure of a worked example is the spec's. -/

open Sys2Proof Sys2Proof.Machine

namespace Sys2Proof.Tests

set_option Elab.async false

/-! ### WellFormed -/

/-- Each check refuses a term one past its limit, and accepts the limit. -/
theorem test_wellFormed_refuses :
    Instr.wellFormed (.liveValues [⟨256, .ok, 0⟩]) = false
      ∧ Instr.wellFormed (.liveValues (List.replicate 256 ⟨0, .ok, 0⟩)) = false
      ∧ Instr.wellFormed (.overrideSet 0 2147483648) = false ∧ Instr.wellFormed (.overrideSet 0 (-2147483649)) = false
      ∧ Instr.wellFormed (.overrideRelease 256) = false ∧ Instr.wellFormed (.readValues .list [256]) = false
      ∧ Instr.wellFormed (.stageOpen .prover none 256) = false ∧ Instr.wellFormed (.stageItem []) = false
      ∧ Instr.wellFormed (.stageItem (List.replicate 1025 0#8)) = false
      ∧ Instr.wellFormed (.lockSection 256) = false ∧ Instr.wellFormed (.readSection 256) = false
      ∧ Instr.wellFormed (.readRun 256) = false ∧ Instr.wellFormed (.readTotals .live .run (some 256) none) = false
      ∧ Instr.wellFormed (.readTotals .live .batch none (some 4294967296)) = false
      ∧ Instr.wellFormed (.batchQueueAdd ⟨4294967296, 1, none, none, none, none, none⟩) = false
      ∧ Instr.wellFormed (.batchQueueAdd ⟨1, 256, none, none, none, none, none⟩) = false
      ∧ Instr.wellFormed (.batchQueueAdd ⟨1, 1, some (List.replicate 17 65#8), none, none, none, none⟩) = false
      ∧ Instr.wellFormed (.batchQueueAdd ⟨1, 1, none, none, none, some 65536, none⟩) = false
      ∧ Instr.wellFormed (.batchQueueRemove 4294967296) = false ∧ Instr.wellFormed (.proveStart 256) = false
      ∧ Instr.wellFormed (.canReset 256) = false ∧ Instr.wellFormed (.ticketRead 4294967296) = false
      ∧ Instr.wellFormed (.ticketAck 4294967296) = false ∧ Instr.wellFormed (.alarmAck .one none (some 256)) = false
      ∧ Instr.wellFormed (.statusMatch (List.replicate 256 ⟨true, true⟩)) = false
      ∧ Instr.wellFormed (.setTime 4294967296) = false := by decide +kernel

theorem test_wellFormed_accepts :
    Instr.wellFormed (.overrideSet 255 2147483647) = true ∧ Instr.wellFormed (.setTime 4294967295) = true
      ∧ Instr.wellFormed (.stageItem (List.replicate 1024 0#8)) = true
      ∧ Instr.wellFormed (.batchQueueAdd ⟨999999, 255, some (List.replicate 16 65#8), none, none, some 65535, none⟩)
        = true := by
  decide +kernel

/-- The table gives no row bits, so no word spells a command. -/
theorem test_decodeTableWord (nbits w : Nat) : decodeTableWord nbits w = none := rfl

/-! ### Worked examples -/

/-- Section 11.2: over the nine characters "123456789" the code gives 29B1h. -/
theorem test_crc16 : crc16 [0x31#8, 0x32#8, 0x33#8, 0x34#8, 0x35#8, 0x36#8, 0x37#8, 0x38#8, 0x39#8] = 0x29B1#16 := by
  decide +kernel

/-- The curve of the worked interpolation of section 4.3. -/
def workedCurve : Curve := [⟨20000, 1003000⟩, ⟨30000, 1002150⟩, ⟨45000, 1001400⟩, ⟨55000, 1000900⟩]

/-- Section 4.3, worked interpolation. -/
theorem test_meterFactor :
    [8000, 20000, 20100, 25000, 30000, 49956, 55000, 61300].map (meterFactor workedCurve)
      = [1003000, 1003000, 1002991, 1002575, 1002150, 1001152, 1000900, 1000900] := by decide +kernel

/-- Section 4.7, worked period: factors and flow rate. -/
theorem test_factors :
    flowRate 1387661 1000 = 49956 ∧ ctlOf 1500 9250 (-320) 3847 = 978114 ∧ cplOf 760 1850 = 1001406
      ∧ ccfOf 1001152 978114 1001406 = 980618 ∧ flowRate 649009 640 = 36507 := by decide +kernel

/-- A module with METER r, the curve and the product of section 4.7 for run 2 and slot 3, its remainders and its four
values. -/
def worked47 : State :=
  { State.reset with
    params := { State.reset.params with
      meter := State.reset.params.meter.set 1 { Meter.factory with kx := 2465300 }
      curves := State.reset.params.curves.set 1 (State.reset.params.curves[(1 : Run)].set 3 workedCurve)
      products := State.reset.params.products.set 3 ⟨[], 1500, 9250, -320, 760, 8500, .live, .live, 0⟩ }
    values := ((State.reset.values.set 1 ⟨some 3847, .live, none, none, none, none, false⟩).set 5
      ⟨some 1850, .live, none, none, none, none, false⟩).set 10 ⟨some 8624, .live, none, none, none, none, false⟩
    cen := State.reset.cen.set 1 ⟨some ⟨3421, 0, 0, .dualOk, false, 1000, false, 0⟩, none, none⟩
    ret := { State.reset.ret with
      rem := State.reset.ret.rem.set 1 ⟨1234567, 412006, 88150, 503300, 6120⟩
      lastSlot := 3 } }

/-- Section 4.7, worked period: what the computation credits and carries (SW taken by override at 215). -/
theorem test_worked_period :
    (match exec (.periodComputation 1) (match exec (.overrideSet 11 215) worked47 with
      | .next s => s
      | _ => worked47) with
    | .next t => t.cen[(1 : Run)].computed.map (fun c => (c.record.quantities, c.record.q, c.record.mf, c.rem))
    | _ => none)
      = some (⟨1387661, 1389259, 1360765, 1357839, 1173524⟩, 49956, 1001152,
        ⟨571267, 997478, 442648, 858550, 3480⟩) := by decide +kernel

/-- Section 1.4, worked decoder sequence: the six lone edges' steps, and the step after the phase error. -/
theorem test_decoder_sequence :
    decoderStep ⟨false, false⟩ ⟨true, false⟩ = 1 ∧ decoderStep ⟨true, false⟩ ⟨true, true⟩ = 1
      ∧ decoderStep ⟨true, true⟩ ⟨false, true⟩ = 1 ∧ decoderStep ⟨false, true⟩ ⟨false, false⟩ = 1
      ∧ decoderStep ⟨false, false⟩ ⟨false, true⟩ = -1 ∧ decoderStep ⟨true, true⟩ ⟨false, true⟩ = 1 := by decide

/-- Section 5.5, worked rollover. -/
theorem test_rollover :
    (Cumulative.mk 99999999400000 0).add 1360765 = ⟨760765, 1⟩
      ∧ (Cumulative.mk 41206311000000 0).add 1360765 = ⟨41206312360765, 0⟩ := by decide +kernel

/-- Section 7.5, worked interpolation, and the reverse pass of section 7.11. -/
theorem test_passCount :
    passCount 36977 107904310 107911082 = 369746795 ∧ passCount 36977 107905700 107911185 = 369751205 := by
  decide +kernel

/-- A LIVE value of a sample. -/
def live (v : Int) : ValueUsed := ⟨v, .live⟩

/-- Section 7.11, the first round trip. -/
theorem test_first_round_trip :
    tripFigures 739498000 215810010
        [⟨live 3847, live 1850, live 3812, live 1790⟩, ⟨live 3849, live 1852, live 3815, live 1792⟩,
          ⟨live 3850, live 1851, live 3816, live 1791⟩, ⟨live 3848, live 1849, live 3813, live 1791⟩]
        { Meter.factory with kx := 2465300 } ⟨[], 1500, 9250, -320, 760, 8500, .live, .live, 0⟩
        { ProverParams.factory with bpv := 30002100, gamma := 335, tref := 1500 }
      = ⟨50038, 3849, 1851, 3814, 1791, 978095, 1001407, 978424, 1001361, 1000775, 1001260⟩ := by decide +kernel

/-- Section 7.11, the curve before and after PROVE ACCEPT. -/
theorem test_inserted_point :
    newCurveOf workedCurve ⟨50032, 1001262⟩
      = [⟨20000, 1003000⟩, ⟨30000, 1002150⟩, ⟨45000, 1001400⟩, ⟨50032, 1001262⟩, ⟨55000, 1000900⟩]
    ∧ meterFactor (newCurveOf workedCurve ⟨50032, 1001262⟩) 49956 = 1001264 := by decide +kernel

/-! ### The start of a factory module -/

/-- A module as it leaves the factory: stopped, both banks erased, parameter and archive memory with factory content. -/
def factory : State :=
  { State.reset with
    phase := .stopped, powered := false, audit := ⟨[], none⟩, auditNext := 0
    alarms := Vector.replicate 54 .normal, flags := .none
    bankA := ⟨.cold 0, 0, false⟩, bankB := ⟨.cold 0, 0, false⟩ }

set_option maxRecDepth 20000 in
/-- R97, R99, R100: its first start is cold and leaves the state that State.reset holds. -/
theorem test_first_start :
    (match exec (.powerUp true) factory with
    | .next s => exec .startCompletion s
    | other => other) = .next State.reset := rfl

/-! ### States for the witnesses -/

/-- A state with a retained content, settled. -/
def keeping (ret : Retained) (s : State) : State := { s with ret := ret, bankA := ⟨ret, 0, true⟩ }

/-- Run 1 in service with its pulse state. -/
def serving (x : RunPulse) : State :=
  keeping { Retained.cold 1 with service := #v[.inService, .outOfService, .outOfService, .outOfService] }
    { State.reset with pulses := State.reset.pulses.set 0 x }

/-- An in-service run's pulse state, flowing, with a period that began at moment 0. -/
def flowing : RunPulse := { RunPulse.reset with flow := some .flowing, timerFrom := some 0 }

/-- Channel A has a rise under timing since moment 0. -/
def rising : RunPulse := { flowing with chA := ⟨true, false, some 0⟩ }

/-- A period record. -/
def record : PeriodRecord where
  seq := 1
  endTime := 0
  len := 1000
  final := false
  good := 5
  reverse := 0
  phaseErrors := 0
  pulseState := .dualOk
  iv := 5000
  gv := 5000
  gsv := 5000
  nsv := 5000
  mass := 1000
  q := 499
  mf := 1000000
  ctl := 1000000
  cpl := 1000000
  ccf := 1000000
  t := ⟨1500, .live⟩
  p := ⟨0, .live⟩
  sw := ⟨0, .live⟩
  rho := ⟨8500, .live⟩
  slot := 0
  target := .batch 7
  flags := .none

/-- A batch's record: id 7, code 1, a target of 5 L with a margin of 1 L, can 2. -/
def batchRecord : BatchRecord := ⟨7, 1, none, some 5, some 1, none, some 2⟩

/-- Retained content with run 1 in service and batch 7 ACTIVE. -/
def batching : Retained :=
  { Retained.cold 1 with
    service := #v[.inService, .outOfService, .outOfService, .outOfService]
    active := some (newBatch batchRecord 0 .can2 0) }

/-- Run 1 in service, batch 7 ACTIVE, and a computed period of run 1 for it. -/
def computed (rec : PeriodRecord) : State :=
  { keeping batching (serving flowing) with
    cen := State.reset.cen.set 0 ⟨none, some ⟨rec, ⟨0, 0, 0, 0, 0⟩, false⟩, none⟩ }

/-- A prove of run 1 in a state of the sequencer, with its marker. -/
def proving (x : ProverSeq) : State :=
  let ret := { Retained.cold 1 with
    service := #v[.inService, .outOfService, .outOfService, .outOfService]
    marker := some ⟨0, 0, 0, 0, none⟩ }
  keeping ret { serving flowing with psq := { x with run := some 0, slot := some 0, qstart := some 600 } }

/-- The sequencer of a prove of run 1 in a proving state. -/
def sequencer (p : ProverState) : ProverSeq :=
  { ProverSeq.reset with
    state := p, run := some 0, slot := some 0, qstart := some 600, route := #v[true, false, false, false] }

/-- A prove result. -/
def result : ProveResult := ⟨1001262, 50032, 67, [1, 3, 4, 5, 6], none, true, none, false⟩

/-- A ticket. -/
def ticket (number : Nat) : Ticket where
  number := number
  batchId := 7
  vessel := none
  code := 1
  slot := 0
  name := []
  startTime := 0
  endTime := 0
  endReason := .request
  iv := 5
  gv := 5
  gsv := 5
  nsv := 5
  water := 0
  mass := 1
  t := none
  p := none
  sw := none
  rho := none
  ccf := none
  entries := []
  due := 0
  taken := 0
  missed := 0
  can := .can1
  mfChanges := 0
  flags := .none

/-- Ticket 4 being written into slot 1 of sector 0, which holds ticket 3 VALID and ticket 2 RETRIEVED. -/
def writingState : State :=
  { keeping { Retained.cold 1 with pendingTickets := [⟨ticket 4, true⟩] } State.reset with
    write := some ⟨0, 1⟩
    archive := { Archive.factory with
      newest := 0
      sectors := Archive.factory.sectors.set 0
        ⟨.opened, some 0,
          #v[.valid (ticket 3), .writing, .retrieved (ticket 2), .empty, .empty, .empty, .empty, .empty]⟩ } }

/-- The sampler enabled in a state with a queue. -/
def sampling (x : Sampler) : State :=
  keeping { Retained.cold 1 with enable := .on } { State.reset with smc := x }

/-- Something is a next state. -/
def isNext (o : Host.Outcome State Fault Refusal) : Bool :=
  match o with
  | .next _ => true
  | _ => false

/-! ### Witnesses: the step and the invariants -/

theorem witness_StepRunsTheFrontCommand :
    ({ State.reset with pending := [.freeze, .status] } : State).pending = .freeze :: [.status]
      ∧ State.reset.pending = [] := ⟨rfl, rfl⟩

/-- Settled with a step; and for the update, both banks current, settled and not. -/
theorem witness_StepKeepsRetainedMemorySettled :
    (computed record).Settled ∧ isNext (step { computed record with pending := [.periodCrediting 0] }) = true
      ∧ State.reset.current = .a ∧ ({ State.reset with current := .b } : State).current = .b ∧ State.reset.Settled
      ∧ ¬ ({ State.reset with ret := batching } : State).Settled := by
  unfold State.Settled; decide +kernel

/-- A computed period is credited in a state whose totals agree. -/
theorem witness_StationTotalsStayTheSumOfTheRuns :
    (computed record).TotalsAgree ∧ isNext (step { computed record with pending := [.periodCrediting 0] }) = true := by
  unfold State.TotalsAgree Retained.TotalsAgree sumsAgree; decide +kernel

theorem witness_EveryBatchTotalIsTheSumOfItsRuns :
    (computed record).BatchTotalsAgree
      ∧ isNext (step { computed record with pending := [.periodCrediting 0] }) = true := by
  unfold State.BatchTotalsAgree Batch.TotalsAgree; decide +kernel

theorem witness_EveryPeriodRecordHasNetAtMostGross :
    (computed record).PeriodsSound ∧ isNext (step { computed record with pending := [.periodCrediting 0] }) = true := by
  unfold State.PeriodsSound ComputedPeriod.Sound Remainders.Bounded; decide +kernel

/-- With the stamp history at its limit, the accumulator at its top and the clock at its top. -/
theorem witness_StepKeepsCapacitiesAndRanges :
    ({ serving { flowing with quarter := 3, counts := ⟨65535, 65535, 65535, true, 65535, 65535⟩ } with
        clock := 4294967295 } : State).WithinCapacity
      ∧ (serving { flowing with quarter := 3, counts := ⟨65535, 65535, 65535, true, 65535, 65535⟩ }).PulsesInRange
      ∧ isNext (step { serving rising with pending := [.pulseFilterAccept 0 .a] }) = true := by
  unfold State.WithinCapacity State.PulsesInRange Retained.WithinCapacity RunPulse.InRange; decide +kernel

theorem witness_StepKeepsTheProverSound :
    (proving { sequencer .fwdLaunch with valveTimer := some 9 }).ProverSound
      ∧ isNext (step { proving { sequencer .fwdLaunch with valveTimer := some 9 } with
          pending := [.valveTimerExpiry] }) = true := by
  unfold State.ProverSound ProverSeq.Sound; decide +kernel

theorem witness_StepKeepsTheSamplerSound :
    (sampling { Sampler.reset with
        state := .grabbing, widthTimer := some 2, intervalTimer := some 9, grab := true }).SamplerSound
      ∧ isNext (step { sampling { Sampler.reset with state := .grabbing, intervalTimer := some 9 } with
          pending := [.intervalTimerExpiry] }) = true := by
  unfold State.SamplerSound Sampler.Sound; decide +kernel

theorem witness_StepKeepsEveryGrabAccountedFor :
    (computed record).GrabsAccounted ∧ (computed record).BatchIdsDistinct
      ∧ isNext (step { computed record with pending := [.periodCrediting 0] }) = true := by
  unfold State.GrabsAccounted State.BatchIdsDistinct Retained.BatchIdsDistinct Retained.GrabsWithinDue
  decide +kernel

theorem witness_StepKeepsTheArchiveAndTheRingSound :
    writingState.ArchiveSound ∧ State.reset.AuditSound
      ∧ isNext (step { writingState with pending := [.writeCompletion true] }) = true := by
  unfold State.ArchiveSound State.WritesFromTheHead State.EraseMatches State.WriteMatches Archive.ErasedAreEmpty
    Archive.ErasingAreReleased State.AuditSound
  decide +kernel

/-- With SEAL closed, PRODUCTS locked, and a commit waiting. -/
theorem witness_StepKeepsTheStagingAndSealedSections :
    ({ State.reset with
        staging := some ⟨.productMap, none, 1, [.mapping 3 1], 9⟩, sealInput := ⟨true, true, none⟩
        locks := State.reset.locks.set 8 true } : State).StagingSound
      ∧ ({ State.reset with sealInput := ⟨true, true, none⟩ } : State).seal = .closed
      ∧ ({ State.reset with locks := State.reset.locks.set 8 true } : State).locked .products = true
      ∧ SectionRef.neverProved .products = true
      ∧ isNext (step { State.reset with
          staging := some ⟨.productMap, none, 1, [.mapping 3 1], 9⟩, sealInput := ⟨true, true, none⟩
          locks := State.reset.locks.set 8 true, pending := [.stageCommit] }) = true := by
  unfold State.StagingSound; decide +kernel

theorem witness_StepKeepsQualityAlarmsInAgreement :
    State.reset.QualityAlarmsAgree
      ∧ isNext (step { State.reset with pending := [.liveValues [⟨0, .ok, 1500⟩]] }) = true := by
  refine ⟨?_, rfl⟩
  intro _ v
  cases v with
  | t r => revert r; decide +kernel
  | p r => revert r; decide +kernel
  | tp => decide +kernel
  | pp => decide +kernel
  | rho => decide +kernel
  | sw => decide +kernel

theorem witness_AStoppedModuleTakesNoEvents :
    ({ State.reset with phase := .stopped } : State).phase ≠ .running
      ∧ ({ State.reset with phase := .starting .cold .reset } : State).phase ≠ .running
      ∧ takenOnlyWhileRunning .freeze = true ∧ takenOnlyWhileRunning .valveTimerExpiry = true := by decide

/-! ### Witnesses: chapter 1 -/

/-- R9, R12: with the filter OFF, edges of both channels in one tick are one phase error, and an edge whose hand-over has
ended its tick leaves none of that tick to arrive alone. -/
theorem test_edges_of_one_tick :
    let s := serving { flowing with settings := ⟨.dual, .off, 5⟩ }
    let both := filterAccept 0 .a (pulseInputTo 0 .b true (pulseInputTo 0 .a true s))
    let alone := filterAccept 0 .b (pulseInputTo 0 .b true (filterAccept 0 .a (pulseInputTo 0 .a true s)))
    both.pulses[(0 : Run)].counts = ⟨0, 0, 1, false, 1, 1⟩ ∧ both.pulses[(0 : Run)].quarter = 0
      ∧ both.pulses[(0 : Run)].lastPhaseError = some 0
      ∧ (pulseInputTo 0 .b true (filterAccept 0 .a (pulseInputTo 0 .a true s))).pulses[(0 : Run)].chB.since = some 1
      ∧ alone.pulses[(0 : Run)].quarter = 2 := by decide +kernel

/-- A filter at rest, and one a tick before its width has elapsed; an edge on a run out of service. -/
theorem witness_RawInputChangesAreTimed :
    State.reset.phase = .running ∧ State.reset.Settled ∧ (State.reset.pulses[(0 : Run)].channel .a).Timed
      ∧ (State.reset.pulses[(0 : Run)].channel .a).held 100 0 = false
      ∧ ({ serving rising with now := 99 } : State).Settled
      ∧ (rising.channel .a).Timed ∧ (rising.channel .a).held (filterTicks rising.settings.width) 99 = false
      ∧ State.reset.sealInput.Timed ∧ State.reset.sealInput.held Config.slowFilter 0 = false
      ∧ (State.reset.psq.input .det1).Timed
      ∧ (State.reset.psq.input .det1).held (proverFilter .det1) State.reset.now = false
      ∧ (State.reset.smc.fullInput .can1).Timed ∧ (State.reset.smc.fullInput .can1).held Config.slowFilter 0 = false
      ∧ (let s := { State.reset with pulses := State.reset.pulses.set 3 rising }
        s.phase = .running ∧ s.Settled ∧ s.ret.service[(3 : Run)] = .outOfService
          ∧ (s.pulses[(3 : Run)].channel .a).since = some 0
          ∧ (s.pulses[(3 : Run)].channel (otherChannel .a)).since = none) := by
  unfold State.Settled InputFilter.Timed; decide +kernel

/-- With the accumulator at 3, so that the step completes a good pulse, and at -3; with no capture waiting, with one at
the tick of the edge, which the pulse completes, and with one a tick later, which it does not. -/
theorem witness_LoneEdgeStepsTheDecoder :
    let s := fun x : Int × Option Stamp => serving { rising with quarter := x.1, capture := x.2 }
    (∀ x ∈ [(3, none), (3, some 0#32), (3, some 1#32), (-3, some 0#32), (0, none)],
      (s x).phase = .running ∧ (s x).Settled ∧ (s x).ret.service[(0 : Run)] = .inService
        ∧ (s x).pulses[(0 : Run)].settings.mode = .dual ∧ (s x).pulses[(0 : Run)].pulseState = .dualOk
        ∧ (s x).pulses[(0 : Run)].InRange ∧ ((s x).pulses[(0 : Run)].channel .a).since = some 0
        ∧ ((s x).pulses[(0 : Run)].channel (otherChannel .a)).since = none)
      ∧ decoderStep ⟨false, false⟩ ⟨true, false⟩ = 1
      ∧ atOrAfter (stampOf 0) 0#32 = true ∧ atOrAfter (stampOf 0) 1#32 = false := by
  unfold State.Settled RunPulse.InRange; decide +kernel

/-- Edges of both channels that began at moment 0, rising or falling, in a mode and a state, with a capture waiting. -/
def pairOf (m : PulseMode) (p : PulseState) (level : Bool) (tick : Stamp) : State :=
  serving { flowing with
    pulseState := p, settings := ⟨m, .us10, 5⟩, capture := some tick
    chA := ⟨level, !level, some 0⟩, chB := ⟨level, !level, some 0⟩ }

/-- DUAL in each of its three states and SINGLE_A; rising, with a capture at the tick of the edges and a tick after it,
and falling. -/
theorem witness_EdgesInOneTickAreAPhaseError :
    (∀ s ∈ [pairOf .dual .dualOk true 0, pairOf .dual .singleAOnly true 0, pairOf .dual .singleBOnly true 1,
        pairOf .singleA .singleMode true 0, pairOf .singleA .singleMode false 0],
      s.phase = .running ∧ s.Settled ∧ s.ret.service[(0 : Run)] = .inService ∧ s.pulses[(0 : Run)].InRange
        ∧ (s.pulses[(0 : Run)].channel .a).since = some 0
        ∧ (s.pulses[(0 : Run)].channel (otherChannel .a)).since = some 0)
      ∧ atOrAfter (stampOf 0) 0#32 = true ∧ atOrAfter (stampOf 0) 1#32 = false := by
  unfold State.Settled RunPulse.InRange; decide +kernel

/-- R10, R12, R16: a rising pair is a phase error in DUAL_OK alone, a phase error and a good pulse in a degraded state,
and a good pulse alone in SINGLE_A. -/
theorem test_pairs_of_edges :
    [(PulseMode.dual, PulseState.dualOk), (.dual, .singleAOnly), (.dual, .singleBOnly), (.singleA, .singleMode)].map
      (fun mp => let c := (filterAccept 0 .a (pairOf mp.1 mp.2 true 1)).pulses[(0 : Run)].counts
        (c.good, c.phaseErrors))
      = [(0, 1), (1, 1), (1, 1), (1, 0)] := by decide +kernel

/-- Pulse mode SINGLE_A, and pulse mode DUAL in each degraded state, with a capture waiting at the tick of the edge. -/
theorem witness_OneChannelCountsRisingEdges :
    let s := fun (m : PulseMode) (p : PulseState) =>
      serving { rising with pulseState := p, settings := ⟨m, .us10, 5⟩, capture := some 0 }
    ∀ mp ∈ [(PulseMode.singleA, PulseState.singleMode), (.dual, .singleAOnly), (.dual, .singleBOnly)],
      (s mp.1 mp.2).phase = .running ∧ (s mp.1 mp.2).Settled
        ∧ (s mp.1 mp.2).ret.service[(0 : Run)] = .inService ∧ (s mp.1 mp.2).pulses[(0 : Run)].InRange
        ∧ (s mp.1 mp.2).pulses[(0 : Run)].capture.any (fun tick => atOrAfter (stampOf 0) tick) = true
        ∧ ((s mp.1 mp.2).pulses[(0 : Run)].channel .a).since = some 0
        ∧ ((s mp.1 mp.2).pulses[(0 : Run)].channel (otherChannel .a)).since = none
        ∧ ((s mp.1 mp.2).pulses[(0 : Run)].settings.mode = .singleA
            ∧ (s mp.1 mp.2).pulses[(0 : Run)].pulseState = .singleMode
          ∨ (s mp.1 mp.2).pulses[(0 : Run)].settings.mode = .dual
            ∧ (s mp.1 mp.2).pulses[(0 : Run)].pulseState.degraded = true) := by
  unfold State.Settled RunPulse.InRange; decide +kernel

/-- A run in a pulse mode and state with a period's counts and an open watch, at its expiry. -/
def expiring (m : PulseMode) (p : PulseState) (c : PeriodCounts) : State :=
  serving { flowing with
    settings := ⟨m, .us10, 5⟩, pulseState := p, counts := c, quarter := 2, watch := some ⟨false, false⟩ }

/-- The mode kept, and changed in either direction; with the mode kept, a degrade, a return and a changeover with 16
transitions, none of them with 15, and a return kept off by a phase error; with a saturation mark and without. -/
theorem witness_ExpiryHandsThePeriodOver :
    (∀ mp ∈ [(PulseMode.dual, PulseState.dualOk), (.dual, .singleAOnly), (.singleA, .singleMode)],
      ∀ c ∈ [(⟨5, 0, 0, false, 16, 0⟩ : PeriodCounts), ⟨5, 0, 0, true, 16, 16⟩],
      let s := expiring mp.1 mp.2 c
      s.phase = .running ∧ s.Settled ∧ s.pulses[(0 : Run)].timerFrom = some 0 ∧ s.cen[(0 : Run)].handover = none
        ∧ s.cen[(0 : Run)].computed = none ∧ s.params.meter[(0 : Run)].mode = .dual)
      ∧ (let meter := State.reset.params.meter.set 0 { Meter.factory with mode := .singleA }
        let s := { expiring .dual .singleAOnly ⟨5, 0, 0, false, 0, 0⟩ with
          params := { State.reset.params with meter := meter } }
        s.phase = .running ∧ s.Settled ∧ s.pulses[(0 : Run)].timerFrom = some 0 ∧ s.cen[(0 : Run)].handover = none
          ∧ s.cen[(0 : Run)].computed = none ∧ s.params.meter[(0 : Run)].mode = .singleA)
      ∧ testedState ⟨5, 0, 0, false, 16, 0⟩ .dualOk = .singleAOnly
      ∧ testedState ⟨5, 0, 0, false, 15, 0⟩ .dualOk = .dualOk
      ∧ testedState ⟨5, 0, 0, false, 16, 16⟩ .singleAOnly = .dualOk
      ∧ testedState ⟨5, 0, 1, false, 16, 16⟩ .singleAOnly = .singleAOnly
      ∧ testedState ⟨5, 0, 0, false, 0, 16⟩ .singleAOnly = .singleBOnly := by
  unfold State.Settled; decide +kernel

/-- Run 4 out of service; run 1 in service with no steps of an expiry outstanding, and with its crediting outstanding;
and a request that names both, as the lowest and the highest run. -/
theorem witness_RunServiceInStartsCounting :
    let runs := (noRuns.set 0 true).set 3 true
    State.reset.Ready ∧ State.reset.ret.service[(3 : Run)] = .outOfService ∧ (serving flowing).Ready
      ∧ (serving flowing).ret.service[(0 : Run)] = .inService ∧ (serving flowing).cen[(0 : Run)].handover = none
      ∧ (serving flowing).cen[(0 : Run)].computed = none ∧ (computed record).Ready
      ∧ (computed record).ret.service[(0 : Run)] = .inService
      ∧ (computed record).cen[(0 : Run)].computed ≠ none
      ∧ runs[(0 : Run)] = true ∧ (0 : Run) < 3 ∧ runs[(3 : Run)] = true ∧ (∀ q : Run, q < 0 → runs[q] = false)
      ∧ (∀ q : Run, runs[q] = true → (serving flowing).ret.service[q] = .inService →
        (serving flowing).cen[q].handover = none ∧ (serving flowing).cen[q].computed = none) := by
  unfold State.Ready State.Settled; decide +kernel

/-- R2: the outcomes of a request that names runs 1 and 4, of which run 1 is in service. -/
theorem test_run_service_of_two_runs :
    (match exec (.runService ((noRuns.set 0 true).set 3 true) .into) (serving flowing) with
      | .next t => t.reply
      | _ => none)
      = some ⟨.ok, [.u8 2, .u8 Status.notAllowed.code, .u8 Status.ok.code]⟩ := by decide +kernel

/-- Without a prove, with a prove of run 1 in a proving state, and with one of another run. -/
theorem witness_RunServiceOutEndsThePeriod :
    let other := { sequencer .fwdLaunch with run := some 1, route := noRuns.set 1 true }
    (∀ x ∈ [ProverSeq.reset, sequencer .fwdLaunch, other],
      let s := { proving (sequencer .fwdLaunch) with psq := x, now := 6400000 }
      s.Ready ∧ s.ret.service[(0 : Run)] = .inService ∧ s.pulses[(0 : Run)].timerFrom = some 0
        ∧ s.cen[(0 : Run)].handover = none ∧ s.cen[(0 : Run)].computed = none
        ∧ s.proves 0 = decide (x = sequencer .fwdLaunch) ∧ s.ret.marker = some ⟨0, 0, 0, 0, none⟩) := by
  unfold State.Ready State.Settled; decide +kernel

/-! ### Witnesses: chapters 2 and 3 -/

/-- The limits of a range, with a clamp alarm and without; a list with an index of 12, one with an index twice, one of
two values and one of all twelve. -/
theorem witness_GoodArrivalIsLive :
    State.reset.Ready ∧ valueInRange (.t 3) (-2000) = true ∧ valueInRange (.t 3) 12000 = true
      ∧ clampAlarm? (.t 3) = some (.run 3 .tClamped) ∧ clampAlarm? .tp = none
      ∧ 11 < (⟨12, .ok, 0⟩ : LiveEntry).index ∧ ¬ ([⟨0, .ok, 0⟩, ⟨0, .ok, 0⟩].map LiveEntry.index).Nodup
      ∧ (([(.tp, .ok, 0), (.t 0, .fault, 0)] : List (ValueId × TransmitterStatus × Int)).map Prod.fst).Nodup
      ∧ allValues.Nodup := by
  unfold State.Ready State.Settled; decide +kernel

/-- TP LIVE with its condition clear: the ladder moves; TP SUBSTITUTED: nothing does. -/
theorem witness_FaultEntryHoldsTheValue :
    let s := { State.reset with
      values := State.reset.values.set 8 ⟨some 1500, .live, some 9, some 99, some 0, none, false⟩
      alarms := State.reset.alarms.set 0 ⟨.returnedUnack, some 0⟩ }
    s.Ready ∧ s.QualityAlarmsAgree ∧ (s.value .tp).ladder = .live ∧ (s.value .pp).ladder = .substituted := by
  refine ⟨by unfold State.Ready State.Settled; decide +kernel, ?_, by decide +kernel⟩
  intro _ v
  cases v with
  | t r => revert r; decide +kernel
  | p r => revert r; decide +kernel
  | tp => decide +kernel
  | pp => decide +kernel
  | rho => decide +kernel
  | sw => decide +kernel

theorem witness_AgeingAndClampingOfAValue :
    let s := { State.reset with
      values := State.reset.values.set 8 ⟨some 1500, .live, some 9, some 99, some 0, none, false⟩ }
    s.Ready ∧ (s.value .tp).stale = some 9 ∧ (s.value .tp).ladder = .live ∧ (s.value .tp).hold = some 99
      ∧ valueInRange .tp (-2001) = false ∧ valueInRange .tp 12001 = false := by
  unfold State.Ready State.Settled; decide +kernel

theorem witness_OverridesSetAndRelease :
    let s := { State.reset with values := State.reset.values.set 8 ⟨none, .substituted, none, none, none, some 7, false⟩ }
    s.Ready ∧ valueInRange .tp 12000 = true ∧ valueInRange .tp 12001 = false ∧ (s.value .tp).manual = some 7
      ∧ (s.value .pp).manual = none := by
  unfold State.Ready State.Settled; decide +kernel

/-- The announced count at both its limits and past them; an item that joins, one beyond the count, one of another
shape; and no staging. -/
theorem witness_StagingTakesItsItems :
    let st : Staging := ⟨.productMap, none, 1, [], 9⟩
    State.reset.Ready ∧ State.reset.staging = none ∧ runSetFits .productMap none = true
      ∧ itemLimit .productMap = 16 ∧ runSetFits .productMap (some noRuns) = false
      ∧ ({ State.reset with staging := some st } : State).Ready
      ∧ itemOfBody? st.kind [3#8, 1#8] = some (.mapping 3 1) ∧ itemOfBody? st.kind [3#8] = none
      ∧ st.items.length < st.announced
      ∧ ({ st with items := [.mapping 3 1] } : Staging).announced
          ≤ ({ st with items := [.mapping 3 1] } : Staging).items.length := by
  unfold State.Ready State.Settled; decide +kernel

/-- Each outcome of a commit: too few items, sealed, held by a prove, invalid content, and a success. -/
theorem witness_CommitReplacesTheSectionsOrRefuses :
    let at_ := fun (kind : SectionKind) (items : List StageEntry) (s : State) =>
      { s with staging := some ⟨kind, none, 1, items, 9⟩ }
    (at_ .productMap [] State.reset).Ready ∧ State.reset.staging = none
      ∧ (targetSections .productMap none).any State.reset.locked = false
      ∧ (targetSections .productMap none).any State.reset.heldByProve = false
      ∧ (State.reset.params.newContent? ⟨.productMap, none, 1, [.mapping 3 1], 9⟩).isSome = true
      ∧ State.reset.params.newContent? ⟨.productMap, none, 1, [.mapping 3 9], 9⟩ = none
      ∧ (let s := { State.reset with sealInput := ⟨true, true, none⟩, locks := State.reset.locks.set 9 true }
        s.Ready ∧ s.seal = .closed ∧ (targetSections .productMap none).any s.locked = true)
      ∧ (let s := proving (sequencer .fwdTravel)
        s.Ready ∧ s.seal = .opened ∧ (targetSections .prover none).any s.heldByProve = true) := by
  unfold State.Ready State.Settled; decide +kernel

theorem witness_LocksAreSetAndClearedUnderAnOpenSeal :
    let s := { State.reset with
      sealInput := ⟨true, true, none⟩, locks := State.reset.locks.set 11 true
      staging := some ⟨.station, none, 0, [], 9⟩ }
    State.reset.Ready ∧ State.reset.seal = .opened ∧ State.reset.locked .station = false
      ∧ s.Ready ∧ s.seal = .closed ∧ s.locked .station = true
      ∧ ({ s with sealInput := .low } : State).seal = .opened
      ∧ SectionRef.station ∈ targetSections .station none := by
  unfold State.Ready State.Settled; decide +kernel

theorem witness_SealChangeIsAudited :
    let s := { State.reset with sealInput := ⟨true, false, some 0⟩ }
    s.phase = .running ∧ s.Settled ∧ s.sealInput.since = some 0 := by
  unfold State.Settled; decide +kernel

/-! ### Witnesses: chapters 4 and 5 -/

/-- Run 1 with a period handed over. -/
def handed : State :=
  { serving flowing with cen := State.reset.cen.set 0 ⟨some ⟨5, 0, 0, .dualOk, false, 1000, false, 0⟩, none, none⟩ }

/-- Periods of no time, of a millisecond and of a second. -/
theorem witness_ComputationYieldsTheRecord :
    ∀ len ∈ [0, 1, 1000],
      let h : Handover := ⟨5, 0, 0, .dualOk, false, len, false, 0⟩
      let s := { handed with cen := State.reset.cen.set 0 ⟨some h, none, none⟩ }
      s.phase = .running ∧ s.Settled ∧ s.cen[(0 : Run)].handover = some h := by
  unfold State.Settled; decide +kernel

/-- R36, R82: section 4.7's period with T HELD, P LIVE_CLAMPED, ρ SUBSTITUTED and SW overridden sets all four value
flags; with T alone HELD, and P, ρ and SW LIVE, the first alone. -/
theorem test_value_flags :
    let flags := fun (p rho : Ladder) (sw : Option Int) =>
      match exec (.periodComputation 1) { worked47 with
        values := (((worked47.values.set 1 ⟨some 3847, .held, none, none, none, none, false⟩).set 5
          ⟨some 1850, p, none, none, none, none, false⟩).set 10
          ⟨some 8624, rho, none, none, none, none, false⟩).set 11
          ⟨some 215, .live, none, none, none, sw, false⟩ } with
      | .next t => t.cen[(1 : Run)].computed.map (fun c => (c.record.flags.valueHeld, c.record.flags.valueSubstituted,
          c.record.flags.valueClamped, c.record.flags.valueOverride))
      | _ => none
    flags .liveClamped .substituted (some 215) = some (true, true, true, true)
      ∧ flags .live .live none = some (true, false, false, false) := by decide +kernel

/-- The hypotheses of the three statements about a computed record, which the computation of `handed` gives. -/
theorem witness_StageDivisionsLoseNothing :
    handed.phase = .running ∧ handed.cen[(0 : Run)].handover.isSome = true
      ∧ (match exec (.periodComputation 0) handed with
        | .next t => t.cen[(0 : Run)].computed.isSome
        | _ => false) = true
      ∧ 0 < handed.params.meter[(0 : Run)].kx := by decide +kernel

/-- At the ends of the clauses on the pressure correction: 50,000 and 50,001 after rounding. -/
theorem witness_PressureAndCombinedFactorsAreRoundedHalfUp :
    (match exec (.periodComputation 0) handed with
      | .next t => t.cen[(0 : Run)].computed.map (fun c =>
          (decide (handed.params.products[c.record.slot].f = 700), c.record.p.value, c.record.mf))
      | _ => none) = some (true, 0, 1000000)
      ∧ handed.cen[(0 : Run)].handover ≠ none ∧ (1 * 50000499 + 500) / 1000 = 50000
      ∧ (1 * 50000500 + 500) / 1000 = 50001 := by decide +kernel

/-- R74: CTL at exactly a limit, with a temperature 10 °C from Tb and α 100,000, is not clamped; a part per million
beyond it, with α 100,001, it is; at Tb it is 1,000,000. -/
theorem test_ctl_limits :
    let ctl := fun (alpha : Nat) (t : Int) =>
      match exec (.periodComputation 0) { handed with
        values := State.reset.values.set 0 ⟨some t, .live, none, none, none, none, false⟩
        params := { State.reset.params with
          products := State.reset.params.products.set 0 ⟨[], 1500, alpha, 0, 700, 8500, .live, .live, 0⟩ } } with
      | .next t => t.cen[(0 : Run)].computed.map (fun c => (c.record.ctl, c.record.flags.ctlClamped))
      | _ => none
    ctl 100000 500 = some (1100000, false) ∧ ctl 100001 500 = some (1100000, true)
      ∧ ctl 100000 2500 = some (900000, false) ∧ ctl 100001 2500 = some (900000, true)
      ∧ ctl 100001 1500 = some (1000000, false) := by decide +kernel

theorem witness_HighRateFollowsThePeriod :
    handed.phase = .running ∧ handed.Settled
      ∧ (handed.cen[(0 : Run)].handover.map Handover.final) = some false := by
  unfold State.Settled; decide +kernel

theorem witness_CurveFactorLiesBetweenItsPoints :
    ratesRise workedCurve = true
      ∧ workedCurve = [⟨20000, 1003000⟩] ++ ⟨30000, 1002150⟩ :: ⟨45000, 1001400⟩ :: [⟨55000, 1000900⟩]
      ∧ workedCurve = [] ++ ⟨20000, 1003000⟩ :: ⟨30000, 1002150⟩ :: [⟨45000, 1001400⟩, ⟨55000, 1000900⟩]
      ∧ workedCurve = [⟨20000, 1003000⟩, ⟨30000, 1002150⟩] ++ ⟨45000, 1001400⟩ :: ⟨55000, 1000900⟩ :: [] := by
  decide +kernel

/-- A crediting to batch 7 below the cutoff, at it, unbatched, and final; a prove of the run for the failure. -/
theorem witness_CreditingAddsEverythingOnce :
    (computed record).phase = .running ∧ (computed record).BatchIdsDistinct
      ∧ (computed record).cen[(0 : Run)].computed.map (fun c => c.record.target) = some (.batch 7)
      ∧ ((computed record).heldBatch? 7).isSome = true ∧ record.final = false
      ∧ record.q < (computed record).params.meter[(0 : Run)].cutoff
      ∧ (computed record).params.meter[(0 : Run)].cutoff ≤ ({ record with q := 500 } : PeriodRecord).q
      ∧ ({ record with final := true } : PeriodRecord).final = true
      ∧ ({ record with target := .unbatched } : PeriodRecord).target ≠ .batch 7
      ∧ (computed record).Settled ∧ record.seq ≠ (computed record).ret.periodSeq[(0 : Run)]
      ∧ (proving (sequencer .fwdLaunch)).proves 0 = true ∧ (computed record).proves 0 = false := by
  unfold State.Settled State.BatchIdsDistinct Retained.BatchIdsDistinct; decide +kernel

/-- UNBATCHED volume of 1 mL and of none; a contribution of the run that is new and one that stands; a prove of the run with
another slot, with the recorded one below the cutoff, and at it; and an ENDING batch that run 2 owes still. -/
theorem witness_CreditingOpensContributionsAndEndsProves :
    let at_ := fun (rec : PeriodRecord) => { proving (sequencer .fwdLaunch) with
      cen := State.reset.cen.set 0 ⟨none, some ⟨rec, ⟨0, 0, 0, 0, 0⟩, false⟩, none⟩ }
    let credited := match exec (.periodCrediting 0) (computed { record with nsv := 1 }) with
      | .next t => t
      | _ => State.reset
    let again := { credited with cen := (computed record).cen }
    let owing := keeping { batching with
      active := none
      ending := [{ newBatch { batchRecord with id := 3 } 0 .can2 0 with owing := noRuns.set 1 true }] } (computed record)
    (∀ rec ∈ [{ record with slot := 3 }, { record with q := 499 }, { record with q := 500 },
        { record with target := .unbatched, iv := 1 }, { record with target := .unbatched, iv := 0 }],
      (at_ rec).phase = .running ∧ (at_ rec).BatchIdsDistinct
        ∧ (at_ rec).cen[(0 : Run)].computed = some ⟨rec, ⟨0, 0, 0, 0, 0⟩, false⟩)
      ∧ (at_ record).proves 0 = true ∧ (at_ record).psq.slot = some 0 ∧ record.slot = 0
      ∧ (at_ record).params.meter[(0 : Run)].cutoff = 500 ∧ (at_ record).ret.marker = some ⟨0, 0, 0, 0, none⟩
      ∧ ((computed record).heldBatch? 7).map Batch.contributions = some []
      ∧ again.BatchIdsDistinct
      ∧ ((again.heldBatch? 7).map (fun b => b.contributions.map Contribution.run)) = some [0]
      ∧ owing.BatchIdsDistinct ∧ owing.ret.ending.length = 1
      ∧ (∀ b ∈ owing.ret.ending, b.owing[(1 : Run)] = true ∧ owing.queuedGrabs b.record.id = 0) := by
  unfold State.BatchIdsDistinct Retained.BatchIdsDistinct; decide +kernel

/-- The grab volume of the factory content in millilitres makes a grab due at that accumulator and none a millilitre
below. With the sampler enabled: two grabs due of which one finds a place and one does not; none due and an empty queue;
and in READY a head for the other can, a full can and a grab. An ENDING batch that the run owes, in a closing period; and
the enable OFF. -/
theorem witness_CreditingSamplesAndPays :
    let volume := StationParams.factory.grabVolume * 1000
    let at_ := fun (queue : List OwedGrab) (x : SamplerState) (full : InputFilter) =>
      { computed { record with gsv := 2 * volume } with
        smc := { Sampler.reset with state := x, queue := queue, full1 := full }
        ret := { batching with enable := .on } }
    let owing := keeping { batching with
      active := none, ending := [{ newBatch batchRecord 0 .can2 0 with owing := noRuns.set 0 true }] } (computed record)
    0 < volume ∧ (volume - 1) / volume = 0 ∧ 2 * volume / volume = 2
      ∧ (∀ x ∈ [SamplerState.halted, .ready, .grabbing], ∀ q ∈ [List.replicate 7 ⟨7, .can1⟩, [], [⟨7, .can2⟩]],
        (at_ q x .low).phase = .running ∧ (at_ q x .low).BatchIdsDistinct ∧ ((at_ q x .low).heldBatch? 7).isSome = true
          ∧ (at_ q x .low).ret.enable = .on ∧ (at_ q x .low).smc.state = x
          ∧ (at_ q x .low).cen[(0 : Run)].computed.map (fun c => (c.record.target, c.record.gsv))
            = some (.batch 7, 2 * volume)
          ∧ (at_ q x .low).alarmRaised (.station .samplerMissed) = false)
      ∧ min 2 (8 - (List.replicate 7 (⟨7, .can1⟩ : OwedGrab)).length) = 1
      ∧ (at_ [] .ready .low).ret.selectedCan = .can1
      ∧ (at_ [⟨7, .can1⟩] .ready ⟨true, true, none⟩).canIsFull .can1 = true
      ∧ (at_ [⟨7, .can1⟩] .ready .low).canIsFull .can1 = false
      ∧ owing.phase = .running ∧ owing.BatchIdsDistinct ∧ owing.ret.enable = .off
      ∧ (owing.heldBatch? 7).isSome = true := by
  unfold State.BatchIdsDistinct Retained.BatchIdsDistinct; decide +kernel

theorem witness_RestartStopsAfterItsReply :
    State.reset.Ready ∧ State.reset.seal = .opened
      ∧ ({ State.reset with sealInput := ⟨true, true, none⟩ } : State).seal = .closed
      ∧ (∀ k ∈ [StartKind.warm, .cold],
        ({ State.reset with link := { Link.reset with restartMark := some k } } : State).phase = .running
          ∧ ({ State.reset with link := { Link.reset with restartMark := some k } } : State).Settled) := by
  unfold State.Ready State.Settled; decide +kernel

/-- A powered running module, a stopped one, a half-done close and write; two banks of which the later goes on, one
valid bank, and none. -/
theorem witness_StopsAndStarts :
    State.reset.powered = true ∧ State.reset.phase ≠ .stopped ∧ State.reset.resetActive = false
      ∧ factory.powered = false ∧ factory.phase = .stopped ∧ State.reset.ret.ticketCounter ≠ 0
      ∧ ({ State.reset with write := some ⟨0, 0⟩ } : State).write = some ⟨0, 0⟩
      ∧ (keeping { Retained.cold 1 with pendingTickets := [⟨ticket 1, true⟩] } State.reset).ret.pendingTickets
          = ⟨ticket 1, true⟩ :: []
      ∧ ({ factory with bankA := ⟨.cold 1, 0#32, true⟩, bankB := ⟨.cold 1, 0xFFFFFFFF#32, true⟩ } : State).startsFrom .a
      ∧ ({ factory with bankA := ⟨.cold 1, 4#32, true⟩, bankB := ⟨.cold 1, 5#32, true⟩ } : State).startsFrom .b
      ∧ ({ factory with bankB := ⟨.cold 1, 5#32, true⟩ } : State).startsFrom .b
      ∧ factory.bankA.intact = false ∧ factory.bankB.intact = false ∧ factory.resetActive = false := by
  unfold State.startsFrom; decide +kernel

theorem witness_ColdStartLeavesAFreshModule :
    ({ factory with phase := .starting .cold .retainedInvalid } : State).phase = .starting .cold .retainedInvalid := rfl

/-- A warm start with a marked prove and an in-service run; and one with a slot found WRITING, a suspended erase, a
pending ticket that the archive holds and one that it does not, whose write then starts, or with no ticket and no write. -/
theorem witness_WarmStartKeepsRetainedMemory :
    let s := { proving (sequencer .fwdTravel) with phase := .starting .warm .reset }
    let u := fun ps : List PendingTicket => { keeping { Retained.cold 1 with pendingTickets := ps } writingState with
      phase := .starting .warm .reset
      archive := { writingState.archive with
        sectors := writingState.archive.sectors.set 7 ⟨.eraseSuspended, some 9, Vector.replicate 8 .defective⟩ } }
    let written := fun s : State => match exec .startCompletion s with
      | .next t => t.write.isSome
      | _ => false
    (s.phase = .starting .warm .reset ∧ s.BatchIdsDistinct ∧ s.ret.marker = some ⟨0, 0, 0, 0, none⟩
      ∧ s.ret.service[(0 : Run)] = .inService ∧ s.ret.service[(1 : Run)] = .outOfService)
      ∧ (∀ ps ∈ [[⟨ticket 3, true⟩, ⟨ticket 4, false⟩], []], (u ps).phase = .starting .warm .reset
        ∧ (u ps).BatchIdsDistinct ∧ (u ps).archive.slot (0, 1) = .writing ∧ (u ps).archive.ErasedAreEmpty
        ∧ ((u ps).archive.findTicket? 3).isSome = true ∧ ((u ps).archive.findTicket? 4).isNone = true
        ∧ (u ps).archive.sectors[(7 : Sector)].state = .eraseSuspended
        ∧ (∀ j : Sector, j < 7 → (u ps).archive.sectors[j].state ≠ .erasing
            ∧ (u ps).archive.sectors[j].state ≠ .eraseSuspended)
        ∧ written (u ps) = !ps.isEmpty) := by
  unfold State.BatchIdsDistinct Retained.BatchIdsDistinct Archive.ErasedAreEmpty; decide +kernel

/-- R169: the sampler's state, its swap timer and SAMPLER_MISSED after a warm start with the enable OFF, ON with can 1 and
ON with can 2; a batch with a due grab neither taken nor missed, and one with none. -/
theorem test_sampler_after_a_warm_start :
    let after := fun (enable : Switch) (can : Can) (missed : Nat) =>
      match exec .startCompletion { keeping { batching with
          enable := enable, selectedCan := can
          active := some { newBatch batchRecord 0 .can2 0 with sampling := ⟨0, 3, 2, missed⟩ } } State.reset with
        phase := .starting .warm .reset } with
      | .next t => some (t.smc.state, t.smc.swapTimer, (t.alarm (.station .samplerMissed)).state)
      | _ => none
    after .off .can2 1 = some (.off, none, .normal) ∧ after .on .can1 1 = some (.ready, none, .normal)
      ∧ after .on .can2 0 = some (.swapping, some 50000000, .returnedUnack) := by decide +kernel

/-! ### Witnesses: chapters 6 and 7 -/

/-- A state whose map takes code 1 to slot 0, with a queue of `n` batches. -/
def queued (n : Nat) : State :=
  keeping { Retained.cold 1 with queue := (List.range n).map (fun i => { batchRecord with id := i + 1 }) }
    { State.reset with params := { State.reset.params with productMap := [(1, 0)] } }

/-- Each outcome: an id of 0, an id held, a full queue of 8, a code mapped to NONE, and a place left at 7. -/
theorem witness_QueueAddJoinsTheTail :
    (queued 7).Ready ∧ batchFieldsValid { batchRecord with id := 0 } = false
      ∧ batchFieldsValid { batchRecord with id := 999999 } = true ∧ (queued 7).holdsBatchId 7 = true
      ∧ (queued 7).holdsBatchId 999999 = false ∧ (queued 7).ret.queue.length = 7
      ∧ (queued 8).ret.queue.length = 8 ∧ mapSlot? (queued 7).params.productMap 2 = none
      ∧ mapSlot? (queued 7).params.productMap 1 ≠ none := by
  unfold State.Ready State.Settled; decide +kernel

/-- The first and the last of three, and an id not held, at the limits of the ids. -/
theorem witness_QueueRemoveTakesOneBatchOut :
    (queued 3).Ready
      ∧ (queued 3).ret.queue = [] ++ { batchRecord with id := 1 } :: [{ batchRecord with id := 2 }, { batchRecord with id := 3 }]
      ∧ (queued 3).ret.queue = [{ batchRecord with id := 1 }, { batchRecord with id := 2 }] ++ { batchRecord with id := 3 } :: []
      ∧ (∀ b ∈ (queued 3).ret.queue, b.id ≠ 999999) := by
  unfold State.Ready State.Settled; decide +kernel

/-- The head with its own can, with another can, and without one; an ACTIVE batch; an empty queue; a code mapped to
NONE. -/
theorem witness_BatchStartActivatesTheHead :
    (queued 1).Ready ∧ (queued 1).ret.active = none ∧ (queued 0).ret.queue = []
      ∧ (queued 1).ret.queue = { batchRecord with id := 1 } :: []
      ∧ mapSlot? (queued 1).params.productMap 1 = some 0 ∧ mapSlot? State.reset.params.productMap 1 = none
      ∧ (keeping batching State.reset).Ready ∧ (keeping batching State.reset).ret.active ≠ none := by
  unfold State.Ready State.Settled; decide +kernel

/-- No ACTIVE batch; two ENDING batches; none, with a startable head and a run that owes. -/
theorem witness_BatchEndAndChangeMakeTheEndMoment :
    let full := keeping { batching with ending := [newBatch batchRecord 0 .can1 0, newBatch batchRecord 0 .can1 0] }
      State.reset
    let s := keeping { batching with queue := [{ batchRecord with id := 9 }] } (queued 0)
    State.reset.Ready ∧ State.reset.ret.active = none ∧ full.Ready ∧ 2 ≤ full.ret.ending.length
      ∧ s.Ready ∧ s.ret.active = some (newBatch batchRecord 0 .can2 0) ∧ s.ret.ending.length < 2
      ∧ (∀ x ∈ s.ret.ending, s.readyToClose x = false) ∧ s.ret.service[(0 : Run)] = .inService
      ∧ s.startable? = some ({ batchRecord with id := 9 }, 0)
      ∧ (keeping batching State.reset).startable? = none := by
  unfold State.Ready State.Settled; decide +kernel

/-- Batch 7 ACTIVE with no run in service, with three and with four tickets pending, with a number left and with none;
and batch 7 ENDING, owed by run 1 alone, whose closing period is to be credited, with three and with four pending, with the
sampler disabled, and enabled with a millilitre less than a grab volume. -/
theorem witness_AReadyBatchClosesAtItsEnd :
    let s := fun n number : Nat => keeping { Retained.cold number with
      active := some (newBatch batchRecord 0 .can2 0)
      pendingTickets := (List.range n).map (fun i => ⟨ticket i, false⟩) } State.reset
    let b := { newBatch batchRecord 0 .can2 0 with
      endTime := some 3, endReason := some .target, owing := noRuns.set 0 true
      sampling := ⟨StationParams.factory.grabVolume * 1000 - record.gsv - 1, 0, 0, 0⟩ }
    let u := fun (n : Nat) (x : Switch) =>
      { keeping { batching with
          active := none, ending := [b], enable := x
          pendingTickets := (List.range n).map (fun i => ⟨ticket i, false⟩) } (serving flowing) with
        cen := State.reset.cen.set 0 ⟨none, some ⟨record, ⟨0, 0, 0, 0, 0⟩, true⟩, none⟩ }
    (∀ n ∈ [3, 4], ∀ number ∈ [0, 1, 4294967295], (s n number).Ready
      ∧ (s n number).ret.active = some (newBatch batchRecord 0 .can2 0) ∧ (s n number).ret.ending = []
      ∧ (∀ r : Run, (s n number).ret.service[r] = .outOfService) ∧ (s n number).queuedGrabs 7 = 0
      ∧ (s n number).ret.pendingTickets.length = n ∧ (s n number).ret.ticketCounter = number)
      ∧ (∀ n ∈ [3, 4], ∀ x ∈ [Switch.off, .on], (u n x).phase = .running ∧ (u n x).BatchIdsDistinct
        ∧ (u n x).cen[(0 : Run)].computed = some ⟨record, ⟨0, 0, 0, 0, 0⟩, true⟩ ∧ (u n x).ret.ending = [b]
        ∧ record.target = .batch b.record.id ∧ record.final = false ∧ b.owing = noRuns.set 0 true
        ∧ (u n x).queuedGrabs 7 = 0 ∧ (u n x).ret.pendingTickets.length = n ∧ (u n x).ret.ticketCounter ≠ 0
        ∧ b.sampling.accumulator + record.gsv + 1 = (u n x).params.station.grabVolume * 1000) := by
  unfold State.Ready State.Settled State.BatchIdsDistinct Retained.BatchIdsDistinct; decide +kernel

/-- A crediting to batch 7 of run 1's period, with an end-pending mark or none, `n` tickets pending, the ticket counter's
number, and the ENDING batches: run 1 alone is in service, so that a final partial period leaves nothing owed. -/
def crediting (final marked : Bool) (n number : Nat) (ending : List Batch) : State :=
  { keeping { batching with
      endPending := marked, ticketCounter := number, ending := ending
      pendingTickets := (List.range n).map (fun i => ⟨ticket i, false⟩) } (serving flowing) with
    cen := State.reset.cen.set 0 ⟨none, some ⟨{ record with final := final }, ⟨0, 0, 0, 0, 0⟩, false⟩, none⟩ }

/-- An ENDING batch that run 1 alone owes, or that run 2 owes too. -/
def older (id : Nat) (second : Bool) : Batch :=
  { newBatch { batchRecord with id := id } 0 .can1 0 with owing := (noRuns.set 0 true).set 1 second }

/-- Batch 7's target of 5 L is reached at 5,000 mL and not at 4,999 mL, its slowdown point at 4,000 mL; with a full period
and with the final one, with the end-pending mark and without, with three and four tickets pending, with a number and
without, and with no ENDING batch, with one, and with two. -/
theorem witness_TargetTestsFollowTheNetVolume :
    (∀ final ∈ [true, false], ∀ marked ∈ [true, false], ∀ n ∈ [2, 3, 4], ∀ number ∈ [0, 1, 4294967295],
      ∀ ending ∈ [[], [older 3 false], [older 3 true, older 4 true]],
      let s := crediting final marked n number ending
      s.phase = .running ∧ s.BatchIdsDistinct
        ∧ s.cen[(0 : Run)].computed = some ⟨{ record with final := final }, ⟨0, 0, 0, 0, 0⟩, false⟩
        ∧ s.ret.active = some (newBatch batchRecord 0 .can2 0))
      ∧ record.target = .batch batchRecord.id ∧ batchRecord.target = some 5 ∧ batchRecord.margin = some 1
      ∧ (newBatch batchRecord 0 .can2 0).flags.targetReached = false
      ∧ 5 * 1000 ≤ (newBatch batchRecord 0 .can2 0).totals.nsv + record.nsv
      ∧ (newBatch batchRecord 0 .can2 0).totals.nsv + ({ record with nsv := 4999 } : PeriodRecord).nsv < 5 * 1000 := by
  unfold State.BatchIdsDistinct Retained.BatchIdsDistinct; decide +kernel

/-- What becomes of batch 7: the ids of the ENDING batches, the number and the batch of each ticket that joined the pending
queue, whether a batch is ACTIVE still, and the end-pending mark. -/
def afterCrediting (s : State) : List Nat × List (Nat × Nat) × Bool × Bool :=
  match exec (.periodCrediting 0) s with
  | .next t => (t.ret.ending.map (fun b => b.record.id),
      (t.ret.pendingTickets.drop s.ret.pendingTickets.length).map (fun p => (p.ticket.number, p.ticket.batchId)),
      t.ret.active.isSome, t.ret.endPending)
  | _ => ([], [], false, false)

/-- R116, R117, R119 to R121: where its target ends batch 7, at once or at the crediting that finds the end-pending mark. It
stays while run 1 owes it; with nothing owed it closes, or waits for a place or for a number; an older batch that is ready
closes first, and one that is not stays. -/
theorem test_target_ends_a_batch (marked : Bool) :
    [crediting false marked 2 9 [], crediting true marked 3 9 [], crediting true marked 4 9 [],
        crediting true marked 3 0 [], crediting true marked 2 9 [older 3 false], crediting true marked 3 9 [older 3 false],
        crediting true marked 2 4294967295 [older 3 false], crediting true marked 2 9 [older 3 true]].map afterCrediting
      = [([7], [], false, false), ([], [(9, 7)], false, false), ([7], [], false, false), ([7], [], false, false),
        ([], [(9, 3), (10, 7)], false, false), ([7], [(9, 3)], false, false), ([7], [(4294967295, 3)], false, false),
        ([3], [(9, 7)], false, false)] := by
  cases marked <;> decide +kernel

/-- R117: with two ENDING batches batch 7 stays ACTIVE with its end-pending mark. -/
theorem test_target_with_two_ending_batches :
    afterCrediting (crediting false false 2 9 [older 3 true, older 4 true]) = ([3, 4], [], true, true) := by
  decide +kernel

/-- BUSY, NOT_ALLOWED (run 2 is out of service), and accepted with ROUTE_OK inactive, active, and the valve ready. -/
theorem witness_ProveStartRoutesTheRun :
    let s := serving flowing
    let on : InputFilter := ⟨true, true, none⟩
    s.Ready ∧ s.psq.state = .idle ∧ s.ret.service[(0 : Run)] = .inService
      ∧ s.pulses[(0 : Run)].flow = some .flowing ∧ s.pulses[(0 : Run)].pulseState = .dualOk
      ∧ s.ret.service[(1 : Run)] = .outOfService ∧ s.psq.routeOk.filtered = false
      ∧ ({ ProverSeq.reset with routeOk := on } : ProverSeq).fwdReady = false
      ∧ ({ ProverSeq.reset with routeOk := on, valveFwd := on } : ProverSeq).fwdReady = true
      ∧ (proving (sequencer .fwdTravel)).Ready ∧ (proving (sequencer .fwdTravel)).psq.state ≠ .idle := by
  unfold State.Ready State.Settled; decide +kernel

/-- ROUTE_OK rising in ROUTING, falling in a later state and in ROUTING; a valve switch closing in FWD_LAUNCH. -/
theorem witness_RouteAndValveInputsMoveTheProve :
    let s1 := proving { sequencer .routing with routeOk := ⟨true, false, some 0⟩, valveTimer := some 9 }
    let s2 := proving { sequencer .fwdLaunch with routeOk := ⟨false, true, some 0⟩, valveTimer := some 9 }
    let s3 := proving { sequencer .fwdLaunch with valveFwd := ⟨true, false, some 0⟩, valveTimer := some 9 }
    (s1.phase = .running ∧ s1.Settled ∧ s1.ProverSound ∧ s1.psq.routeOk.since = some 0 ∧ s1.psq.routeOk.raw = true)
      ∧ (s2.phase = .running ∧ s2.Settled ∧ s2.ProverSound ∧ s2.psq.routeOk.since = some 0
        ∧ s2.psq.routeOk.raw = false ∧ s2.psq.state.afterRouting = true)
      ∧ ProverState.afterRouting .routing = false
      ∧ (s3.phase = .running ∧ s3.Settled ∧ s3.ProverSound ∧ (s3.psq.input (valveInput .fwd)).since = some 0) := by
  unfold State.Settled State.ProverSound ProverSeq.Sound; decide +kernel

/-- The history reaches back to the stamp or not, before the first detector and before the second; a report in each state
that takes one; and a pass with each mark, with none, without tp1, and with 99 and 100 pulses. -/
theorem witness_CapturesAndPassesAreJudged :
    let s := fun (p : ProverState) (h : List HistoryEntry) => proving { sequencer p with
      det1 := ⟨true, false, some 5⟩, det2 := ⟨true, false, some 5⟩, fwd := some (.valid 5 7)
      passTimer := if p.waitsForSphere then some 9 else none, tailTimer := if p.waitsForTail then some 9 else none }
        |>.modRun 0 (fun x => { x with history := h })
    let e : HistoryEntry := ⟨5, 1⟩
    let old : HistoryEntry := ⟨4, 0⟩
    (∀ p ∈ [ProverState.fwdTravel, .fwdCount, .revTravel, .revCount, .fwdTail, .revTail], ∀ h ∈ [[e], [old, e], [old]],
      (s p h).phase = .running ∧ (s p h).Settled ∧ (s p h).ProverSound ∧ (s p h).psq.run = some 0
        ∧ (s p h).psq.fwd = some (.valid 5 7) ∧ (s p h).psq.lockout .det1 = none ∧ (s p h).psq.lockout .det2 = none
        ∧ ((s p h).psq.input (detectorInput .det1)).since = some 5
        ∧ ((s p h).psq.input (detectorInput .det2)).since = some 5
        ∧ (s p h).pulses[(s p h).proveRun].history = h)
      ∧ atOrAfter e.stamp (stampOf 5) = true ∧ atOrAfter old.stamp (stampOf 5) = false
      ∧ (∀ n ∈ [99, 100], ∃ x : CurrentPass, x.tp1 = some old ∧ x.tp2 = some ⟨9, BitVec.ofNat 32 n⟩ ∧ x.td1 = some 3
        ∧ x.td2 = some 8 ∧ x.short = false ∧ n = ((BitVec.ofNat 32 n : Counter) - old.index).toNat)
      ∧ CurrentPass.none.tp1 = none ∧ CurrentPass.none.short = false := by
  unfold State.Settled State.ProverSound ProverSeq.Sound
  refine ⟨by decide +kernel, by decide +kernel, by decide +kernel, ?_, rfl, rfl⟩
  intro n hn
  refine ⟨⟨some 3, some 8, some ⟨4, 0⟩, some ⟨9, BitVec.ofNat 32 n⟩, false⟩, rfl, rfl, rfl, rfl, rfl, ?_⟩
  fin_cases hn <;> decide +kernel

/-- R20: an older entry before the one found; every entry held at or after the tick; none; and, where an entry 2³¹ + 1 ticks
old counts as after the tick and a newer one does not, the model's choice (log entry 31). -/
theorem test_history_search :
    searchHistory 5 false [⟨4, 1⟩, ⟨5, 2⟩] = some ⟨⟨5, 2⟩, false⟩
      ∧ searchHistory 5 false [⟨5, 1⟩, ⟨6, 2⟩] = some ⟨⟨5, 1⟩, true⟩
      ∧ searchHistory 5 false [⟨4, 1⟩] = none
      ∧ searchHistory 0x80000006 false [⟨5, 1⟩, ⟨0x80000005, 2⟩] = some ⟨⟨5, 1⟩, true⟩ := by decide +kernel

/-- The first and the second detector of a forward pass, a lockout that runs, and a return to inactive. -/
theorem witness_DetectorsOpenAndCloseThePass :
    let s1 := proving { sequencer .fwdTravel with det1 := ⟨true, false, some 0⟩, passTimer := some 9 }
    let s2 := proving { sequencer .fwdCount with det2 := ⟨true, false, some 0⟩, passTimer := some 9 }
    let s3 := proving { sequencer .fwdCount with
      det1 := ⟨true, false, some 0⟩, det2 := ⟨false, true, some 0⟩, lockout1 := some 5, passTimer := some 9 }
    (∀ s ∈ [s1, s2, s3], s.phase = .running ∧ s.Settled ∧ s.ProverSound)
      ∧ (s1.psq.input (detectorInput .det1)).since = some 0 ∧ (s1.psq.input (detectorInput .det1)).raw = true
      ∧ s1.psq.lockout .det1 = none ∧ (s2.psq.input (detectorInput .det2)).since = some 0
      ∧ s2.psq.lockout .det2 = none ∧ s2.pulses[s2.proveRun].history = [] ∧ s3.psq.lockout .det1 = some 5
      ∧ (s3.psq.input (detectorInput .det2)).since = some 0 ∧ (s3.psq.input (detectorInput .det2)).raw = false := by
  unfold State.Settled State.ProverSound ProverSeq.Sound; decide +kernel

theorem witness_ProverTimersEndTheWait :
    let s1 := proving { sequencer .fwdLaunch with valveTimer := some 9 }
    let s2 := proving { sequencer .fwdTravel with passTimer := some 9 }
    let s3 := proving { sequencer .fwdTail with tailTimer := some 9 }
    let s4 := proving { sequencer .revTail with tailTimer := some 9, fwd := some (.valid 5 7) }
    (∀ s ∈ [s1, s2, s3, s4], s.phase = .running ∧ s.Settled ∧ s.ProverSound) ∧ s1.psq.valveTimer = some 9
      ∧ s2.psq.passTimer = some 9 ∧ s3.psq.tailTimer = some 9 ∧ s4.psq.fwd = some (.valid 5 7) := by
  unfold State.Settled State.ProverSound ProverSeq.Sound; decide +kernel

/-- The prove of section 7.11: run 2, slot 3, its meter, curve, product and PROVER, with a rate at the start, samples and
round trips. -/
def worked711 (qstart : Nat) (samples : List ValueSample) (trips : List RoundTrip) (autoAccept : Bool) : State :=
  let ret := { Retained.cold 1 with marker := some ⟨1, 3, 0, trips.length, none⟩ }
  keeping ret { worked47 with
    params := { worked47.params with prover := { ProverParams.factory with
      bpv := 30002100, gamma := 335, tref := 1500, k := 5, maxAttempts := 10, repeatLimit := 500
      deviationLimit := 2500, stabilityLimit := 20, autoAccept := autoAccept } }
    psq := { ProverSeq.reset with
      state := .revTail, run := some 1, slot := some 3, qstart := some qstart, samples := samples, trips := trips
      attempts := trips.length, route := #v[false, true, false, false], tailTimer := some 9
      fwd := some (.valid 369746795 107904310) } }

/-- Its four samples. -/
def samples711 : List ValueSample :=
  [⟨live 3847, live 1850, live 3812, live 1790⟩, ⟨live 3849, live 1852, live 3815, live 1792⟩,
    ⟨live 3850, live 1851, live 3816, live 1791⟩, ⟨live 3848, live 1849, live 3813, live 1791⟩]

/-- Section 7.11, the first round trip: VALID with an IMF of 1,001,260. R140 to R142: with TP HELD in one sample it is
LIVE_QUALITY; a Qstart of 50,038 less 2 % and a little is FLOW_UNSTABLE. -/
theorem test_round_trip_reasons :
    let reason := fun (s : State) => (s.judgeTrip (.valid 369746795 107904310) (.valid 369751205 107905700)).1
    let held := { live 3815 with quality := .held }
    reason (worked711 49956 samples711 [] false) = none
      ∧ reason (worked711 49956 (samples711.take 3 ++ [⟨live 3848, live 1849, held, live 1791⟩]) [] false)
        = some .liveQuality
      ∧ reason (worked711 49057 samples711 [] false) = none
      ∧ reason (worked711 49056 samples711 [] false) = some .flowUnstable
      ∧ reason { worked711 49956 samples711 [] false with
          params := { (worked711 49956 samples711 [] false).params with
            prover := { (worked711 49956 samples711 [] false).params.prover with bpv := 31464000 } } }
        = some .mfRange := by decide +kernel

/-- The round trips of section 7.11: the window's five valid records and the one that is not. -/
def trips711 : List RoundTrip :=
  [(1, some (50038, 1001260)), (2, none), (3, some (50021, 1001231)), (4, some (50044, 1001298)),
    (5, some (50030, 1001244)), (6, some (50027, 1001275))].map (fun x =>
      ⟨x.1, if x.2.isSome then none else some .liveQuality, some 369746795, some 369751205,
        x.2.map (fun y => ⟨y.1, 0, 0, 0, 0, 0, 0, 0, 0, 0, y.2⟩)⟩)

/-- Section 7.11, the window and the result: at round trip 6 the prove succeeds, and not at round trip 5. -/
theorem test_window_and_result :
    (worked711 49956 [] trips711 false).evaluateProve.psq.result
      = some ⟨1001262, 50032, 67, [1, 3, 4, 5, 6], some 1001148, false, some 114, false⟩
    ∧ (worked711 49956 [] (trips711.take 5) false).evaluateProve.psq.state = .fwdLaunch
    ∧ (worked711 49956 [] trips711 true).evaluateProve.params.curves[(1 : Run)][(3 : Slot)]
      = [⟨20000, 1003000⟩, ⟨30000, 1002150⟩, ⟨45000, 1001400⟩, ⟨50032, 1001262⟩, ⟨55000, 1000900⟩] := by
  decide +kernel

/-- A round trip is completed with a prove run and a recorded slot: the reverse pass of section 7.11 ends with the expiry
of its tail timer, or validly with each of the reasons of test_round_trip_reasons. -/
theorem witness_RoundTripsAreCompleted :
    let s := worked711 49956 samples711 [] false
    s.phase = .running ∧ s.Settled ∧ s.ProverSound ∧ s.psq.run = some 1 ∧ s.psq.slot = some 3
      ∧ s.psq.state = .revTail ∧ s.psq.tailTimer = some 9 ∧ s.psq.fwd = some (.valid 369746795 107904310)
      ∧ (∀ x ∈ s.psq.samples, x.t.quality = .live ∧ x.p.quality = .live ∧ x.tp.quality = .live
        ∧ x.pp.quality = .live) := by
  unfold State.Settled State.ProverSound ProverSeq.Sound; decide +kernel

/-- The window of five with auto-accept on and off; four valid records before the last attempt and at it; a window of five
whose repeatability is above its limit. -/
theorem witness_ProvesAreJudged :
    let s := fun (trips : List RoundTrip) (a : Bool) => worked711 49956 [] trips a
    let imfs := [1001260, 1001231, 1001298, 1001244, 1001275]
    let last := trips711.take 5 ++ List.replicate 5 ⟨6, some .mfRange, some 5, some 5, none⟩
    (∀ a ∈ [true, false], ∀ trips ∈ [trips711, trips711.take 5, last],
      (s trips a).psq.run = some 1 ∧ (s trips a).psq.slot = some 3
        ∧ (s trips a).ret.marker = some ⟨1, 3, 0, trips.length, none⟩ ∧ (s trips a).params.prover.k = 5
        ∧ (s trips a).params.prover.maxAttempts = 10 ∧ (s trips a).psq.attempts = trips.length)
      ∧ ((validTrips trips711).drop ((validTrips trips711).length - 5)).map (fun w => w.2.imf) = imfs
      ∧ imfs.max? = some 1001298 ∧ imfs.min? = some 1001231
      ∧ (2 * ((1001298 - 1001231) * 1000000) + 1001231) / (2 * 1001231) = 67
      ∧ (validTrips (trips711.take 5)).length = 4 ∧ (validTrips last).length = 4 ∧ last.length = 10
      ∧ 500 < (2 * ((1002000 - 1001000) * 1000000) + 1001000) / (2 * 1001000)
      ∧ curveFactor? [] 50032 = none ∧ (s trips711 true).batchInForce? 1 = none := by decide +kernel

/-- A pending result with no batch in force and with batch 7 in force, a prove in progress, and IDLE. -/
theorem witness_ProveRequestsCompleteTheProve :
    let s1 := proving { ProverSeq.reset with state := .resultPending, result := some result }
    let s2 := proving { sequencer .routing with valveTimer := some 9 }
    let s3 := keeping { batching with marker := some ⟨0, 0, 0, 0, none⟩ } s1
    (∀ s ∈ [s1, s2, s3], s.Ready ∧ s.ProverSound ∧ s.psq.run = some 0 ∧ s.psq.slot = some 0
        ∧ s.ret.marker = some ⟨0, 0, 0, 0, none⟩)
      ∧ s1.psq.result = some result ∧ s2.psq.state.proving = true ∧ s2.psq.state ≠ .resultPending
      ∧ s1.batchInForce? 0 = none ∧ s3.psq.state = .resultPending ∧ s3.psq.result = some result
      ∧ s3.batchInForce? 0 = some (newBatch batchRecord 0 .can2 0) ∧ s3.BatchIdsDistinct
      ∧ State.reset.Ready ∧ State.reset.psq.state = .idle ∧ State.reset.psq.state ≠ .resultPending := by
  unfold State.Ready State.Settled State.ProverSound ProverSeq.Sound State.BatchIdsDistinct Retained.BatchIdsDistinct
  decide +kernel

/-- A full curve of six points, and a new point at its limits. -/
theorem witness_AppliedResultKeepsTheCurveValid :
    curveValid [⟨1, 950000⟩, ⟨2, 950000⟩, ⟨3, 950000⟩, ⟨4, 950000⟩, ⟨5, 950000⟩, ⟨99998, 1050000⟩] = true
      ∧ CurvePoint.valid ⟨99999, 1050000⟩ = true := by decide +kernel

/-! ### Witnesses: chapters 8 to 11 -/

/-- The width timer; the interval timer with an empty queue, a head for the other can, a full can, and a grab. -/
theorem witness_SamplerTimersServeTheQueue :
    let at_ := fun (queue : List OwedGrab) (full : InputFilter) => sampling { Sampler.reset with
      state := .grabbing, queue := queue, intervalTimer := some 9, widthTimer := some 2, grab := true, full1 := full }
    let swap := sampling { Sampler.reset with state := .swapping, swapTimer := some 9 }
    (at_ [] .low).phase = .running ∧ (at_ [] .low).Settled ∧ (at_ [] .low).smc.widthTimer = some 2
      ∧ (at_ [] .low).smc.intervalTimer = some 9 ∧ (at_ [] .low).smc.swapTimer = none
      ∧ swap.smc.swapTimer = some 9 ∧ swap.smc.intervalTimer = none ∧ swap.smc.widthTimer = none
      ∧ swap.smc.grab = false ∧ (at_ [⟨7, .can2⟩] .low).ret.selectedCan = .can1
      ∧ (at_ [⟨7, .can1⟩] ⟨true, true, none⟩).canIsFull .can1 = true
      ∧ (at_ [⟨7, .can1⟩] .low).canIsFull .can1 = false := by
  unfold State.Settled; decide +kernel

theorem witness_SamplerRequestsAndCanInputs :
    let halted := sampling { Sampler.reset with
      state := .halted, queue := [⟨7, .can1⟩], haltedCan := some .can1, full1 := ⟨false, true, some 0⟩ }
    State.reset.Ready ∧ State.reset.ret.enable = .off ∧ halted.Ready ∧ halted.ret.enable = .on
      ∧ halted.smc.queue ≠ [] ∧ halted.alarmRaised (.station .samplerMissed) = false
      ∧ (halted.smc.fullInput .can1).since = some 0 ∧ halted.smc.state = .halted
      ∧ (halted.smc.fullInput .can1).raw = false
      ∧ (let full := sampling { Sampler.reset with state := .halted, full1 := ⟨true, false, some 0⟩ }
        full.Ready ∧ (full.smc.fullInput .can1).since = some 0 ∧ (full.smc.fullInput .can1).raw = true) := by
  unfold State.Ready State.Settled; decide +kernel

/-- A write in flight with its ticket at the head; a VALID and a RETRIEVED ticket, one pending, and one not known. -/
theorem witness_WritesAndAcksMoveTickets :
    writingState.Ready ∧ writingState.ArchiveSound ∧ writingState.write = some ⟨0, 1⟩
      ∧ writingState.ret.pendingTickets = ⟨ticket 4, true⟩ :: []
      ∧ (∀ x ∈ writingState.ret.ending, writingState.readyToClose x = false)
      ∧ writingState.archive.findTicket? 3 = some (0, 0) ∧ writingState.archive.slot (0, 0) = .valid (ticket 3)
      ∧ writingState.archive.findTicket? 2 = some (0, 2) ∧ writingState.archive.slot (0, 2) = .retrieved (ticket 2)
      ∧ writingState.archive.findTicket? 4 = none ∧ (writingState.pendingTicket? 4).isSome = true
      ∧ (writingState.pendingTicket? 5).isSome = false := by
  unfold State.Ready State.Settled State.ArchiveSound State.WritesFromTheHead State.EraseMatches State.WriteMatches
    Archive.ErasedAreEmpty Archive.ErasingAreReleased
  decide +kernel

/-- The write in flight with an erase suspended for it, and with a second ticket behind the first or none. -/
def suspendedState (ps : List PendingTicket) : State :=
  { keeping { Retained.cold 1 with pendingTickets := ⟨ticket 4, true⟩ :: ps } writingState with
    erase := some ⟨7, 700, none⟩
    archive := { writingState.archive with
      sectors := writingState.archive.sectors.set 7 ⟨.eraseSuspended, some 9, Vector.replicate 8 .defective⟩ } }

/-- A write completes with an erase suspended: it resumes where no further write starts. -/
theorem witness_WritesResumeASuspendedErase :
    ∀ ps ∈ [[], [⟨ticket 5, false⟩]],
      (suspendedState ps).phase = .running ∧ (suspendedState ps).ArchiveSound
        ∧ (suspendedState ps).write = some ⟨0, 1⟩
        ∧ (suspendedState ps).ret.pendingTickets = ⟨ticket 4, true⟩ :: ps
        ∧ (∀ x ∈ (suspendedState ps).ret.ending, (suspendedState ps).readyToClose x = false)
        ∧ (suspendedState ps).erase = some ⟨7, 700, none⟩
        ∧ (match exec (.writeCompletion true) (suspendedState ps) with
          | .next t => decide (t.erase = some ⟨7, 700, if ps.isEmpty then some 0 else none⟩) && t.write.isSome == !ps.isEmpty
          | _ => false) = true := by
  unfold State.ArchiveSound State.WritesFromTheHead State.EraseMatches State.WriteMatches Archive.ErasedAreEmpty
    Archive.ErasingAreReleased
  decide +kernel

theorem witness_EraseCompletionEmptiesTheSector :
    ({ State.reset with erase := some ⟨0, 15000000, some 0⟩ } : State).phase = .running
      ∧ ({ State.reset with erase := some ⟨0, 15000000, some 0⟩ } : State).erase = some ⟨0, 15000000, some 0⟩ :=
  ⟨rfl, rfl⟩

/-- Every sector FULL with released slots, opened in order from sector 3 on, but for one sector as given; one ticket
QUEUED. -/
def archived (i : Sector) (x : ArchiveSector) : State :=
  { keeping { Retained.cold 1 with pendingTickets := [⟨ticket 4, false⟩] } State.reset with
    archive := { Archive.factory with
      newest := 2, openCounter := 50
      sectors := (Vector.ofFn (fun k : Fin 8 =>
        (⟨.full, some (BitVec.ofNat 32 ((k - 3).val + 40)), Vector.replicate 8 (.retrieved (ticket 1))⟩ : ArchiveSector))).set
          i x } }

/-- An OPEN sector whose slot 2 is its lowest EMPTY one, with its last slot as given. -/
def openSector (last : SlotState) : ArchiveSector :=
  ⟨.opened, some 48, #v[.valid (ticket 3), .defective, .empty, .defective, .defective, .defective, .defective, last]⟩

/-- An ERASED sector. -/
def erasedSector : ArchiveSector := ⟨.erased, none, Vector.replicate 8 .empty⟩

/-- The oldest FULL sector but for a VALID ticket in one of its slots. -/
def validSector : ArchiveSector := ⟨.full, some 40, (Vector.replicate 8 .defective).set 5 (.valid (ticket 3))⟩

/-- An OPEN sector 2, with the erase of sector 6 running or suspended. -/
def erasingState (since : Option Moment) : State :=
  let s := archived 2 (openSector .defective)
  { s with
    erase := some ⟨6, 700, since⟩
    archive := { s.archive with
      sectors := s.archive.sectors.set 6
        ⟨if since.isSome then .erasing else .eraseSuspended, some 43, Vector.replicate 8 .defective⟩ } }

/-- The slot, the erase and the condition of ARCHIVE_FULL that trying a write leaves. -/
def tried (s : State) : Option WriteInFlight × Option EraseInProgress × Bool :=
  let t := s.tryStartWrite
  (t.write, t.erase, t.alarmRaised (.station .archiveFull))

/-- A slot of the OPEN sector, not its last EMPTY one and its last; the first ERASED sector after the newest, at each end of
the ring; and a running and a suspended erase. -/
theorem witness_WritesChooseTheirSlots :
    ∀ s ∈ [archived 2 (openSector .empty), archived 2 (openSector .defective), archived 3 erasedSector,
        archived 2 erasedSector, erasingState (some 0), erasingState none],
      s.ret.pendingTickets = ⟨ticket 4, false⟩ :: [] ∧ s.write = none ∧ s.EraseMatches := by
  unfold State.EraseMatches; decide +kernel

/-- R173, R177: where a write goes, what it leaves of an erase, and ARCHIVE_FULL where no slot is free. -/
theorem test_slot_choice :
    tried (archived 2 (openSector .empty)) = (some ⟨2, 2⟩, none, false)
      ∧ (archived 2 (openSector .empty)).tryStartWrite.archive.sectors[(2 : Sector)].state = .opened
      ∧ (archived 2 (openSector .defective)).tryStartWrite.archive.sectors[(2 : Sector)].state = .full
      ∧ tried (archived 3 erasedSector) = (some ⟨3, 0⟩, none, false)
      ∧ tried (archived 2 erasedSector) = (some ⟨2, 0⟩, none, false)
      ∧ tried (erasingState (some 0)) = (some ⟨2, 2⟩, some ⟨6, 700, none⟩, false)
      ∧ tried (erasingState none) = (some ⟨2, 2⟩, some ⟨6, 700, none⟩, false)
      ∧ tried (archived 3 validSector) = (none, none, true) := by decide +kernel

/-- R176, R177: the oldest FULL sector is reclaimed, unless it holds a VALID ticket or two sectors are ERASED; and a
suspended erase resumes. -/
theorem test_reclaim :
    (archived 4 validSector).testReclaim.erase = some ⟨3, 15000000, some 0⟩
      ∧ (archived 3 validSector).testReclaim.erase = none
      ∧ (archived 4 erasedSector).testReclaim.erase = some ⟨3, 15000000, some 0⟩
      ∧ ({ archived 4 erasedSector with
          archive := { (archived 4 erasedSector).archive with
            sectors := (archived 4 erasedSector).archive.sectors.set 5 erasedSector } } : State).testReclaim.erase = none
      ∧ (erasingState none).resumeErase.erase = some ⟨6, 700, some 0⟩ := by decide +kernel

/-- An alarm in each of the four states. -/
theorem witness_RaisedAndClearedConditionsMoveTheAlarm :
    ∀ x ∈ [AlarmState.normal, .activeUnack, .activeAck, .returnedUnack],
      (({ State.reset with alarms := State.reset.alarms.set 0 ⟨x, none⟩ } : State).alarm (.station .tpQuality)).state
        = x := by decide +kernel

/-- A running module, and one held by RESET_N. -/
theorem witness_AcknowledgementAndStatusClearTheirOwn :
    State.reset.Ready ∧ (State.reset.alarm (.station .tpQuality)).state ≠ .normal
      ∧ State.reset.flags.has .restarted = true ∧ State.reset.resetActive = false
      ∧ (let s := { State.reset with phase := .stopped, resetActive := true }
        s.powered = true ∧ s.resetActive = true ∧ s.phase = .stopped) := by
  unfold State.Ready State.Settled; decide +kernel

theorem witness_ClockIsSetAndCounts :
    State.reset.Ready ∧ (4294967295 : Nat) ≤ 4294967295
      ∧ ({ State.reset with phase := .stopped } : State).phase ≠ .running := by
  unfold State.Ready State.Settled; decide +kernel

/-- Run 4 at the end of the runs' range; no snapshot; a VALID ticket; a full list of pairs. -/
theorem witness_ReadsAnswerAndChangeNothing :
    let s := { State.reset with
      archive := { Archive.factory with
        sectors := Archive.factory.sectors.set 0
          ⟨.opened, some 1, #v[.valid (ticket 3), .empty, .empty, .empty, .empty, .empty, .empty, .empty]⟩ } }
    s.Ready ∧ s.snapshot = none ∧ s.archive.findTicket? 3 = some (0, 0) ∧ s.archive.slot (0, 0) = .valid (ticket 3)
      ∧ (List.replicate 8 (⟨true, true⟩ : MatchPair)).length = 8
      ∧ (∃ e, s.audit.entries.head? = some e ∧ s.audit.entries.getLast? = some e ∧ inRing e.seq e.seq 1 = true
        ∧ inRing e.seq e.seq 2 = false ∧ beyondNewest e.seq 2 = true ∧ inRing e.seq e.seq 0 = false
        ∧ beyondNewest e.seq 0 = false)
      ∧ ({ s with audit := ⟨[], none⟩ } : State).audit.entries = [] := by
  unfold State.Ready State.Settled
  refine ⟨by decide +kernel, rfl, by decide +kernel, by decide +kernel, by decide +kernel,
    ⟨⟨1, 0, .coldStart .retainedInvalid⟩, by decide +kernel⟩, rfl⟩

/-- The kind of verdict on a request: discarded, refused by the link with a status, or handed to its owner. -/
def verdictOn (kind : Byte) (body : List Byte) : Option (Option Status) :=
  match judgeFrame ⟨kind, 7#8, body⟩ with
  | .discard => none
  | .refusal st => some (some st)
  | .owner _ => some none

/-- R207, R209: the length is judged before the fields. A presence byte of 2 in READ ALARMS and STAGE OPEN, in bodies of
a length that the fields can produce and of lengths that they cannot. -/
theorem test_length_before_presence :
    verdictOn 0x4B#8 [2#8] = some (some .badParam) ∧ verdictOn 0x4B#8 [2#8, 0#8] = some (some .badParam)
      ∧ verdictOn 0x4B#8 [2#8, 0#8, 0#8] = some (some .badLength)
      ∧ verdictOn 0x10#8 [0#8, 2#8] = some (some .badLength)
      ∧ verdictOn 0x10#8 [0#8, 2#8, 1#8] = some (some .badParam)
      ∧ verdictOn 0x10#8 [0#8, 2#8, 1#8, 1#8, 1#8] = some (some .badLength)
      ∧ verdictOn 0x10#8 [0#8, 1#8, 1#8, 1#8] = some none := by decide +kernel

/-- The request that a frame stands for is well-formed and none of the three that the link refuses. -/
def framed (c : Instr) : Bool :=
  c.wellFormed && (match requestFrame? 7 c with
    | none => false
    | some f => decide (verdictOn f.kind f.body = some none)
        && decide (verdictOn f.kind (f.body ++ [0#8]) = some (some .badLength)))

/-- R207: one request of each of the 39 kinds, STAGE ITEM apart in a frame that its owner takes, and with a byte behind it
of a bad length; an upper bit of a run set, no run, and a vessel character of 1Fh. -/
theorem witness_RequestFramesReachTheirOwners :
    [Instr.runService ((noRuns.set 0 true).set 3 true) .out, .liveValues [⟨255, .fault, -2147483648⟩],
      .readValues .list [0, 255], .overrideSet 255 2147483647, .overrideRelease 0, .stageOpen .meter (some (noRuns.set 3 true)) 1,
      .stageCommit, .stageCancel, .lockSection 11, .unlockAll, .readSection 0, .readRun 4, .freeze,
      .readTotals .snapshot .batch none (some 4294967295), .restart .cold, .batchQueueAdd batchRecord,
      .batchQueueAdd { batchRecord with vessel := some [0x20#8, 0x7E#8], density := some 65535 }, .batchQueueRemove 7,
      .batchStart, .batchEnd, .batchChange, .batchList, .proveStart 1, .proveAccept, .proveReject, .proveAbort, .readProve,
      .canReset 2, .samplerEnable .on, .readSampler, .ticketRead 0, .ticketAck 4294967295, .archiveStatus,
      .auditRead 0xFFFFFFFF#32, .status, .statusMatch (List.replicate 8 ⟨true, false⟩),
      .alarmAck .one (some (.station .sealOpen)) (some 4), .readAlarms true, .setTime 4294967295].all framed = true
      ∧ verdictOn 0x11#8 [3#8, 1#8] = some none ∧ verdictOn 0x11#8 [] = some (some .badLength)
      ∧ verdictOn 0x01#8 [16#8, 0#8] = some (some .badParam) ∧ verdictOn 0x01#8 [0#8, 0#8] = some (some .badParam)
      ∧ vesselPrintable (some [0x1F#8]) = false
      ∧ (requestFrame? 7 (.batchQueueAdd { batchRecord with vessel := some [0x1F#8] })).map
          (fun f => verdictOn f.kind f.body) = some (some (some .badParam))
      ∧ (List.range 128).countP (fun k => (catalogue k).isSome) = 39 := by decide +kernel

/-- R208 to R210: frames written out by hand. RUN SERVICE of runs 1 and 4 OUT, TICKET READ of ticket 258, OVERRIDE SET of
index 8 to −2, BATCH QUEUE REMOVE of batch 999,999; and the reply frame of BATCH END with FULL, whose CRC is that of its
length, kind, tag and body. -/
theorem test_request_bytes :
    (requestFrame? 7 (.runService ((noRuns.set 0 true).set 3 true) .out)).map Frame.body = some [0x09#8, 0x01#8]
      ∧ (requestFrame? 7 (.ticketRead 258)).map Frame.body = some [0x02#8, 0x01#8, 0x00#8, 0x00#8]
      ∧ (requestFrame? 7 (.overrideSet 8 (-2))).map Frame.body = some [0x08#8, 0xFE#8, 0xFF#8, 0xFF#8, 0xFF#8]
      ∧ (requestFrame? 7 (.batchQueueRemove 999999)).map Frame.body = some [0x3F#8, 0x42#8, 0x0F#8, 0x00#8]
      ∧ (replyFrame ⟨0x2B#8, 7#8, []⟩ ⟨.full, []⟩).take 6
        = [0xA5#8, 0x01#8, 0x00#8, 0xAB#8, 0x07#8, BitVec.ofNat 8 Status.full.code] := by decide +kernel

/-- A frame with a body: RUN SERVICE of run 1, its last byte still to come, on an idle link, on a link that is SENDING with
and without a waiting frame, and on one with the restart mark set; a wrong last byte; a length of 1,025. -/
theorem witness_LinkTakesFramesWithABody :
    let f : Frame := ⟨0x01#8, 7#8, [1#8, 0#8]⟩
    let checked := leBytes 2 f.body.length ++ [f.kind, f.tag] ++ f.body
    let crc := leBytes 2 (crc16 checked).toNat
    let x : Link := { Link.reset with framer := .receiving (checked ++ crc.take 1) }
    let taken := checked ++ crc.take 1
    (∀ l ∈ [x, { x with sending := some [] }, { x with sending := some [], waiting := some f },
        { x with restartMark := some .warm }],
      ({ State.reset with link := l } : State).phase = .running ∧ ({ State.reset with link := l } : State).Settled)
      ∧ f.body.length ≤ 1024 ∧ crc.take 1 ++ [crc.getD 1 0#8] = crc
      ∧ verdictOn 0x01#8 [1#8, 0#8] = some none ∧ verdictOn 0x01#8 [1#8] = some (some .badLength)
      ∧ verdictOn 0x81#8 [1#8, 0#8] = none ∧ (0x80 ≤ (0x81#8).toNat) ∧ catalogue 0x7F = none
      ∧ ofLe (taken.take 2) + 6 ≤ taken.length + 1
      ∧ ofLe ((taken ++ [crc.getD 1 0#8 + 1#8]).drop (taken.length - 1))
          ≠ (crc16 ((taken ++ [crc.getD 1 0#8 + 1#8]).take (taken.length - 1))).toNat
      ∧ 1024 < ofLe [1#8, 4#8] ∧ ofLe [0#8, 4#8] ≤ 1024 := by
  unfold State.Settled; decide +kernel

/-- The last byte of a BATCH START frame, of kind 2Ah, with tag 7; a reply being sent; and a waiting frame of an unknown
kind. -/
theorem witness_LinkTakesFramesAndSendsReplies :
    let crc := leBytes 2 (crc16 [0#8, 0#8, 0x2A#8, 7#8]).toNat
    let s := { State.reset with
      link := { Link.reset with framer := .receiving ([0#8, 0#8, 0x2A#8, 7#8] ++ crc.take 1), gapTimer := some 9 } }
    s.phase = .running ∧ s.Settled ∧ s.link.gapTimer = some 9 ∧ crc.take 1 ++ [crc.getD 1 0#8] = crc
      ∧ s.link.restartMark = none ∧ s.link.sending = none
      ∧ (match judgeFrame ⟨0x2A#8, 7#8, []⟩ with
        | .owner _ => true
        | _ => false) = true
      ∧ (match judgeFrame ⟨0x7F#8, 7#8, []⟩ with
        | .refusal .unknownKind => true
        | _ => false) = true := by
  unfold State.Settled; decide +kernel

end Sys2Proof.Tests
end

section
/-! The arrivals of the Live Value Store (R26 to R30): what one entry of a LIVE VALUES request does to its value and to
the alarms of its value, what it leaves as it was, and that the entries of a list do not touch each other. -/

namespace Sys2Proof.Machine

/-! ### The names of values and of their alarms (R24, R39, R40) -/

theorem valueOfIndex?_valueIndex (v : ValueId) : valueOfIndex? (valueIndex v).val = some v := by
  cases v with
  | t r => revert r; decide
  | p r => revert r; decide
  | tp | pp | rho | sw => rfl

theorem valueIndex_val_injective : Function.Injective (fun v : ValueId => (valueIndex v).val) := fun v w h => by
  have hv := valueOfIndex?_valueIndex v
  simp only at h
  rw [h, valueOfIndex?_valueIndex] at hv
  exact (Option.some.inj hv).symm

theorem qualityAlarm_injective : Function.Injective qualityAlarm := fun v w h => by
  cases v <;> cases w <;> simp_all [qualityAlarm]

theorem clampAlarm?_injective {v w : ValueId} {a : AlarmId} (hv : clampAlarm? v = some a)
    (hw : clampAlarm? w = some a) : v = w := by
  have h := hv.trans hw.symm
  clear hw
  cases v <;> cases w <;> simp_all [clampAlarm?]

theorem clampAlarm?_ne_qualityAlarm (v w : ValueId) : clampAlarm? v ≠ some (qualityAlarm w) := by
  cases v <;> cases w <;> simp [clampAlarm?, qualityAlarm]

/-! ### One alarm (R189, R190) -/

/-- An alarm after its owner raised or cleared it by `f` at the given time of the station clock. -/
def Alarm.moved (x : Alarm) (clock : Seconds) (f : AlarmState → AlarmState) : Alarm :=
  if f x.state = x.state then x else ⟨f x.state, some clock⟩

theorem Alarm.moved_state (x : Alarm) (c : Seconds) (f : AlarmState → AlarmState) :
    (x.moved c f).state = f x.state := by
  unfold Alarm.moved; split <;> simp_all

@[simp] theorem Alarm.moved_id (x : Alarm) (c : Seconds) : x.moved c id = x := by simp [Alarm.moved]

section State

variable (s : State)

theorem State.alarm_moveAlarm (a : AlarmId) (f : AlarmState → AlarmState) :
    (s.moveAlarm a f).alarm a = (s.alarm a).moved s.clock f := by
  unfold State.moveAlarm Alarm.moved; split
  · rfl
  · simp [State.alarm]

@[simp] theorem State.moveAlarm_id (a : AlarmId) : s.moveAlarm a id = s := by simp [State.moveAlarm]

theorem State.alarmRaised_of_cleared {s : State} {a : AlarmId} {x : Alarm} {c : Seconds}
    (h : s.alarm a = x.moved c .cleared) : s.alarmRaised a = false := by
  unfold State.alarmRaised
  rw [h, Alarm.moved_state]
  cases x.state <;> rfl

/-- An owner that repeats what the condition already is changes nothing (R190). -/
theorem State.setAlarm_alarmRaised (a : AlarmId) : s.setAlarm a (s.alarmRaised a) = s := by
  unfold State.setAlarm State.raiseAlarm State.clearAlarm State.moveAlarm State.alarmRaised
  cases h : (s.alarm a).state <;> simp [AlarmState.raised, AlarmState.cleared]

/-! ### One value -/

@[simp] theorem State.value_modValue_same (v : ValueId) (f : LiveValue → LiveValue) :
    (s.modValue v f).value v = f (s.value v) := modAt_same ..

theorem State.value_modValue_other {v w : ValueId} (f : LiveValue → LiveValue) (h : w ≠ v) :
    (s.modValue v f).value w = s.value w :=
  modAt_other _ _ _ _ fun e => h (valueIndex_val_injective (congrArg Fin.val e)).symm

/-- Giving a value the state that it has changes nothing. -/
theorem State.modValue_eq_self {v : ValueId} {f : LiveValue → LiveValue} (h : f (s.value v) = s.value v) :
    s.modValue v f = s := by
  have hvalues : modAt s.values (valueIndex v) f = s.values := by
    show s.values.set (valueIndex v) (f (s.value v)) = s.values
    rw [h]
    exact Vector.set_getElem_self _
  simp [State.modValue, hvalues]

@[simp] theorem State.alarm_modValue (v : ValueId) (f : LiveValue → LiveValue) (a : AlarmId) :
    (s.modValue v f).alarm a = s.alarm a := rfl

@[simp] theorem State.value_moveAlarm (a : AlarmId) (f : AlarmState → AlarmState) (v : ValueId) :
    (s.moveAlarm a f).value v = s.value v := by simp [State.value]

/-- What the quality in force of a value makes of the value's quality alarm (R39). -/
def LiveValue.qualityMove (lv : LiveValue) : AlarmState → AlarmState := if lv.notFresh then .raised else .cleared

theorem State.syncQualityAlarm_eq (v : ValueId) :
    s.syncQualityAlarm v = s.moveAlarm (qualityAlarm v) (s.value v).qualityMove := by
  unfold State.syncQualityAlarm State.setAlarm LiveValue.qualityMove LiveValue.notFresh
  split <;> rfl

theorem State.syncQualityAlarm_of_agree {v : ValueId}
    (h : s.alarmRaised (qualityAlarm v) = (s.value v).notFresh) : s.syncQualityAlarm v = s := by
  have hsync : s.syncQualityAlarm v = s.setAlarm (qualityAlarm v) (s.value v).notFresh := rfl
  rw [hsync, ← h, State.setAlarm_alarmRaised]

/-- The clamp alarm of a value, where it has one, moved by `f` (R40). -/
def State.moveClampAlarm (v : ValueId) (f : AlarmState → AlarmState) : State :=
  match clampAlarm? v with
  | some a => s.moveAlarm a f
  | none => s

theorem State.moveClampAlarm_of_some {v : ValueId} {a : AlarmId} (f : AlarmState → AlarmState)
    (h : clampAlarm? v = some a) : s.moveClampAlarm v f = s.moveAlarm a f := by
  simp [State.moveClampAlarm, h]

theorem State.moveClampAlarm_of_none {v : ValueId} (f : AlarmState → AlarmState) (h : clampAlarm? v = none) :
    s.moveClampAlarm v f = s := by
  simp [State.moveClampAlarm, h]

@[simp] theorem State.moveClampAlarm_id (v : ValueId) : s.moveClampAlarm v id = s := by
  unfold State.moveClampAlarm; split <;> simp

@[simp] theorem State.moveClampAlarm_clock (v : ValueId) (f : AlarmState → AlarmState) :
    (s.moveClampAlarm v f).clock = s.clock := by
  unfold State.moveClampAlarm; split <;> simp

@[simp] theorem State.value_moveClampAlarm (v w : ValueId) (f : AlarmState → AlarmState) :
    (s.moveClampAlarm v f).value w = s.value w := by
  unfold State.moveClampAlarm; split <;> simp

theorem State.alarm_moveClampAlarm_other {v : ValueId} {a : AlarmId} (f : AlarmState → AlarmState)
    (h : clampAlarm? v ≠ some a) : (s.moveClampAlarm v f).alarm a = s.alarm a := by
  unfold State.moveClampAlarm; split
  next b hb => exact s.alarm_moveAlarm_other b a f fun e => h (e ▸ hb)
  next => rfl

/-! ### One entry (R28 to R30) -/

/-- What an entry makes of the state of its value. -/
def State.arrived (v : ValueId) (e : LiveEntry) (lv : LiveValue) : LiveValue :=
  match e.status with
  | .fault => lv.toHeld
  | .ok =>
    if valueInRange v e.value then
      { s.restartTimers lv with lastGood := some e.value, ladder := .live, clampRaised := false }
    else
      { s.restartTimers lv with
        lastGood := some (clampInt (valueLow v) (valueHigh v) e.value)
        ladder := .liveClamped
        clampRaised := (clampAlarm? v).isSome }

/-- What an entry makes of the clamp alarm of its value: a FAULT leaves it as it is. -/
def clampMove (v : ValueId) (e : LiveEntry) : AlarmState → AlarmState :=
  match e.status with
  | .fault => id
  | .ok => if valueInRange v e.value then .cleared else .raised

/-- The one form of the three arrivals: the value's state, then its clamp alarm, then its quality alarm. -/
theorem State.applyEntry_eq (v : ValueId) (e : LiveEntry) :
    s.applyEntry v e = ((s.modValue v (s.arrived v e)).moveClampAlarm v (clampMove v e)).syncQualityAlarm v := by
  unfold State.applyEntry clampMove State.arrived
  cases e.status with
  | fault => rw [State.moveClampAlarm_id]; rfl
  | ok =>
    dsimp only
    split
    next => unfold State.goodArrival State.moveClampAlarm; cases clampAlarm? v <;> rfl
    next => unfold State.clampedArrival State.moveClampAlarm; cases clampAlarm? v <;> rfl

theorem State.applyEntry_value_same (v : ValueId) (e : LiveEntry) :
    (s.applyEntry v e).value v = s.arrived v e (s.value v) := by
  simp [State.applyEntry_eq, State.syncQualityAlarm_eq]

theorem State.applyEntry_value_other {v w : ValueId} (e : LiveEntry) (h : w ≠ v) :
    (s.applyEntry v e).value w = s.value w := by
  simp [State.applyEntry_eq, State.syncQualityAlarm_eq, State.value_modValue_other s _ h]

theorem State.applyEntry_qualityAlarm (v : ValueId) (e : LiveEntry) :
    (s.applyEntry v e).alarm (qualityAlarm v)
      = (s.alarm (qualityAlarm v)).moved s.clock (s.arrived v e (s.value v)).qualityMove := by
  rw [State.applyEntry_eq, State.syncQualityAlarm_eq, State.alarm_moveAlarm,
    State.alarm_moveClampAlarm_other _ _ (clampAlarm?_ne_qualityAlarm v v)]
  simp

theorem State.applyEntry_clampAlarm {v : ValueId} {a : AlarmId} (e : LiveEntry) (h : clampAlarm? v = some a) :
    (s.applyEntry v e).alarm a = (s.alarm a).moved s.clock (clampMove v e) := by
  have hne : qualityAlarm v ≠ a := fun he => clampAlarm?_ne_qualityAlarm v v (he ▸ h)
  rw [State.applyEntry_eq, State.syncQualityAlarm_eq, State.alarm_moveAlarm_other _ _ _ _ hne,
    State.moveClampAlarm_of_some _ _ h, State.alarm_moveAlarm]
  simp

theorem State.applyEntry_alarm_other {v : ValueId} {a : AlarmId} (e : LiveEntry) (hc : clampAlarm? v ≠ some a)
    (hq : a ≠ qualityAlarm v) : (s.applyEntry v e).alarm a = s.alarm a := by
  rw [State.applyEntry_eq, State.syncQualityAlarm_eq, State.alarm_moveAlarm_other _ _ _ _ hq.symm,
    State.alarm_moveClampAlarm_other _ _ hc, State.alarm_modValue]

/-! ### What arrivals leave as it was -/

/-- `t` is `s` but for the values, the alarms and the event flag set. -/
def State.ValuesMoved (s t : State) : Prop :=
  ∃ values alarms flags, t = { s with values := values, alarms := alarms, flags := flags }

theorem State.ValuesMoved.refl : s.ValuesMoved s := ⟨s.values, s.alarms, s.flags, rfl⟩

theorem State.ValuesMoved.trans {s t u : State} (h : s.ValuesMoved t) (h' : t.ValuesMoved u) : s.ValuesMoved u := by
  obtain ⟨_, _, _, rfl⟩ := h
  obtain ⟨_, _, _, rfl⟩ := h'
  exact ⟨_, _, _, rfl⟩

theorem State.valuesMoved_moveAlarm (a : AlarmId) (f : AlarmState → AlarmState) : s.ValuesMoved (s.moveAlarm a f) := by
  unfold State.moveAlarm; split
  · exact .refl s
  · exact ⟨_, _, _, rfl⟩

theorem State.valuesMoved_moveClampAlarm (v : ValueId) (f : AlarmState → AlarmState) :
    s.ValuesMoved (s.moveClampAlarm v f) := by
  unfold State.moveClampAlarm; split
  · exact s.valuesMoved_moveAlarm ..
  · exact .refl s

theorem State.valuesMoved_applyEntry (v : ValueId) (e : LiveEntry) : s.ValuesMoved (s.applyEntry v e) := by
  have hvalue : s.ValuesMoved (s.modValue v (s.arrived v e)) := ⟨_, _, _, rfl⟩
  rw [State.applyEntry_eq, State.syncQualityAlarm_eq]
  exact (hvalue.trans (State.valuesMoved_moveClampAlarm ..)).trans (State.valuesMoved_moveAlarm ..)

theorem State.ValuesMoved.settle_eq {s t : State} (h : s.ValuesMoved t) (hs : s.Settled) : t.settle = t := by
  obtain ⟨_, _, _, rfl⟩ := h
  exact State.settle_of_settled _ hs

theorem State.with_reply_congr {s t : State} (h : t = s) (reply : Option Reply) :
    { t with reply := reply } = { s with reply := reply } := by rw [h]

/-- The frame of a request that arrivals and a reply make up. -/
theorem State.ValuesMoved.with_reply {s t : State} (h : s.ValuesMoved t) (reply : Option Reply) :
    { t with reply := reply }
      = { s with values := t.values, alarms := t.alarms, flags := t.flags, reply := reply } := by
  obtain ⟨_, _, _, rfl⟩ := h
  rfl

end State

/-! ### What the treatment of one value depends on -/

/-- Two states agree in all that an entry of `v` reads and changes, but for the event flag set. -/
structure State.AgreeOn (v : ValueId) (s t : State) : Prop where
  now : s.now = t.now
  clock : s.clock = t.clock
  params : s.params = t.params
  value : s.value v = t.value v
  quality : s.alarm (qualityAlarm v) = t.alarm (qualityAlarm v)
  clamp : ∀ a, clampAlarm? v = some a → s.alarm a = t.alarm a

theorem State.AgreeOn.refl (v : ValueId) (s : State) : AgreeOn v s s := ⟨rfl, rfl, rfl, rfl, rfl, fun _ _ => rfl⟩

theorem State.AgreeOn.trans {v : ValueId} {s t u : State} (h : AgreeOn v s t) (h' : AgreeOn v t u) : AgreeOn v s u where
  now := h.now.trans h'.now
  clock := h.clock.trans h'.clock
  params := h.params.trans h'.params
  value := h.value.trans h'.value
  quality := h.quality.trans h'.quality
  clamp a ha := (h.clamp a ha).trans (h'.clamp a ha)

theorem State.ValuesMoved.now_clock_params {s t : State} (h : s.ValuesMoved t) :
    t.now = s.now ∧ t.clock = s.clock ∧ t.params = s.params := by
  obtain ⟨_, _, _, rfl⟩ := h
  exact ⟨rfl, rfl, rfl⟩

/-- An entry of another value leaves all that concerns `w` as it was. -/
theorem State.agreeOn_applyEntry_other (s : State) {v w : ValueId} (e : LiveEntry) (h : w ≠ v) :
    AgreeOn w (s.applyEntry v e) s := by
  obtain ⟨hnow, hclock, hparams⟩ := (s.valuesMoved_applyEntry v e).now_clock_params
  exact {
    now := hnow
    clock := hclock
    params := hparams
    value := s.applyEntry_value_other e h
    quality := s.applyEntry_alarm_other e (clampAlarm?_ne_qualityAlarm v w) (qualityAlarm_injective.ne h)
    clamp := fun _ ha => s.applyEntry_alarm_other e (fun hv => h (clampAlarm?_injective ha hv))
      (fun hq => clampAlarm?_ne_qualityAlarm w v (hq ▸ ha)) }

/-- An entry does the same to its value and to its value's alarms in states that agree on the value. -/
theorem State.AgreeOn.applyEntry {v : ValueId} {s t : State} (h : AgreeOn v s t) (e : LiveEntry) :
    AgreeOn v (s.applyEntry v e) (t.applyEntry v e) := by
  obtain ⟨hnow, hclock, hparams⟩ := (s.valuesMoved_applyEntry v e).now_clock_params
  obtain ⟨hnow', hclock', hparams'⟩ := (t.valuesMoved_applyEntry v e).now_clock_params
  have harrived : s.arrived v e (s.value v) = t.arrived v e (t.value v) := by
    simp [State.arrived, State.restartTimers, h.now, h.params, h.value]
  exact {
    now := by rw [hnow, hnow', h.now]
    clock := by rw [hclock, hclock', h.clock]
    params := by rw [hparams, hparams', h.params]
    value := by rw [State.applyEntry_value_same, State.applyEntry_value_same, harrived]
    quality := by rw [State.applyEntry_qualityAlarm, State.applyEntry_qualityAlarm, harrived, h.quality, h.clock]
    clamp := fun a ha => by
      rw [State.applyEntry_clampAlarm s e ha, State.applyEntry_clampAlarm t e ha, h.clamp a ha, h.clock] }

/-! ### A list of entries (R26) -/

/-- The entry that carries a status and a figure for a value. -/
def entryFor (y : ValueId × TransmitterStatus × Int) : LiveEntry := ⟨(valueIndex y.1).val, y.2.1, y.2.2⟩

section Lists

variable (s : State) (y : ValueId × TransmitterStatus × Int) (ys : List (ValueId × TransmitterStatus × Int))

@[simp] theorem State.applyEntries_nil : s.applyEntries [] = s := rfl

@[simp] theorem State.applyEntries_cons (es : List LiveEntry) :
    s.applyEntries (entryFor y :: es) = (s.applyEntry y.1 (entryFor y)).applyEntries es := by
  simp [State.applyEntries, entryFor, valueOfIndex?_valueIndex]

@[simp] theorem State.entryReply_entryFor :
    s.entryReply (entryFor y) = [.u8 (valueIndex y.1).val, .u8 (s.value y.1).quality.code] := by
  simp [State.entryReply, entryFor, valueOfIndex?_valueIndex]

theorem State.valuesMoved_applyEntries : s.ValuesMoved (s.applyEntries (ys.map entryFor)) := by
  induction ys generalizing s with
  | nil => exact .refl s
  | cons y ys ih =>
    rw [List.map_cons, State.applyEntries_cons]
    exact (s.valuesMoved_applyEntry ..).trans (ih _)

theorem State.agreeOn_applyEntries_other {v : ValueId} (h : v ∉ ys.map Prod.fst) :
    AgreeOn v (s.applyEntries (ys.map entryFor)) s := by
  induction ys generalizing s with
  | nil => exact .refl v s
  | cons y ys ih =>
    obtain ⟨hy, hys⟩ : v ≠ y.1 ∧ v ∉ ys.map Prod.fst := by simpa only [List.map_cons, List.mem_cons, not_or] using h
    rw [List.map_cons, State.applyEntries_cons]
    exact (ih _ hys).trans (s.agreeOn_applyEntry_other _ hy)

/-- The entries of distinct values: each value is treated as by its entry alone. -/
theorem State.agreeOn_applyEntries_of_mem (hd : (ys.map Prod.fst).Nodup) (hy : y ∈ ys) :
    AgreeOn y.1 (s.applyEntries (ys.map entryFor)) (s.applyEntry y.1 (entryFor y)) := by
  induction ys generalizing s with
  | nil => simp at hy
  | cons x xs ih =>
    obtain ⟨hx, hxs⟩ := List.nodup_cons.mp hd
    rw [List.map_cons, State.applyEntries_cons]
    rcases List.mem_cons.mp hy with rfl | hmem
    · exact State.agreeOn_applyEntries_other _ _ hx
    · have hne : y.1 ≠ x.1 := fun he => hx (he ▸ List.mem_map_of_mem hmem)
      exact (ih _ hxs hmem).trans ((s.agreeOn_applyEntry_other _ hne).applyEntry _)

theorem State.applyEntries_alarm_other {a : AlarmId}
    (h : ∀ y ∈ ys, a ≠ qualityAlarm y.1 ∧ clampAlarm? y.1 ≠ some a) :
    (s.applyEntries (ys.map entryFor)).alarm a = s.alarm a := by
  induction ys generalizing s with
  | nil => rfl
  | cons y ys ih =>
    obtain ⟨⟨hq, hc⟩, hys⟩ := List.forall_mem_cons.mp h
    rw [List.map_cons, State.applyEntries_cons, ih _ hys, State.applyEntry_alarm_other _ _ hc hq]

/-! ### LIVE VALUES taken and refused (R26) -/

theorem indicesValid_entryFor (hd : (ys.map Prod.fst).Nodup) :
    indicesValid ((ys.map entryFor).map LiveEntry.index) = true := by
  have hmap : (ys.map entryFor).map LiveEntry.index = (ys.map Prod.fst).map (fun v => (valueIndex v).val) := by
    simp [entryFor]
  have hnodup := hd.map valueIndex_val_injective
  rw [hmap]
  simp only [indicesValid, Bool.and_eq_true, List.all_eq_true, decide_eq_true_eq]
  refine ⟨fun i hi => ?_, hnodup⟩
  obtain ⟨v, -, rfl⟩ := List.mem_map.mp hi
  exact Nat.le_of_lt_succ (valueIndex v).isLt

theorem indicesValid_eq_false {is : List Nat} (h : (∃ i ∈ is, 11 < i) ∨ ¬ is.Nodup) : indicesValid is = false := by
  rw [indicesValid, Bool.and_eq_false_iff]
  rcases h with ⟨i, hi, hlarge⟩ | hdup
  · exact .inl (List.all_eq_false.mpr ⟨i, hi, by simpa using hlarge⟩)
  · exact .inr (decide_eq_false hdup)

variable {s} {ys}

theorem exec_liveValues_taken (hr : s.Ready) (hne : ys ≠ []) (hd : (ys.map Prod.fst).Nodup) :
    exec (.liveValues (ys.map entryFor)) s = .next { s.applyEntries (ys.map entryFor) with
      reply := some ⟨.ok, listField (ys.map entryFor) (s.applyEntries (ys.map entryFor)).entryReply⟩ } := by
  obtain ⟨hphase, hmark, hsettled⟩ := hr
  have htake : takeLiveValues (ys.map entryFor) s = (s.applyEntries (ys.map entryFor),
      ⟨.ok, listField (ys.map entryFor) (s.applyEntries (ys.map entryFor)).entryReply⟩) := by
    have htest : ((ys.map entryFor).isEmpty || !indicesValid ((ys.map entryFor).map LiveEntry.index)) = false := by
      rw [indicesValid_entryFor ys hd]
      simp [hne]
    exact if_neg (Bool.eq_false_iff.mp htest)
  show Host.Outcome.next (s.request (takeLiveValues (ys.map entryFor))) = _
  rw [State.request_taken _ _ hphase hmark, htake, (s.valuesMoved_applyEntries ys).settle_eq hsettled]

/-- A LIVE VALUES of one entry: the entry's treatment, and the index and the quality in force as the reply. -/
theorem exec_liveValues_one (hr : s.Ready) :
    exec (.liveValues [entryFor y]) s = .next { s.applyEntry y.1 (entryFor y) with
      reply := some ⟨.ok,
        [.u8 1, .u8 (valueIndex y.1).val, .u8 ((s.applyEntry y.1 (entryFor y)).value y.1).quality.code]⟩ } := by
  have h := exec_liveValues_taken (ys := [y]) hr (by simp) (by simp)
  simpa [listField] using h

theorem exec_liveValues_refused {es : List LiveEntry} (hr : s.Ready)
    (h : es = [] ∨ (∃ e ∈ es, 11 < e.index) ∨ ¬ (es.map LiveEntry.index).Nodup) :
    exec (.liveValues es) s = .next { s with reply := some ⟨.badParam, []⟩ } := by
  obtain ⟨hphase, hmark, hsettled⟩ := hr
  have htest : (es.isEmpty || !indicesValid (es.map LiveEntry.index)) = true := by
    rcases h with rfl | hbad
    · rfl
    · have hinvalid := indicesValid_eq_false (is := es.map LiveEntry.index)
        (hbad.imp_left fun ⟨e, he, hlarge⟩ => ⟨e.index, List.mem_map_of_mem he, hlarge⟩)
      simp [hinvalid]
  have htake : takeLiveValues es s = (s, ⟨.badParam, []⟩) := if_pos htest
  show Host.Outcome.next (s.request (takeLiveValues es)) = _
  rw [State.request_taken _ _ hphase hmark, htake, State.settle_of_settled _ hsettled]

end Lists

/-! ### A good arrival (R28) -/

theorem LiveValue.qualityMove_of_live {lv : LiveValue} (h : lv.ladder = .live ∨ lv.ladder = .liveClamped) :
    lv.qualityMove = .cleared := by
  unfold LiveValue.qualityMove LiveValue.notFresh LiveValue.quality
  rcases h with h | h <;> cases lv.manual <;> simp [h, Ladder.toQuality]

theorem State.arrived_of_inRange (s : State) {v : ValueId} {x : Int} (h : valueInRange v x = true) (lv : LiveValue) :
    s.arrived v (entryFor (v, .ok, x)) lv
      = { s.restartTimers lv with lastGood := some x, ladder := .live, clampRaised := false } := by
  simp [State.arrived, entryFor, h]

theorem clampMove_of_inRange {v : ValueId} {x : Int} (h : valueInRange v x = true) :
    clampMove v (entryFor (v, .ok, x)) = .cleared := by
  simp [clampMove, entryFor, h]

/-- Settles O22: one entry by what an arrival does to its value and the value's alarms; a list because the entries of
distinct values do not touch each other's value and alarms (State.agreeOn_applyEntries_of_mem). -/
theorem goodArrivalIsLive : Obligations.GoodArrivalIsLive := by
  refine ⟨fun s v x hr hin => ?one, fun s hr => ⟨fun es hbad => exec_liveValues_refused hr hbad, fun ves hne hd => ?list⟩⟩
  case one =>
    let e := entryFor (v, .ok, x)
    have hvalue := (s.applyEntry_value_same v e).trans (s.arrived_of_inRange hin _)
    refine ⟨_, exec_liveValues_one (v, .ok, x) hr, hvalue, ?quality, ?clamp, ?raised,
      fun w hw => s.applyEntry_value_other e hw, fun a hc hq => s.applyEntry_alarm_other e hc hq, rfl,
      (s.valuesMoved_applyEntry v e).with_reply _⟩
    case quality =>
      refine (congrArg LiveValue.quality hvalue).trans ?_
      simp only [LiveValue.quality, State.restartTimers]
      cases (s.value v).manual <;> rfl
    case clamp =>
      intro a ha
      exact (s.applyEntry_clampAlarm e ha).trans (clampMove_of_inRange hin ▸ (s.alarm_moveAlarm a .cleared).symm)
    case raised =>
      have hquality := s.applyEntry_qualityAlarm v e
      rw [s.arrived_of_inRange hin, LiveValue.qualityMove_of_live (.inl rfl)] at hquality
      exact State.alarmRaised_of_cleared hquality
  case list =>
    refine ⟨_, exec_liveValues_taken hr hne hd, fun y hy => ?alone,
      fun v hv => (s.agreeOn_applyEntries_other ves hv).value, fun a ha => s.applyEntries_alarm_other ves ha, ?reply,
      (s.valuesMoved_applyEntries ves).with_reply _⟩
    case alone =>
      have hagree := s.agreeOn_applyEntries_of_mem y ves hd hy
      exact ⟨_, exec_liveValues_one y hr, hagree.value, hagree.quality, hagree.clamp⟩
    case reply =>
      simp only [listField, List.length_map, List.flatMap_map, State.entryReply_entryFor]
      rfl

/-! ### A FAULT entry (R30) -/

theorem LiveValue.toHeld_of_live {lv : LiveValue} (h : lv.ladder = .live ∨ lv.ladder = .liveClamped) :
    lv.toHeld = { lv with ladder := .held, stale := none } := by
  unfold LiveValue.toHeld
  rcases h with h | h <;> rw [h]

theorem LiveValue.toHeld_of_not_live {lv : LiveValue} (h : lv.ladder = .held ∨ lv.ladder = .substituted) :
    lv.toHeld = lv := by
  unfold LiveValue.toHeld
  rcases h with h | h <;> rw [h]

/-- A FAULT keeps the last good value, the hold timer, the clamp mark and the override. -/
theorem LiveValue.toHeld_keeps (lv : LiveValue) :
    lv.toHeld.lastGood = lv.lastGood ∧ lv.toHeld.hold = lv.hold ∧ lv.toHeld.clampRaised = lv.clampRaised
      ∧ lv.toHeld.manual = lv.manual := by
  unfold LiveValue.toHeld; split <;> simp

/-- A FAULT for a value that is not live changes nothing while the quality alarm agrees with the quality in force. -/
theorem State.faultArrival_of_not_live {s : State} {v : ValueId}
    (h : (s.value v).ladder = .held ∨ (s.value v).ladder = .substituted)
    (hagree : s.alarmRaised (qualityAlarm v) = (s.value v).notFresh) : s.faultArrival v = s := by
  rw [State.faultArrival, State.modValue_eq_self s (LiveValue.toHeld_of_not_live h),
    State.syncQualityAlarm_of_agree s hagree]

/-- Settles O23: the value by LiveValue.toHeld and its lemmas; a value that is HELD or SUBSTITUTED is left whole, since its
quality alarm already agrees (State.faultArrival_of_not_live). -/
theorem faultEntryHoldsTheValue : Obligations.FaultEntryHoldsTheValue := by
  intro s v x hr hagree
  let e := entryFor (v, .fault, x)
  have hvalue : (s.applyEntry v e).value v = (s.value v).toHeld := s.applyEntry_value_same v e
  obtain ⟨hlast, hhold, hclamp, hmanual⟩ := (s.value v).toHeld_keeps
  refine ⟨_, exec_liveValues_one (v, .fault, x) hr, fun hlive => hvalue.trans (LiveValue.toHeld_of_live hlive), ?same,
    (congrArg _ hvalue).trans hlast, (congrArg _ hvalue).trans hhold, (congrArg _ hvalue).trans hclamp,
    (congrArg _ hvalue).trans hmanual, fun w hw => s.applyEntry_value_other e hw, ?alarms,
    (s.valuesMoved_applyEntry v e).with_reply _⟩
  case same =>
    intro hheld
    have happly : s.applyEntry v e = s := State.faultArrival_of_not_live hheld (hagree hr.1 v)
    exact State.with_reply_congr happly _
  case alarms =>
    intro a ha
    by_cases hc : clampAlarm? v = some a
    · exact (s.applyEntry_clampAlarm e hc).trans (Alarm.moved_id _ _)
    · exact s.applyEntry_alarm_other e hc ha

end Sys2Proof.Machine
end

section
/-! The locks of the Parameter Store (R62): LOCK SECTION and UNLOCK ALL, and the lock flags as STAGE COMMIT judges them
(R57, step 2). -/

namespace Sys2Proof.Machine

/-! ### Requests taken by a ready module -/

section Requests

variable {s : State} {f : State → State × Reply}

theorem State.request_of_ready {t : State} {reply : Reply} (hr : s.Ready) (hf : f s = (t, reply)) (ht : t.Settled) :
    s.request f = { t with reply := some reply } := by
  obtain ⟨hphase, hmark, -⟩ := hr
  rw [s.request_taken f hphase hmark, hf, t.settle_of_settled ht]

theorem State.request_refused {st : Status} (hr : s.Ready) (hf : f s = refuse s st) :
    s.request f = { s with reply := some ⟨st, []⟩ } :=
  have ⟨_, _, hsettled⟩ := hr
  State.request_of_ready hr hf hsettled

end Requests

/-! ### The numbers of the sections (R44) -/

@[simp] theorem sectionOfNumber?_number (ref : SectionRef) : sectionOfNumber? ref.number.val = some ref := by
  cases ref with
  | meter r => revert r; decide
  | curves r => revert r; decide
  | products | productMap | prover | station => rfl

theorem sectionOfNumber?_eq_none {n : Nat} (h : 11 < n) : sectionOfNumber? n = none :=
  List.getElem?_eq_none h

theorem allSections_map_number : allSections.map (fun ref => ref.number.val) = List.range 12 := by decide

theorem State.locks_getD_number (s : State) (ref : SectionRef) :
    (s.locks[ref.number.val]?).getD false = s.locked ref := by
  rw [Vector.getElem?_eq_getElem ref.number.isLt]
  rfl

/-- The old detail of UNLOCK_ALL, read off the flags in number order. -/
theorem State.lockedNumbers_eq (s : State) :
    s.lockedNumbers = (List.range 12).filter (fun n => (s.locks[n]?).getD false) := by
  rw [← allSections_map_number, List.filter_map]
  simp only [Function.comp_def, State.locks_getD_number]
  rfl

/-! ### What the three requests do -/

section Owner

variable {s : State}

theorem takeLockSection_unknown {n : Nat} (h : 11 < n) : takeLockSection n s = refuse s .badParam := by
  simp [takeLockSection, sectionOfNumber?_eq_none h]

section OneSection

variable {ref : SectionRef}

theorem takeLockSection_closed (h : s.seal = .closed) :
    takeLockSection ref.number.val s = refuse s .isSealed := by
  simp [takeLockSection, h]

theorem takeLockSection_of_locked (h : s.seal = .opened) (hl : s.locked ref = true) :
    takeLockSection ref.number.val s = (s, .justOk) := by
  simp [takeLockSection, h, hl]

theorem takeLockSection_of_clear (h : s.seal = .opened) (hl : s.locked ref = false) :
    takeLockSection ref.number.val s
      = ({ s with locks := s.locks.set ref.number true }.appendAudit (.lock ref.number.val), .justOk) := by
  simp [takeLockSection, h, hl]

end OneSection

theorem takeUnlockAll_closed (h : s.seal = .closed) : takeUnlockAll s = refuse s .isSealed := by
  simp [takeUnlockAll, h]

theorem takeUnlockAll_opened (h : s.seal = .opened) :
    takeUnlockAll s
      = ({ s with locks := Vector.replicate 12 false }.appendAudit (.unlockAll s.lockedNumbers), .justOk) := by
  simp [takeUnlockAll, h]

variable {st : Staging}

/-- A complete staging with a locked target under a closed seal. -/
theorem takeStageCommit_sealed (hst : s.staging = some st) (hfull : st.announced ≤ st.items.length)
    (hseal : s.seal = .closed) (hlocked : (targetSections st.kind st.runs).any s.locked = true) :
    takeStageCommit s = ({ s with staging := none }, ⟨.isSealed, []⟩) := by
  simp [takeStageCommit, hst, Nat.not_lt.mpr hfull, hseal, hlocked]

/-- Only a locked target makes a commit answer SEALED. -/
theorem takeStageCommit_status_ne_isSealed (hst : s.staging = some st)
    (hclear : (targetSections st.kind st.runs).any s.locked = false) :
    (takeStageCommit s).2.status ≠ .isSealed := by
  simp only [takeStageCommit, hst, hclear, Bool.and_false, Bool.false_eq_true, if_false]
  by_cases hfew : st.items.length < st.announced
  · simp [hfew]
  by_cases hheld : (targetSections st.kind st.runs).any s.heldByProve = true
  · simp [hfew, hheld]
  cases hnew : s.params.newContent? st with
  | none => simp [hfew, hheld]
  | some new => simp [hfew, hheld, State.applyCommit, Reply.okWith]

end Owner

/-! ### The commands -/

theorem exec_lockSection (n : Nat) (s : State) : exec (.lockSection n) s = .next (s.request (takeLockSection n)) := rfl

theorem exec_unlockAll (s : State) : exec .unlockAll s = .next (s.request takeUnlockAll) := rfl

theorem exec_stageCommit (s : State) : exec .stageCommit s = .next (s.request takeStageCommit) := rfl

/-- Settles O28: each clause is one case of the owner's operation, taken by a ready module; the list in the entry
UNLOCK_ALL is State.lockedNumbers_eq. -/
theorem locksAreSetAndClearedUnderAnOpenSeal : Obligations.LocksAreSetAndClearedUnderAnOpenSeal := by
  intro s hr
  have ⟨hphase, hmark, hsettled⟩ := hr
  simp only [exec_lockSection, exec_unlockAll, exec_stageCommit, Host.Outcome.next.injEq]
  refine ⟨fun n hn => State.request_refused hr (takeLockSection_unknown hn),
    fun ref => ⟨?sealed, ?locked, ?clear⟩, fun hseal => State.request_refused hr (takeUnlockAll_closed hseal),
    ?unlock, ?commit⟩
  case sealed => exact fun hseal => State.request_refused hr (takeLockSection_closed hseal)
  case locked => exact fun hseal hl => State.request_of_ready hr (takeLockSection_of_locked hseal hl) hsettled
  case clear => exact fun hseal hl => State.request_of_ready hr (takeLockSection_of_clear hseal hl) hsettled
  case unlock =>
    intro hseal
    rw [← s.lockedNumbers_eq]
    exact State.request_of_ready hr (takeUnlockAll_opened hseal) hsettled
  case commit =>
    intro st ref hst hfull hseal href
    constructor
    · intro hl
      have hany : (targetSections st.kind st.runs).any s.locked = true := List.any_eq_true.mpr ⟨ref, href, hl⟩
      exact State.request_of_ready hr (takeStageCommit_sealed hst hfull hseal hany) hsettled
    · intro hclear
      have hany : (targetSections st.kind st.runs).any s.locked = false :=
        List.any_eq_false.mpr fun x hx => Bool.eq_false_iff.mp (hclear x hx)
      refine ⟨_, rfl, fun hreply => takeStageCommit_status_ne_isSealed hst hany ?_⟩
      rw [s.request_taken _ hphase hmark] at hreply
      exact congrArg Reply.status (Option.some.inj hreply)

end Sys2Proof.Machine
end

section
/-! The computation of a period (Chapter 4): the state that it leaves, the liquid corrections of its record with their
limits (R74 to R76), and HIGH_RATE (R73). -/

namespace Sys2Proof.Machine

/-! ### Rounding (00_scope) -/

theorem roundHalfAway_eq (x : Int) (d : Nat) :
    roundHalfAway x d = if 0 ≤ x then (2 * x + d) / (2 * d) else -((2 * -x + d) / (2 * d)) := by
  unfold roundHalfAway roundHalfUp
  split
  next h => simp [Int.toNat_of_nonneg h]
  next h => simp [Int.toNat_of_nonneg (show 0 ≤ -x by omega)]

/-! ### CTL (R74) -/

/-- CTL before the clamp, with ΔT and the dividend named. -/
theorem ctlRaw_eq {tb beta t dt x : Int} {alpha : Nat} (hdt : dt = t - tb)
    (hx : x = beta * (dt * dt) - (alpha : Int) * dt * 10000) :
    ctlRaw tb alpha beta t
      = if 0 ≤ x then 1000000 + (2 * x + 10000000) / 20000000 else 1000000 - (2 * -x + 10000000) / 20000000 := by
  have hround : ctlRaw tb alpha beta t = 1000000 + roundHalfAway x 10000000 := by
    rw [hx, hdt, ← sq]
    rfl
  rw [hround, roundHalfAway_eq]
  split <;> norm_num [sub_eq_add_neg]

section Ctl

variable {tb beta t : Int} {alpha : Nat}

theorem ctl_of_raw_low (h : ctlRaw tb alpha beta t < 900000) :
    ctlOf tb alpha beta t = 900000 ∧ ctlIsClamped tb alpha beta t = true := by
  simp [ctlOf, ctlIsClamped, clampInt, h]

theorem ctl_of_raw_within (hlo : 900000 ≤ ctlRaw tb alpha beta t) (hhi : ctlRaw tb alpha beta t ≤ 1100000) :
    (ctlOf tb alpha beta t : Int) = ctlRaw tb alpha beta t ∧ ctlIsClamped tb alpha beta t = false := by
  simp only [ctlOf, ctlIsClamped, clampInt, if_neg (not_lt.mpr hlo), if_neg (not_lt.mpr hhi),
    decide_eq_false_iff_not]
  omega

theorem ctl_of_raw_high (h : 1100000 < ctlRaw tb alpha beta t) :
    ctlOf tb alpha beta t = 1100000 ∧ ctlIsClamped tb alpha beta t = true := by
  have hlo : ¬ ctlRaw tb alpha beta t < 900000 := by omega
  simp [ctlOf, ctlIsClamped, clampInt, h, hlo]

theorem ctlOf_bounds : 900000 ≤ ctlOf tb alpha beta t ∧ ctlOf tb alpha beta t ≤ 1100000 := by
  unfold ctlOf clampInt
  split_ifs <;> omega

end Ctl

/-- At the base temperature there is no correction. -/
theorem ctlOf_at_base (tb : Int) (alpha : Nat) (beta : Int) : ctlOf tb alpha beta tb = 1000000 := by
  have hraw : ctlRaw tb alpha beta tb = 1000000 := by simp [ctlRaw_eq (sub_self tb).symm rfl]
  simp [ctlOf, hraw, clampInt]

/-! ### CPL (R75) -/

theorem cplRaw_eq (f p : Nat) : cplRaw f (p : Int) = 1000000 + (f * p + 500) / 1000 := by
  simp only [cplRaw, roundHalfUp, Int.toNat_natCast]
  omega

theorem cpl_of_within {f p : Nat} (h : (f * p + 500) / 1000 ≤ 50000) :
    cplOf f p = 1000000 + (f * p + 500) / 1000 ∧ cplIsClamped f p = false := by
  simp only [cplOf, cplIsClamped, cplRaw_eq, decide_eq_false_iff_not]
  omega

theorem cpl_of_high {f p : Nat} (h : 50000 < (f * p + 500) / 1000) :
    cplOf f p = 1050000 ∧ cplIsClamped f p = true := by
  simp only [cplOf, cplIsClamped, cplRaw_eq, decide_eq_true_eq]
  omega

theorem cplOf_bounds (f p : Nat) : 1000000 ≤ cplOf f p ∧ cplOf f p ≤ 1050000 := by
  simp only [cplOf, cplRaw_eq]
  omega

/-- Within the ranges of F and P the clamp of CPL is not reached. -/
theorem cplOf_le_of_ranges {f p : Nat} (hf : f ≤ 2000) (hp : p ≤ 10000) : cplOf f p ≤ 1020000 := by
  have hprod : f * p ≤ 2000 * 10000 := Nat.mul_le_mul hf hp
  simp only [cplOf, cplRaw_eq]
  omega

/-! ### CCF (R76) -/

theorem ccfOf_spec (mf ctl cpl : Nat) :
    2000000000000 * ccfOf mf ctl cpl ≤ 2 * (mf * ctl * cpl) + 1000000000000
      ∧ 2 * (mf * ctl * cpl) < 2000000000000 * ccfOf mf ctl cpl + 1000000000000 := by
  have hround := roundHalfUp_spec (mf * ctl * cpl) 1000000000000 (by decide)
  unfold ccfOf
  omega

/-- The range of CCF, from the ranges of its three factors. -/
theorem ccfOf_bounds {mf ctl cpl : Nat} (hmf : 950000 ≤ mf ∧ mf ≤ 1050000) (hctl : 900000 ≤ ctl ∧ ctl ≤ 1100000)
    (hcpl : 1000000 ≤ cpl ∧ cpl ≤ 1050000) : 855000 ≤ ccfOf mf ctl cpl ∧ ccfOf mf ctl cpl ≤ 1212750 := by
  have hlo : 950000 * 900000 * 1000000 ≤ mf * ctl * cpl :=
    Nat.mul_le_mul (Nat.mul_le_mul hmf.1 hctl.1) hcpl.1
  have hhi : mf * ctl * cpl ≤ 1050000 * 1100000 * 1050000 :=
    Nat.mul_le_mul (Nat.mul_le_mul hmf.2 hctl.2) hcpl.2
  have hround := ccfOf_spec mf ctl cpl
  omega

/-! ### What setting one alarm does to it (R189, R190) -/

section Alarms

variable (s : State) (a : AlarmId) (raised : Bool)

theorem State.setAlarm_eq_moveAlarm :
    s.setAlarm a raised = s.moveAlarm a (if raised then .raised else .cleared) := by
  cases raised <;> rfl

theorem State.alarm_setAlarm :
    (s.setAlarm a raised).alarm a = (s.alarm a).moved s.clock (if raised then .raised else .cleared) := by
  rw [State.setAlarm_eq_moveAlarm, State.alarm_moveAlarm]

theorem State.alarm_setAlarm_other {b : AlarmId} (h : a ≠ b) : (s.setAlarm a raised).alarm b = s.alarm b := by
  rw [State.setAlarm_eq_moveAlarm, State.alarm_moveAlarm_other _ _ _ _ h]

theorem State.alarmRaised_setAlarm : (s.setAlarm a raised).alarmRaised a = raised := by
  unfold State.alarmRaised
  rw [State.alarm_setAlarm, Alarm.moved_state]
  cases raised <;> cases (s.alarm a).state <;> rfl

theorem State.alarmRaised_congr {s t : State} {a : AlarmId} (h : s.alarm a = t.alarm a) :
    s.alarmRaised a = t.alarmRaised a := by
  unfold State.alarmRaised
  rw [h]

@[simp] theorem State.alarm_settle : s.settle.alarm a = s.alarm a := by simp [State.alarm]

@[simp] theorem State.alarm_modCen (r : Run) (f : RunCorrection → RunCorrection) :
    (s.modCen r f).alarm a = s.alarm a := rfl

end Alarms

/-! ### The state that a computation leaves -/

section Computation

variable (s : State) (r : Run) (h : Handover)

/-- What the computation makes of the run's correction state. -/
def RunCorrection.compute (x : RunCorrection) (c : ComputedPeriod) : RunCorrection :=
  { x with handover := none, computed := some c }

@[simp] theorem State.computationAlarms_cen (rec : PeriodRecord) : (s.computationAlarms r rec).cen = s.cen := by
  unfold State.computationAlarms; split <;> simp

/-- R73: at a period that is not a final one HIGH_RATE is set by the max rate in force. -/
theorem State.computationAlarms_highRate {rec : PeriodRecord} (hfinal : rec.final = false) :
    (s.computationAlarms r rec).alarm (.run r .highRate)
      = (s.setAlarm (.run r .highRate) (decide (s.params.meter[r].maxRate < rec.q))).alarm (.run r .highRate) := by
  have hne : AlarmId.run r .mfUndefined ≠ .run r .highRate := by simp
  simp [State.computationAlarms, hfinal, State.alarm_setAlarm, State.alarm_setAlarm_other _ _ _ hne]

variable {s r h}

theorem exec_periodComputation (hrun : s.phase = .running) (hh : s.cen[r].handover = some h) :
    exec (.periodComputation r) s
      = .next ((s.modCen r (·.compute (s.computedPeriod r h))).computationAlarms r
          (s.computedPeriod r h).record).settle := by
  have hexec : exec (.periodComputation r) s = .next (s.event (computeStep r)) := rfl
  rw [hexec, State.event_running _ _ hrun, computeStep, hh]
  rfl

/-- A computation that the run's handover brings: the run holds the computed period, and at a period that is not a
final one HIGH_RATE is where setting it by the max rate in force puts it. -/
theorem exists_exec_periodComputation (hrun : s.phase = .running) (hh : s.cen[r].handover = some h) :
    ∃ t : State, exec (.periodComputation r) s = .next t
      ∧ t.cen = modAt s.cen r (·.compute (s.computedPeriod r h))
      ∧ (h.final = false → t.alarm (.run r .highRate)
          = (s.setAlarm (.run r .highRate)
              (decide (s.params.meter[r].maxRate < (s.computedPeriod r h).record.q))).alarm (.run r .highRate)) := by
  refine ⟨_, exec_periodComputation hrun hh, ?cen, fun hfinal => ?highRate⟩
  case cen => simp [State.modCen]
  case highRate =>
    have hrec : (s.computedPeriod r h).record.final = false := hfinal
    rw [State.alarm_settle, State.computationAlarms_highRate _ _ hrec, State.alarm_setAlarm, State.alarm_setAlarm]
    rfl

/-- The period that a run holds after its computation is the one computed from its handover. -/
theorem computed_of_exec_periodComputation {t : State} {c : ComputedPeriod} (hrun : s.phase = .running)
    (hh : s.cen[r].handover = some h) (ht : exec (.periodComputation r) s = .next t)
    (hc : t.cen[r].computed = some c) : c = s.computedPeriod r h := by
  obtain ⟨u, hu, hcen, -⟩ := exists_exec_periodComputation hrun hh
  obtain rfl : u = t := Host.Outcome.next.inj (hu.symm.trans ht)
  rw [hcen, modAt_same] at hc
  exact (Option.some.inj hc).symm

end Computation

/-! ### The liquid corrections of a record (R74 to R76) -/

/-- The record's CTL, CPL and CCF are those of the product at the record's own values. -/
structure PeriodRecord.CorrectedBy (rec : PeriodRecord) (pr : Product) : Prop where
  ctl : rec.ctl = ctlOf pr.tb pr.alpha pr.beta rec.t.value
  ctlClamped : rec.flags.ctlClamped = ctlIsClamped pr.tb pr.alpha pr.beta rec.t.value
  cpl : rec.cpl = cplOf pr.f rec.p.value
  cplClamped : rec.flags.cplClamped = cplIsClamped pr.f rec.p.value
  ccf : rec.ccf = ccfOf rec.mf rec.ctl rec.cpl

theorem State.computedPeriod_correctedBy (s : State) (r : Run) (h : Handover) :
    (s.computedPeriod r h).record.CorrectedBy s.params.products[(s.computedPeriod r h).record.slot] :=
  ⟨rfl, rfl, rfl, rfl, rfl⟩

/-- Settles O32: the record's factors are the model's functions of its own values, and each clause is the lemma of one
of these functions. -/
theorem pressureAndCombinedFactorsAreRoundedHalfUp : Obligations.PressureAndCombinedFactorsAreRoundedHalfUp := by
  intro s t r c pr p dt x raw hrun hhand ht hc hpr hp hdt hx hraw
  obtain ⟨h, hh⟩ := Option.ne_none_iff_exists'.mp hhand
  have hrec : c.record.CorrectedBy pr := by
    rw [hpr, computed_of_exec_periodComputation hrun hh ht hc]
    exact s.computedPeriod_correctedBy r h
  obtain ⟨hctl, hctlClamped, hcpl, hcplClamped, hccf⟩ := hrec
  rw [hp] at hcpl hcplClamped
  rw [← ctlRaw_eq hdt hx] at hraw
  have hctlBounds : 900000 ≤ c.record.ctl ∧ c.record.ctl ≤ 1100000 := hctl ▸ ctlOf_bounds
  have hcplBounds : 1000000 ≤ c.record.cpl ∧ c.record.cpl ≤ 1050000 := hcpl ▸ cplOf_bounds pr.f p
  have hccfSpec := ccfOf_spec c.record.mf c.record.ctl c.record.cpl
  rw [← hccf] at hccfSpec
  refine ⟨?low, ?within, ?high, ?base, ?cplWithin, ?cplHigh, hcplBounds.1, ?cplRange, hccfSpec.1, hccfSpec.2,
    ?ccfRange⟩
  case low => rw [hraw, hctl, hctlClamped]; exact ctl_of_raw_low
  case within => rw [hraw, hctl, hctlClamped]; exact ctl_of_raw_within
  case high => rw [hraw, hctl, hctlClamped]; exact ctl_of_raw_high
  case base =>
    intro hzero
    have hbase : c.record.t.value = pr.tb := by omega
    rw [hctl, hbase, ctlOf_at_base]
  case cplWithin => rw [hcpl, hcplClamped]; exact cpl_of_within
  case cplHigh => rw [hcpl, hcplClamped]; exact cpl_of_high
  case cplRange => rw [hcpl]; exact cplOf_le_of_ranges
  case ccfRange => rw [hccf]; exact fun hlo hhi => ccfOf_bounds ⟨hlo, hhi⟩ hctlBounds hcplBounds

/-! ### The max rate (R73) -/

section MaxRate

variable (s : State) (r : Run) (n : Nat)

/-- The state with another max rate of one run, set as the HIGH_RATE statement sets it. -/
def State.withMaxRate : State :=
  { s with params := { s.params with meter := s.params.meter.set r { s.params.meter[r] with maxRate := n } } }

/-- A setting of a meter that its max rate does not touch. -/
theorem State.withMaxRate_meter {α : Type} (f : Meter → α) (hf : ∀ m : Meter, f { m with maxRate := n } = f m)
    (q : Run) : f (s.withMaxRate r n).params.meter[q] = f s.params.meter[q] := by
  by_cases hq : r.val = q.val
  · obtain rfl := Fin.ext hq
    simpa [State.withMaxRate] using hf s.params.meter[r]
  · simp [State.withMaxRate, Vector.getElem_set_ne, hq]

@[simp] theorem State.withMaxRate_maxRate : (s.withMaxRate r n).params.meter[r].maxRate = n := by
  simp [State.withMaxRate]

theorem State.withMaxRate_substitute (ctx : SubstituteContext) (v : ValueId) :
    (s.withMaxRate r n).substitute ctx v = s.substitute ctx v := by
  cases v with
  | t q => exact s.withMaxRate_meter r n Meter.tSub (fun _ => rfl) q
  | p q => exact s.withMaxRate_meter r n (fun m => (m.pSub : Int)) (fun _ => rfl) q
  | tp | pp | rho | sw => rfl

theorem State.withMaxRate_valueInForce (ctx : SubstituteContext) (v : ValueId) :
    (s.withMaxRate r n).valueInForce ctx v = s.valueInForce ctx v := by
  unfold State.valueInForce
  rw [State.withMaxRate_substitute]
  rfl

theorem State.withMaxRate_periodValues (q : Run) : (s.withMaxRate r n).periodValues q = s.periodValues q := by
  unfold State.periodValues State.swUsed State.rhoUsed
  simp only [State.withMaxRate_valueInForce, State.withMaxRate_substitute]
  rfl

/-- R73: the max rate changes nothing of the computation. -/
theorem State.withMaxRate_computedPeriod (q : Run) (h : Handover) :
    (s.withMaxRate r n).computedPeriod q h = s.computedPeriod q h := by
  have hkx : (s.withMaxRate r n).params.meter[q].kx = s.params.meter[q].kx :=
    s.withMaxRate_meter r n Meter.kx (fun _ => rfl) q
  unfold State.computedPeriod computeRecord
  rw [State.withMaxRate_periodValues, hkx]
  rfl

end MaxRate

/-- Settles O33: the computation raises or clears HIGH_RATE by the max rate in force, and computes the same period
under any max rate. -/
theorem highRateFollowsThePeriod : Obligations.HighRateFollowsThePeriod := by
  intro s r h hrun _ hh hfinal
  obtain ⟨t, ht, hcen, halarm⟩ := exists_exec_periodComputation hrun hh
  refine ⟨t, s.computedPeriod r h, ht, ?computed, ?alarm, fun n => ?other⟩
  case computed => rw [hcen, modAt_same]; rfl
  case alarm => simpa [State.setAlarm] using halarm hfinal
  case other =>
    have hrun' : (s.withMaxRate r n).phase = .running := hrun
    have hh' : (s.withMaxRate r n).cen[r].handover = some h := hh
    obtain ⟨u, hu, hcen', halarm'⟩ := exists_exec_periodComputation hrun' hh'
    rw [State.withMaxRate_computedPeriod] at hcen' halarm'
    refine ⟨u, hu, hcen'.trans hcen.symm, ?_⟩
    rw [State.alarmRaised_congr (halarm' hfinal), State.alarmRaised_setAlarm, State.withMaxRate_maxRate]

end Sys2Proof.Machine
end

section
/-! BATCH QUEUE REMOVE (R106): a queued batch taken out by its id, and the retained update that follows it. -/

namespace Sys2Proof.Machine

/-! ### A request that changes retained content (R94) -/

theorem State.settle_of_changed {s : State} (h : s.ret ≠ s.currentBank.content) : s.settle = s.retainedUpdate := if_neg h

/-- Content that a request of a ready module changed is written as one retained update. -/
theorem State.request_of_ready_modRet {s : State} {f : State → State × Reply} {g : Retained → Retained} {reply : Reply}
    (hr : s.Ready) (hf : f s = (s.modRet g, reply)) (hg : g s.ret ≠ s.ret) :
    s.request f = { (s.modRet g).retainedUpdate with reply := some reply } := by
  obtain ⟨hphase, hmark, hsettled⟩ := hr
  have hchanged : (s.modRet g).ret ≠ (s.modRet g).currentBank.content := fun h => hg (h.trans hsettled.symm)
  rw [s.request_taken f hphase hmark, hf, State.settle_of_changed hchanged]

/-! ### What the owner does -/

/-- A batch that alone holds its id is all that the filter by that id takes out. -/
theorem filter_id_ne_of_split {b : BatchRecord} {before after : List BatchRecord}
    (hothers : ∀ x ∈ before ++ after, x.id ≠ b.id) :
    (before ++ b :: after).filter (fun x => decide (x.id ≠ b.id)) = before ++ after := by
  have hkept : (before ++ after).filter (fun x => decide (x.id ≠ b.id)) = before ++ after :=
    List.filter_eq_self.mpr fun x hx => decide_eq_true (hothers x hx)
  rw [List.filter_append, List.filter_cons_of_neg (by simp), ← List.filter_append, hkept]

section Owner

variable {s : State} {id : Nat}

theorem takeBatchQueueRemove_outside (h : id < 1 ∨ 999999 < id) :
    takeBatchQueueRemove id s = refuse s .badParam :=
  if_neg (by omega)

theorem takeBatchQueueRemove_absent (hlo : 1 ≤ id) (hhi : id ≤ 999999) (h : ∀ b ∈ s.ret.queue, b.id ≠ id) :
    takeBatchQueueRemove id s = refuse s .notFound := by
  have hany : s.ret.queue.any (fun b => decide (b.id = id)) = false :=
    List.any_eq_false.mpr fun b hb => by simpa using h b hb
  simp [takeBatchQueueRemove, hlo, hhi, hany]

theorem takeBatchQueueRemove_queued {b : BatchRecord} {before after : List BatchRecord} (hlo : 1 ≤ b.id)
    (hhi : b.id ≤ 999999) (hqueue : s.ret.queue = before ++ b :: after)
    (hothers : ∀ x ∈ before ++ after, x.id ≠ b.id) :
    takeBatchQueueRemove b.id s = (s.modRet (fun ret => { ret with queue := before ++ after }), .justOk) := by
  have hany : s.ret.queue.any (fun x => decide (x.id = b.id)) = true :=
    List.any_eq_true.mpr ⟨b, by simp [hqueue], decide_eq_true rfl⟩
  rw [takeBatchQueueRemove, if_pos ⟨hlo, hhi⟩, if_pos hany]
  simp only [State.modRet, hqueue, filter_id_ne_of_split hothers]

end Owner

theorem exec_batchQueueRemove (id : Nat) (s : State) :
    exec (.batchQueueRemove id) s = .next (s.request (takeBatchQueueRemove id)) := rfl

/-- Settles O41: each clause is one case of the owner's operation; the queue is shorter after a removal, so that the
retained content has changed and is written. -/
theorem queueRemoveTakesOneBatchOut : Obligations.QueueRemoveTakesOneBatchOut := by
  intro s id hr
  simp only [exec_batchQueueRemove, Host.Outcome.next.injEq]
  refine ⟨fun h => State.request_refused hr (takeBatchQueueRemove_outside h), fun hlo hhi => ⟨?absent, ?queued⟩⟩
  case absent => exact fun h => State.request_refused hr (takeBatchQueueRemove_absent hlo hhi h)
  case queued =>
    rintro b before after hqueue rfl hothers
    refine State.request_of_ready_modRet hr (takeBatchQueueRemove_queued hlo hhi hqueue hothers) fun h => ?_
    have hlength : (before ++ after).length = s.ret.queue.length := congrArg (fun ret => ret.queue.length) h
    simp [hqueue] at hlength

end Sys2Proof.Machine
end

section
/-! The alarm table of R190: what an owner's raising or clearing of a condition does to the alarm, to its last-change
time and to ALARM_CHANGED, and what it leaves unchanged. -/

namespace Sys2Proof.Machine

/-! ### One alarm -/

/-- A row of the table that leads to another state: the alarm takes it, at the station clock. -/
theorem Alarm.moved_of_row {x : Alarm} {c : Seconds} {f : AlarmState → AlarmState} {before after : AlarmState}
    (hx : x.state = before) (hrow : f before = after) (hne : after ≠ before) : x.moved c f = ⟨after, some c⟩ := by
  subst hx hrow
  exact if_neg hne

/-! ### The state around it -/

section Move

variable {s : State} {a : AlarmId} {f : AlarmState → AlarmState}

theorem State.moveAlarm_of_fixed (h : f (s.alarm a).state = (s.alarm a).state) : s.moveAlarm a f = s := if_pos h

/-- A move that shows in the alarm sets ALARM_CHANGED (R190, R196). -/
theorem State.moveAlarm_flags_of_alarm_ne (h : (s.moveAlarm a f).alarm a ≠ s.alarm a) :
    (s.moveAlarm a f).flags = { s.flags with alarmChanged := true } := by
  have hchanged : f (s.alarm a).state ≠ (s.alarm a).state := fun hfixed => h (by rw [State.moveAlarm_of_fixed hfixed])
  rw [State.moveAlarm, if_neg hchanged]
  rfl

/-- `State.moveAlarm_frame` as one equation of states. -/
theorem State.moveAlarm_eq_with :
    s.moveAlarm a f = { s with alarms := (s.moveAlarm a f).alarms, flags := (s.moveAlarm a f).flags } := by
  unfold State.moveAlarm; split <;> rfl

end Move

/-! ### The table -/

/-- Settles O56: raising and clearing are one move of the alarm, so that a row of the table that leads to another
state is `Alarm.moved_of_row`, and a row that does not leaves the whole module as it was. -/
theorem raisedAndClearedConditionsMoveTheAlarm : Obligations.RaisedAndClearedConditionsMoveTheAlarm := by
  intro s a f raised hf
  have hmove : f s a = s.moveAlarm a (if raised then .raised else .cleared) := by
    subst hf; cases raised <;> rfl
  rw [hmove, State.alarm_moveAlarm]
  refine ⟨?raisedNormal, ?clearedActiveUnack, ?clearedActiveAck, ?raisedReturned, ?unchanged, ?flag, ?others,
    State.moveAlarm_eq_with⟩
  case raisedNormal => rintro hstate rfl; exact Alarm.moved_of_row hstate rfl (by decide)
  case clearedActiveUnack => rintro hstate rfl; exact Alarm.moved_of_row hstate rfl (by decide)
  case clearedActiveAck => rintro hstate rfl; exact Alarm.moved_of_row hstate rfl (by decide)
  case raisedReturned => rintro hstate rfl; exact Alarm.moved_of_row hstate rfl (by decide)
  case unchanged =>
    rintro (⟨hstate, rfl⟩ | ⟨hstate, rfl⟩ | ⟨hstate, rfl⟩ | ⟨hstate, rfl⟩) <;>
      exact State.moveAlarm_of_fixed (by rw [hstate]; rfl)
  case flag => exact fun h => State.moveAlarm_flags_of_alarm_ne (by rwa [State.alarm_moveAlarm])
  case others => exact fun b hb => s.alarm_moveAlarm_other a b _ hb.symm

end Sys2Proof.Machine
end

section
/-! The commands by how they are taken: a request by its owner, an event of a block while the module runs, and the
commands of power and of the start (section 5.6); the owner that a request frame reaches is the owner of a command
(R207). With them the step (log entry 2), the state after reset, the commands of a stopped module (log entry 4) and the
retained update (R94). -/

namespace Sys2Proof.Machine

/-! ### Three ways to take a command -/

/-- How a command is taken: a request by what its owner does; an event of a block by what it does to a running module
and what is left of it for another one, the level of a pin or the second of the clock (log entries 4, 8); or a command
of power, of RESET_N and of the start. -/
inductive Taking
  | request (f : Owner)
  | event (f aside : State → State)
  | power (f : State → State)

def Instr.taking : Instr → Taking
  | .runService runs dir => .request (takeRunService runs dir)
  | .liveValues entries => .request (takeLiveValues entries)
  | .readValues mark indices => .request (takeReadValues mark indices)
  | .overrideSet index value => .request (takeOverrideSet index value)
  | .overrideRelease index => .request (takeOverrideRelease index)
  | .stageOpen kind runs count => .request (takeStageOpen kind runs count)
  | .stageItem body => .request (takeStageItem body)
  | .stageCommit => .request takeStageCommit
  | .stageCancel => .request takeStageCancel
  | .lockSection number => .request (takeLockSection number)
  | .unlockAll => .request takeUnlockAll
  | .readSection number => .request (takeReadSection number)
  | .readRun number => .request (takeReadRun number)
  | .freeze => .request takeFreeze
  | .readTotals source part run batchId => .request (takeReadTotals source part run batchId)
  | .restart kind => .request (takeRestart kind)
  | .batchQueueAdd record => .request (takeBatchQueueAdd record)
  | .batchQueueRemove id => .request (takeBatchQueueRemove id)
  | .batchStart => .request takeBatchStart
  | .batchEnd => .request takeBatchEnd
  | .batchChange => .request takeBatchChange
  | .batchList => .request takeBatchList
  | .proveStart number => .request (takeProveStart number)
  | .proveAccept => .request takeProveAccept
  | .proveReject => .request takeProveReject
  | .proveAbort => .request takeProveAbort
  | .readProve => .request takeReadProve
  | .canReset number => .request (takeCanReset number)
  | .samplerEnable enable => .request (takeSamplerEnable enable)
  | .readSampler => .request takeReadSampler
  | .ticketRead number => .request (takeTicketRead number)
  | .ticketAck number => .request (takeTicketAck number)
  | .archiveStatus => .request takeArchiveStatus
  | .auditRead start => .request (takeAuditRead start)
  | .alarmAck mark name run => .request (takeAlarmAck mark name run)
  | .readAlarms all => .request (takeReadAlarms all)
  | .status => .request takeStatus
  | .statusMatch pairs => .request (takeStatusMatch pairs)
  | .setTime value => .request (takeSetTime value)
  | .pulseInputChange r ch level =>
    .event (pulseInputTo r ch level)
      (fun s => s.modRun r (fun x => x.setChannel ch ((x.channel ch).follow level)))
  | .pulseFilterAccept r ch => .event (filterAccept r ch) id
  | .periodExpiry r => .event (periodExpiry r) id
  | .periodComputation r => .event (computeStep r) id
  | .periodCrediting r => .event (creditStep r) id
  | .staleTimerExpiry v => .event (staleExpiry v) id
  | .holdTimerExpiry v => .event (holdExpiry v) id
  | .stagingInactivityExpiry => .event stagingExpiry id
  | .sealInputChange closed =>
    .event (sealInputTo closed)
      (fun s => { s with sealInput := s.sealInput.follow closed })
  | .sealChange => .event sealAccept id
  | .routeOkChange => .event routeOkAccept id
  | .valveInputChange valve => .event (valveAccept valve) id
  | .proverInputChange input active =>
    .event (proverInputTo input active)
      (fun s => s.modPsq (fun x => x.setInput input ((x.input input).follow active)))
  | .detectorEvent d => .event (detectorAccept d) id
  | .detectorReturnInactive d => .event (detectorReturn d) id
  | .detectorLockoutExpiry d => .event (lockoutExpiry d) id
  | .valveTimerExpiry => .event valveExpiry id
  | .passTimerExpiry => .event passExpiry id
  | .tailTimerExpiry => .event tailExpiry id
  | .widthTimerExpiry => .event widthExpiry id
  | .intervalTimerExpiry => .event intervalExpiry id
  | .swapTimerExpiry => .event swapExpiry id
  | .canfullInputChange can active =>
    .event (canfullInputTo can active)
      (fun s => s.modSmc (fun x => x.setFullInput can ((x.fullInput can).follow active)))
  | .canfullChange can => .event (canfullAccept can) id
  | .writeCompletion agrees => .event (writeCompletion agrees) id
  | .eraseCompletion => .event eraseCompletion id
  | .clockSecond => .event clockSecond State.tickClock
  | .rxCharacter byte stopBit => .event (rxCharacter byte stopBit) id
  | .gapTimerExpiry => .event gapExpiry id
  | .transmissionComplete => .event transmissionComplete id
  | .powerUp batteryHeld => .power (powerUp batteryHeld)
  | .powerFail strike => .power (powerFail strike)
  | .resetNAssert strike => .power (resetAssert strike)
  | .resetNRelease => .power resetRelease
  | .startCompletion => .power startCompletion

/-- The state after a command that is taken so. -/
def Taking.run (s : State) : Taking → State
  | .request f => s.request f
  | .event f aside => if s.phase = .running then (f s).settle else aside s
  | .power f => f s

section Taking

variable {s : State}

theorem event_eq_run (f : State → State) : s.event f = (Taking.event f id).run s := by
  by_cases hrun : s.phase = .running
  · rw [s.event_running f hrun, Taking.run, if_pos hrun]
  · rw [s.event_stopped f hrun, Taking.run, if_neg hrun, id]

theorem exec_eq_run (c : Instr) : exec c s = .next ((Instr.taking c).run s) := by
  cases c with
  | pulseInputChange | sealInputChange | proverInputChange | canfullInputChange | clockSecond =>
    simp only [exec, execPulseInputChange, execSealInputChange, execProverInputChange, execCanfullInputChange,
      execClockSecond, Instr.taking, Taking.run]
    split
    · next hrun => rw [s.event_running _ hrun, if_pos hrun]
    · next hrun => rw [if_neg (by simpa using hrun)]
  | pulseFilterAccept | periodExpiry | periodComputation | periodCrediting | staleTimerExpiry | holdTimerExpiry
  | stagingInactivityExpiry | sealChange | routeOkChange | valveInputChange | detectorEvent | detectorReturnInactive
  | detectorLockoutExpiry | valveTimerExpiry | passTimerExpiry | tailTimerExpiry | widthTimerExpiry
  | intervalTimerExpiry | swapTimerExpiry | canfullChange | writeCompletion | eraseCompletion | rxCharacter
  | gapTimerExpiry | transmissionComplete => exact congrArg _ (event_eq_run _)
  | _ => rfl

theorem exec_eq_next_iff {c : Instr} {t : State} : exec c s = .next t ↔ (Instr.taking c).run s = t := by
  rw [exec_eq_run, Host.Outcome.next.injEq]

end Taking

/-- What a step can be: a tick of the time base, or the front command taken on the state with the queue's rest. -/
theorem step_cases {s t : State} (h : step s = .next t) :
    t = s.idle ∨ ∃ (c : Instr) (rest : List Instr), t = (Instr.taking c).run { s with pending := rest } := by
  unfold step at h
  split at h
  · exact .inl (Host.Outcome.next.inj h).symm
  · next c rest _ => exact .inr ⟨c, rest, (exec_eq_next_iff.mp h).symm⟩

/-- A request that is taken is answered by a running module; one that is not taken changes nothing. -/
theorem State.request_cases (s : State) (f : Owner) :
    s.request f = s ∨ s.phase = .running ∧ s.link.restartMark = none ∧ s.request f = s.answer f := by
  by_cases htakes : s.takesRequests = true
  · have h := htakes
    simp only [State.takesRequests, Bool.and_eq_true, decide_eq_true_eq, Option.isNone_iff_eq_none] at h
    exact .inr ⟨h.1, h.2, if_pos htakes⟩
  · exact .inl (if_neg htakes)

/-! ### The owner that a frame reaches (R207) -/

/-- Every value that a reading can end with has a property. -/
def Parse.Yields {α : Type} (P : α → Prop) : Parse α → Prop
  | .done a _ => P a
  | .short => True
  | .either absent present => absent.Yields P ∧ present.Yields P

section Yields

variable {α β : Type} {P : β → Prop}

theorem Parse.yields_andThen {p : Parse α} {f : α → List Byte → Parse β} (h : ∀ a bs, (f a bs).Yields P) :
    (p.andThen f).Yields P := by
  induction p with
  | done a rest => exact h a rest
  | short => trivial
  | either absent present iha ihp => exact ⟨iha, ihp⟩

theorem readThen_yields {p : List Byte → Parse α} {f : α → List Byte → Parse β} (h : ∀ a bs, (f a bs).Yields P)
    (bs : List Byte) : (readThen p f bs).Yields P :=
  Parse.yields_andThen h

theorem readNothing_yields {b : β} (h : P b) (bs : List Byte) : (readNothing b bs).Yields P := h

end Yields

/-- The owner, if there is one, is the owner of a command. -/
def OwnsCommand (o : Option Owner) : Prop := ∀ f ∈ o, ∃ c : Instr, Instr.taking c = .request f

theorem ownsCommand_none : OwnsCommand none := by simp [OwnsCommand]

theorem ownsCommand_some {c : Instr} {f : Owner} (h : Instr.taking c = .request f) : OwnsCommand (some f) :=
  fun _ hg => ⟨c, by rwa [← Option.mem_some_iff.mp hg]⟩

theorem ownsCommand_map {α : Type} {o : Option α} {f : α → Owner} (c : α → Instr)
    (h : ∀ a, Instr.taking (c a) = .request (f a)) : OwnsCommand (o.map f) := by
  cases o with
  | none => exact ownsCommand_none
  | some a => exact ownsCommand_some (h a)

theorem ownsCommand_bind {α : Type} {o : Option α} {f : α → Option Owner} (h : ∀ a, OwnsCommand (f a)) :
    OwnsCommand (o.bind f) := by
  cases o with
  | none => exact ownsCommand_none
  | some a => exact h a

section Readers

variable (bs : List Byte)

theorem noFields_ownsCommand {f : Owner} (c : Instr) (h : Instr.taking c = .request f) :
    (noFields f bs).Yields OwnsCommand := ownsCommand_some h

theorem oneNumber_ownsCommand {f : Nat → Owner} (k : Nat) (c : Nat → Instr)
    (h : ∀ n, Instr.taking (c n) = .request (f n)) : (oneNumber k f bs).Yields OwnsCommand := by
  refine readThen_yields (fun n _ => ?_) bs
  exact ownsCommand_some (h n)

theorem oneMember_ownsCommand {α : Type} {members : List α} {f : α → Owner} (c : α → Instr)
    (h : ∀ a, Instr.taking (c a) = .request (f a)) : (oneMember members f bs).Yields OwnsCommand := by
  refine readThen_yields (fun _ _ => ?_) bs
  exact ownsCommand_map c h

/-- Every reader of the catalogue ends with the owner of a command, if with any. -/
theorem catalogue_ownsCommand {kind : Nat} {reader : List Byte → Parse (Option Owner)}
    (h : catalogue kind = some reader) : (reader bs).Yields OwnsCommand := by
  unfold catalogue at h
  split at h <;> cases h
  case h_1 =>
    refine readThen_yields (fun runs _ => readThen_yields (fun dir _ => ?_) _) bs
    exact ownsCommand_bind fun rs => ownsCommand_map (.runService rs) fun _ => rfl
  case h_2 =>
    refine readThen_yields (fun _ _ => ?_) bs
    exact ownsCommand_map .liveValues fun _ => rfl
  case h_3 =>
    refine readThen_yields (fun mark _ => readThen_yields (fun indices _ => ?_) _) bs
    exact ownsCommand_map (.readValues · indices) fun _ => rfl
  case h_4 =>
    refine readThen_yields (fun index _ => readThen_yields (fun value _ => ?_) _) bs
    exact ownsCommand_some (c := .overrideSet index value) rfl
  case h_5 => exact oneNumber_ownsCommand bs 1 .overrideRelease fun _ => rfl
  case h_6 =>
    refine readThen_yields (fun kind _ => readThen_yields (fun runs _ => readThen_yields (fun count _ => ?_) _) _) bs
    exact ownsCommand_bind fun k => ownsCommand_map (.stageOpen k · count) fun _ => rfl
  case h_7 =>
    cases bs with
    | nil => trivial
    | cons b bs => exact ownsCommand_some (c := .stageItem (b :: bs)) rfl
  case h_8 => exact noFields_ownsCommand bs .stageCommit rfl
  case h_9 => exact noFields_ownsCommand bs .stageCancel rfl
  case h_10 => exact oneNumber_ownsCommand bs 1 .lockSection fun _ => rfl
  case h_11 => exact noFields_ownsCommand bs .unlockAll rfl
  case h_12 => exact oneNumber_ownsCommand bs 1 .readSection fun _ => rfl
  case h_13 => exact oneNumber_ownsCommand bs 1 .readRun fun _ => rfl
  case h_14 => exact noFields_ownsCommand bs .freeze rfl
  case h_15 =>
    refine readThen_yields (fun source _ => readThen_yields (fun part _ => readThen_yields (fun run _ =>
      readThen_yields (fun id _ => ?_) _) _) _) bs
    exact ownsCommand_bind fun src => ownsCommand_map (.readTotals src · run id) fun _ => rfl
  case h_16 => exact oneMember_ownsCommand bs .restart fun _ => rfl
  case h_17 =>
    refine readThen_yields (fun id _ => readThen_yields (fun code _ => readThen_yields (fun vessel _ =>
      readThen_yields (fun target _ => readThen_yields (fun margin _ => readThen_yields (fun density _ =>
      readThen_yields (fun can _ => ?_) _) _) _) _) _) _) bs
    refine readNothing_yields ?_ _
    split
    · exact ownsCommand_some (c := .batchQueueAdd ⟨id, code, vessel, target, margin, density, can⟩) rfl
    · exact ownsCommand_none
  case h_18 => exact oneNumber_ownsCommand bs 4 .batchQueueRemove fun _ => rfl
  case h_19 => exact noFields_ownsCommand bs .batchStart rfl
  case h_20 => exact noFields_ownsCommand bs .batchEnd rfl
  case h_21 => exact noFields_ownsCommand bs .batchChange rfl
  case h_22 => exact noFields_ownsCommand bs .batchList rfl
  case h_23 => exact oneNumber_ownsCommand bs 1 .proveStart fun _ => rfl
  case h_24 => exact noFields_ownsCommand bs .proveAccept rfl
  case h_25 => exact noFields_ownsCommand bs .proveReject rfl
  case h_26 => exact noFields_ownsCommand bs .proveAbort rfl
  case h_27 => exact noFields_ownsCommand bs .readProve rfl
  case h_28 => exact oneNumber_ownsCommand bs 1 .canReset fun _ => rfl
  case h_29 => exact oneMember_ownsCommand bs .samplerEnable fun _ => rfl
  case h_30 => exact noFields_ownsCommand bs .readSampler rfl
  case h_31 => exact oneNumber_ownsCommand bs 4 .ticketRead fun _ => rfl
  case h_32 => exact oneNumber_ownsCommand bs 4 .ticketAck fun _ => rfl
  case h_33 => exact noFields_ownsCommand bs .archiveStatus rfl
  case h_34 => exact oneNumber_ownsCommand bs 4 (fun n => .auditRead (BitVec.ofNat 32 n)) fun _ => rfl
  case h_35 => exact noFields_ownsCommand bs .status rfl
  case h_36 =>
    refine readThen_yields (fun _ _ => ?_) bs
    exact ownsCommand_map .statusMatch fun _ => rfl
  case h_37 =>
    refine readThen_yields (fun mark _ => readThen_yields (fun name _ => readThen_yields (fun run _ => ?_) _) _) bs
    exact ownsCommand_bind fun m => ownsCommand_map (.alarmAck m · run) fun _ => rfl
  case h_38 =>
    refine readThen_yields (fun _ _ => ?_) bs
    exact ownsCommand_map (fun m => .readAlarms m.isSome) fun _ => rfl
  case h_39 => exact oneNumber_ownsCommand bs 4 .setTime fun _ => rfl

end Readers

theorem judgeBody_owner {p : Parse (Option Owner)} {take : Owner} (h : judgeBody p = .owner take) :
    ∃ rest, p = .done (some take) rest := by
  unfold judgeBody at h
  split at h
  · split at h
    · next rest _ => exact ⟨rest, by rw [Verdict.owner.inj h]⟩
    all_goals cases h
  · cases h

/-- A frame reaches the owner of a command, or none. -/
theorem judgeFrame_owner {f : Frame} {take : Owner} (h : judgeFrame f = .owner take) :
    ∃ c : Instr, Instr.taking c = .request take := by
  unfold judgeFrame at h
  split at h
  · cases h
  · split at h
    · cases h
    · next reader hreader =>
      obtain ⟨rest, hdone⟩ := judgeBody_owner h
      have howns := catalogue_ownsCommand f.body hreader
      rw [hdone] at howns
      exact howns take rfl

/-! ### The step and the state after reset -/

/-- Settles O1: both branches of the step's definition. -/
theorem stepRunsTheFrontCommand : Obligations.StepRunsTheFrontCommand := by
  constructor
  · intro c rest s h
    simp only [step, h]
  · intro s h
    show step s = .next s.idle
    unfold step
    rw [h]

theorem reset_retained_sound :
    State.reset.Ready ∧ State.reset.TotalsAgree ∧ State.reset.PeriodsSound ∧ State.reset.BatchTotalsAgree
      ∧ State.reset.WithinCapacity ∧ State.reset.GrabsAccounted := by
  unfold State.Ready State.Settled State.TotalsAgree Retained.TotalsAgree sumsAgree State.PeriodsSound
    ComputedPeriod.Sound Remainders.Bounded State.BatchTotalsAgree Batch.TotalsAgree State.WithinCapacity
    Retained.WithinCapacity State.GrabsAccounted State.BatchIdsDistinct Retained.BatchIdsDistinct
    Retained.GrabsWithinDue
  decide +kernel

theorem reset_blocks_sound :
    State.reset.PulsesInRange ∧ State.reset.ProverSound ∧ State.reset.SamplerSound ∧ State.reset.ArchiveSound
      ∧ State.reset.AuditSound := by
  unfold State.PulsesInRange RunPulse.InRange State.ProverSound ProverSeq.Sound State.SamplerSound Sampler.Sound
    State.ArchiveSound State.WritesFromTheHead State.EraseMatches State.WriteMatches Archive.ErasedAreEmpty
    Archive.ErasingAreReleased State.AuditSound
  decide +kernel

theorem reset_qualityAlarmsAgree : State.reset.QualityAlarmsAgree := by
  intro _ v
  cases v with
  | t r | p r => revert r; decide +kernel
  | tp | pp | rho | sw => decide +kernel

/-- Settles O2: every copy of retained content is the cold one, and the blocks are at their reset values. -/
theorem resetIsSound : Obligations.ResetIsSound := by
  obtain ⟨hready, htotals, hperiods, hbatches, hcapacity, hgrabs⟩ := reset_retained_sound
  obtain ⟨hpulses, hprover, hsampler, harchive, haudit⟩ := reset_blocks_sound
  have hstaging : State.reset.StagingSound := by simp [State.StagingSound, State.reset]
  exact ⟨hready, htotals, hperiods, hbatches, hcapacity, hpulses, hprover, hsampler, harchive, haudit, hstaging, hgrabs,
    reset_qualityAlarmsAgree⟩

/-! ### A module that is stopped or starting (section 5.6) -/

/-- Settles O14: a request is not taken, and an event that moves no pin leaves nothing of itself. -/
theorem aStoppedModuleTakesNoEvents : Obligations.AStoppedModuleTakesNoEvents := by
  intro c s hrun hc
  have htakes : s.takesRequests = false := by simp [State.takesRequests, hrun]
  rw [exec_eq_next_iff]
  cases c with
  | pulseInputChange | sealInputChange | proverInputChange | canfullInputChange | clockSecond | powerUp | powerFail
  | resetNAssert | resetNRelease | startCompletion => cases hc
  | pulseFilterAccept | periodExpiry | periodComputation | periodCrediting | staleTimerExpiry | holdTimerExpiry
  | stagingInactivityExpiry | sealChange | routeOkChange | valveInputChange | detectorEvent | detectorReturnInactive
  | detectorLockoutExpiry | valveTimerExpiry | passTimerExpiry | tailTimerExpiry | widthTimerExpiry
  | intervalTimerExpiry | swapTimerExpiry | canfullChange | writeCompletion | eraseCompletion | rxCharacter
  | gapTimerExpiry | transmissionComplete => exact if_neg hrun
  | _ => exact s.request_not_taken _ htakes

/-! ### Power and RESET_N (R97, section 5.6) -/

/-- The module with power applied: the retained banks are invalid where the battery has not held them. -/
def State.withPower (s : State) (batteryHeld : Bool) : State :=
  if batteryHeld then { s with powered := true }
  else
    { s with
      powered := true
      bankA := { s.bankA with intact := false }
      bankB := { s.bankB with intact := false } }

theorem powerUp_cases (held : Bool) (s : State) :
    powerUp held s = s ∨ powerUp held s = s.withPower held ∨ powerUp held s = (s.withPower held).beginStart := by
  unfold powerUp
  by_cases hpowered : s.powered = true
  · exact .inl (if_pos hpowered)
  · rw [if_neg hpowered]
    by_cases hreset : (s.withPower held).resetActive = true
    exacts [.inr (.inl (if_pos hreset)), .inr (.inr (if_neg hreset))]

theorem resetRelease_cases (s : State) :
    resetRelease s = s ∨ resetRelease s = { s with resetActive := false }
      ∨ resetRelease s = { s with resetActive := false }.beginStart := by
  unfold resetRelease
  split
  · split
    exacts [.inr (.inr rfl), .inr (.inl rfl)]
  · exact .inl rfl

theorem powerFail_cases (strike : Strike) (s : State) :
    powerFail strike s = s ∨ powerFail strike s = { s.halted strike with powered := false } := by
  unfold powerFail
  split
  exacts [.inr rfl, .inl rfl]

theorem resetAssert_cases (strike : Strike) (s : State) :
    resetAssert strike s = s ∨ resetAssert strike s = { s.halted strike with resetActive := true } := by
  unfold resetAssert
  split
  exacts [.inl rfl, .inr rfl]

/-! ### The retained update (R94) -/

section Settled

variable {s : State}

/-- What keeps the working content, the banks and the choice of the current one keeps retained memory settled. -/
theorem State.Settled.congr {t : State} (h : s.Settled) (hret : t.ret = s.ret) (ha : t.bankA.content = s.bankA.content)
    (hb : t.bankB.content = s.bankB.content) (hcur : t.current = s.current) : t.Settled := by
  unfold State.Settled State.currentBank at *
  rw [hret, hcur, h]
  split <;> simp only [ha, hb]

theorem State.settled_settle : s.settle.Settled := s.settle_settled

theorem State.settled_request (f : Owner) (h : s.Settled) : (s.request f).Settled := by
  obtain hnone | ⟨-, -, hanswer⟩ := s.request_cases f
  · rwa [hnone]
  · rw [hanswer]
    exact State.settled_settle (s := (f s).1)

theorem State.settled_halted (strike : Strike) (h : s.Settled) : (s.halted strike).Settled := by
  have hstruck : (s.struck strike).Settled := by
    refine h.congr ?_ ?_ ?_ ?_ <;> (unfold State.struck; repeat' split) <;> rfl
  unfold State.halted
  split
  · exact h
  all_goals exact hstruck

theorem State.settled_beginStart (h : s.Settled) : s.beginStart.Settled := by
  unfold State.beginStart
  split
  · next bank _ => cases bank <;> rfl
  · exact h

theorem State.settled_power {c : Instr} {f : State → State} (hc : Instr.taking c = .power f) (h : s.Settled) :
    (f s).Settled := by
  cases c <;> cases hc
  case powerUp held =>
    have hpowered : (s.withPower held).Settled := by
      cases held
      exacts [h.congr rfl rfl rfl rfl, h]
    obtain heq | heq | heq := powerUp_cases held s <;> rw [heq]
    exacts [h, hpowered, State.settled_beginStart hpowered]
  case powerFail strike =>
    obtain heq | heq := powerFail_cases strike s <;> rw [heq]
    exacts [h, State.settled_halted strike h]
  case resetNAssert strike =>
    obtain heq | heq := resetAssert_cases strike s <;> rw [heq]
    exacts [h, State.settled_halted strike h]
  case resetNRelease =>
    obtain heq | heq | heq := resetRelease_cases s <;> rw [heq]
    exacts [h, h, State.settled_beginStart (s := { s with resetActive := false }) h]
  case startCompletion =>
    unfold startCompletion
    split
    exacts [State.settled_settle, State.settled_settle, h, h]

theorem State.settled_aside {c : Instr} {f aside : State → State} (hc : Instr.taking c = .event f aside)
    (h : s.Settled) : (aside s).Settled := by
  cases c <;> cases hc <;> exact h

theorem State.settled_run (c : Instr) (h : s.Settled) : ((Instr.taking c).run s).Settled := by
  cases hc : Instr.taking c with
  | request f => exact State.settled_request f h
  | event f aside =>
    show (if s.phase = .running then (f s).settle else aside s).Settled
    split
    exacts [State.settled_settle, State.settled_aside hc h]
  | power f => exact State.settled_power hc h

theorem State.retainedUpdate_of_current (s : State) :
    s.retainedUpdate.currentBank = ⟨s.ret, s.currentBank.generation + 1, true⟩ ∧ s.retainedUpdate.current ≠ s.current
      ∧ (s.current = .a → s.retainedUpdate.bankA = s.bankA) ∧ (s.current = .b → s.retainedUpdate.bankB = s.bankB)
      ∧ s.retainedUpdate = { s with
          bankA := s.retainedUpdate.bankA, bankB := s.retainedUpdate.bankB, current := s.retainedUpdate.current } := by
  cases hcur : s.current <;> simp [State.retainedUpdate, State.currentBank, hcur]

end Settled

/-- Settles O3: a request and an event of a running module end with the update that settles; what remains moves no
retained content, or goes on from a bank whose content it takes. -/
theorem stepKeepsRetainedMemorySettled : Obligations.StepKeepsRetainedMemorySettled := by
  refine ⟨fun s t hs ht => ?_, fun s => ⟨s.retainedUpdate, rfl, ?_⟩⟩
  · obtain rfl | ⟨c, rest, rfl⟩ := step_cases ht
    · exact hs
    · exact State.settled_run c (s := { s with pending := rest }) hs
  · obtain ⟨hbank, hcur, ha, hb, hframe⟩ := s.retainedUpdate_of_current
    exact ⟨hbank, hcur, ha, hb, hframe, s.settle_of_settled, State.settle_of_changed⟩

end Sys2Proof.Machine
end

section
/-! What the invariants of Safety.lean rest on. `State.Keeps s t` says that where `s` runs, `t` runs, every invariant that
holds in `s` holds in `t`, and no locked section moved under a closed seal (R61). The lemmas of this part give it for a
change of one component each, under the condition that the change meets; what an operation does is then a chain of
such changes. -/

namespace Sys2Proof.Machine

set_option Elab.async false

/-! ### The relation -/

/-- Every invariant but those of the prover and of the quality alarms that holds in the first state holds in the second;
a field that is not given is one whose invariant does not read what changed. -/
structure State.KeepsContents (s t : State) : Prop where
  totals : s.TotalsAgree → t.TotalsAgree := by exact fun h => h
  batchTotals : s.BatchTotalsAgree → t.BatchTotalsAgree := by exact fun h => h
  periods : s.PeriodsSound → t.PeriodsSound := by exact fun h => h
  capacity : s.WithinCapacity → t.WithinCapacity := by exact fun h => h
  pulses : s.PulsesInRange → t.PulsesInRange := by exact fun h => h
  sampler : s.SamplerSound → t.SamplerSound := by exact fun h => h
  ids : s.BatchIdsDistinct → t.BatchIdsDistinct := by exact fun h => h
  grabs : s.GrabsAccounted → t.GrabsAccounted := by exact fun h => h
  archive : s.ArchiveSound → t.ArchiveSound := by exact fun h => h
  audit : s.AuditSound → t.AuditSound := by exact fun h => h
  staging : s.StagingSound → t.StagingSound := by exact fun h => h

/-- The quality alarms too stay in agreement (R39). -/
structure State.KeepsInvariants (s t : State) : Prop extends s.KeepsContents t where
  quality : s.QualityAlarmsAgree → t.QualityAlarmsAgree := by exact fun h => h

/-- The sections that are locked and that no prove writes have the same content (R149). -/
def State.SameLockedSections (s t : State) : Prop :=
  ∀ ref : SectionRef, s.locked ref = true → ref.neverProved = true →
    sectionContent t.params ref = sectionContent s.params ref

/-- Under a closed seal the seal stays closed, the locks stand and no locked section moves (R61, R62). -/
def State.KeepsSealed (s t : State) : Prop :=
  s.StagingSound → s.seal = .closed → t.seal = .closed ∧ t.locks = s.locks ∧ s.SameLockedSections t

/-- What may be asked of the Prover Sequencer and the prove marker between two changes of an operation. -/
abbrev ProverCond := ProverSeq → Option ProveMarker → Prop

/-- What a change keeps of a running module: that it runs, the invariants and the sealed sections; and it leads from one
condition of the prover to another, the same one where the change leaves the prover alone. -/
structure State.KeepsRunning (P Q : ProverCond) (s t : State) : Prop extends s.KeepsInvariants t where
  running : t.phase = .running := by assumption
  prover : P s.psq s.ret.marker → Q t.psq t.ret.marker := by exact fun h => h
  sealed : s.KeepsSealed t := by exact fun _ hclosed => ⟨hclosed, rfl, fun _ _ _ => rfl⟩

/-- A running module keeps what `State.KeepsRunning` names. -/
structure State.Keeps (P Q : ProverCond) (s t : State) : Prop where
  of_running : s.phase = .running → s.KeepsRunning P Q t

/-- `State.ProverSound` of a running module. -/
def ProverSeq.SoundWith : ProverCond := fun x marker => x.Sound ∧ marker.isSome = decide (x.state ≠ .idle)

section Relation

variable {P Q R : ProverCond} {s t u : State}

theorem State.KeepsContents.trans (h : s.KeepsContents t) (h' : t.KeepsContents u) : s.KeepsContents u where
  totals := h'.totals ∘ h.totals
  batchTotals := h'.batchTotals ∘ h.batchTotals
  periods := h'.periods ∘ h.periods
  capacity := h'.capacity ∘ h.capacity
  pulses := h'.pulses ∘ h.pulses
  sampler := h'.sampler ∘ h.sampler
  ids := h'.ids ∘ h.ids
  grabs := h'.grabs ∘ h.grabs
  archive := h'.archive ∘ h.archive
  audit := h'.audit ∘ h.audit
  staging := h'.staging ∘ h.staging

theorem State.KeepsInvariants.trans (h : s.KeepsInvariants t) (h' : t.KeepsInvariants u) : s.KeepsInvariants u where
  toKeepsContents := h.toKeepsContents.trans h'.toKeepsContents
  quality := h'.quality ∘ h.quality

theorem State.Keeps.refl (s : State) : s.Keeps P P s := ⟨fun _ => {}⟩

theorem State.Keeps.of_eq (h : t = s) : s.Keeps P P t := by
  subst h
  exact .refl t

theorem State.Keeps.trans (h : s.Keeps P Q t) (h' : t.Keeps Q R u) : s.Keeps P R u := by
  refine ⟨fun hrun => ?_⟩
  have ht := h.of_running hrun
  have hu := h'.of_running ht.running
  refine { ht.toKeepsInvariants.trans hu.toKeepsInvariants with
    running := hu.running, prover := hu.prover ∘ ht.prover, sealed := ?_ }
  intro hstaging hclosed
  obtain ⟨hseal, hlocks, hsame⟩ := ht.sealed hstaging hclosed
  obtain ⟨hseal', hlocks', hsame'⟩ := hu.sealed (ht.staging hstaging) hseal
  refine ⟨hseal', hlocks'.trans hlocks, fun ref hlocked hnever => ?_⟩
  have hlocked' : t.locked ref = true := by unfold State.locked at *; rwa [hlocks]
  exact (hsame' ref hlocked' hnever).trans (hsame ref hlocked hnever)

/-- A list of changes, each kept, is kept. -/
theorem State.Keeps.foldl {α : Type} {f : State → α → State} (h : ∀ (s : State) (a : α), s.Keeps P P (f s a))
    (as : List α) (s : State) : s.Keeps P P (as.foldl f s) := by
  induction as generalizing s with
  | nil => exact .refl s
  | cons a as ih => exact (h s a).trans (ih (f s a))

end Relation

/-! ### Changes that no invariant reads -/

section Quiet

variable {P : ProverCond} {s : State}

/-- The time base, the flags, the latch, the link, the reply and the waiting commands. -/
theorem State.Keeps.quiet (now secondFrom : Moment) (flags : EventFlags) (snapshot : Option Snapshot)
    (snapshotSeq : Counter) (recordedSeal : SealState) (link : Link) (reply : Option Reply) (pending : List Instr) :
    s.Keeps P P { s with
      now := now, secondFrom := secondFrom, flags := flags, snapshot := snapshot, snapshotSeq := snapshotSeq
      recordedSeal := recordedSeal, link := link, reply := reply, pending := pending } :=
  ⟨fun _ => {}⟩

theorem State.keeps_atMoment (s : State) (d : Moment) : s.Keeps P P (s.atMoment d) := .quiet ..

theorem State.keeps_addFlag (s : State) (x : EventFlag) : s.Keeps P P (s.addFlag x) := .quiet ..

end Quiet

/-! ### Changes of one table or buffer -/

section Tables

variable {P : ProverCond} {s : State}

theorem State.Keeps.pulses {pulses : PerRun RunPulse} (h : s.PulsesInRange → ∀ r : Run, pulses[r].InRange) :
    s.Keeps P P { s with pulses := pulses } :=
  ⟨fun _ => { pulses := h }⟩

theorem State.keeps_modRun {r : Run} {f : RunPulse → RunPulse} (h : s.pulses[r].InRange → (f s.pulses[r]).InRange) :
    s.Keeps P P (s.modRun r f) := by
  refine .pulses fun hs q => ?_
  by_cases hq : r = q
  · subst hq
    rw [modAt_same]
    exact h (hs r)
  · rw [modAt_other _ _ _ _ hq]
    exact hs q

theorem State.Keeps.clock (now secondFrom : Moment) {clock : Seconds} (h : s.clock ≤ Config.top32 → clock ≤ Config.top32) :
    s.Keeps P P { s with now := now, clock := clock, secondFrom := secondFrom } :=
  ⟨fun _ => { capacity := fun ⟨hret, hqueue, hclock⟩ => ⟨hret, hqueue, h hclock⟩ }⟩

theorem State.Keeps.staging {staging : Option Staging}
    (h : s.StagingSound → State.StagingSound { s with staging := staging }) :
    s.Keeps P P { s with staging := staging } :=
  ⟨fun _ => { staging := h }⟩

theorem State.Keeps.stagingNone : s.Keeps P P { s with staging := none } :=
  .staging fun _ => by simp [State.StagingSound]

/-- The content of the sections moves only so that no locked section moves under a closed seal (R57, R149). -/
theorem State.Keeps.params {params : Params}
    (h : s.StagingSound → s.seal = .closed → s.SameLockedSections { s with params := params }) :
    s.Keeps P P { s with params := params } :=
  ⟨fun _ => { sealed := fun hstaging hclosed => ⟨hclosed, rfl, h hstaging hclosed⟩ }⟩

theorem State.Keeps.locks {locks : Vector Bool 12} (h : s.seal = .opened) : s.Keeps P P { s with locks := locks } :=
  ⟨fun _ => { sealed := fun _ hclosed => by simp [h] at hclosed }⟩

theorem State.Keeps.sealInput {f : InputFilter} (h : f.filtered = s.sealInput.filtered) :
    s.Keeps P P { s with sealInput := f } :=
  ⟨fun _ => { sealed := fun _ hclosed => ⟨by unfold State.seal at *; rwa [h], rfl, fun _ _ _ => rfl⟩ }⟩

/-- The values and their quality alarms: each value agrees with its alarm after, or neither has moved (R39). -/
theorem State.Keeps.values {values : Vector LiveValue 12} {alarms : Vector Alarm 54} {flags : EventFlags}
    (h : ∀ v : ValueId, let t := { s with values := values, alarms := alarms, flags := flags }
      t.alarmRaised (qualityAlarm v) = (t.value v).notFresh
        ∨ t.alarmRaised (qualityAlarm v) = s.alarmRaised (qualityAlarm v) ∧ t.value v = s.value v) :
    s.Keeps P P { s with values := values, alarms := alarms, flags := flags } := by
  refine ⟨fun hrun => { quality := fun hs _ v => ?_ }⟩
  obtain hagree | ⟨halarm, hvalue⟩ := h v
  · exact hagree
  · rw [halarm, hvalue]
    exact hs hrun v

/-- The alarms that follow the quality in force of a value (R39). -/
def AlarmId.isQuality : AlarmId → Bool
  | .station .tpQuality => true
  | .station .ppQuality => true
  | .station .rhoQuality => true
  | .station .swQuality => true
  | .run _ .tQuality => true
  | .run _ .pQuality => true
  | _ => false

theorem qualityAlarm_isQuality (v : ValueId) : (qualityAlarm v).isQuality = true := by cases v <;> rfl

theorem ne_qualityAlarm {a : AlarmId} (ha : a.isQuality = false) (v : ValueId) : a ≠ qualityAlarm v := by
  rintro rfl
  simp [qualityAlarm_isQuality] at ha

section Alarms

variable (s : State) {a : AlarmId} (ha : a.isQuality = false := by rfl)

include ha

theorem State.keeps_moveAlarm (f : AlarmState → AlarmState) : s.Keeps P P (s.moveAlarm a f) := by
  rw [State.moveAlarm_eq_with]
  exact .values fun v => .inr ⟨State.alarmRaised_congr (s.alarm_moveAlarm_other a _ f (ne_qualityAlarm ha v)), rfl⟩

theorem State.keeps_raiseAlarm : s.Keeps P P (s.raiseAlarm a) := s.keeps_moveAlarm ha _

theorem State.keeps_clearAlarm : s.Keeps P P (s.clearAlarm a) := s.keeps_moveAlarm ha _

theorem State.keeps_setAlarm (raised : Bool) : s.Keeps P P (s.setAlarm a raised) := by
  rw [State.setAlarm_eq_moveAlarm]
  exact s.keeps_moveAlarm ha _

theorem State.keeps_pulseAlarm : s.Keeps P P (s.pulseAlarm a) :=
  (s.keeps_raiseAlarm ha).trans ((s.raiseAlarm a).keeps_clearAlarm ha)

end Alarms

/-- An audit entry takes its position and leaves the others theirs (R182). -/
theorem State.keeps_appendAudit (s : State) (body : AuditBody) : s.Keeps P P (s.appendAudit body) := by
  refine ⟨fun _ => { audit := fun hs => ?_ }⟩
  unfold State.AuditSound at *
  simp only [State.appendAudit_audit, AuditRing.write, List.map_append, List.map_cons, List.map_nil]
  refine List.nodup_append.mpr ⟨(List.filter_sublist.map _).nodup hs, List.nodup_singleton _, ?_⟩
  intro n hn m hm
  obtain ⟨e, he, rfl⟩ := List.mem_map.mp hn
  rw [List.mem_singleton] at hm
  subst hm
  simpa using (List.mem_filter.mp he).2

end Tables

/-! ### Changes of retained content and of what stands beside it -/

/-- What one retained content keeps of itself; a field that is not given is one that does not read what changed. -/
structure Retained.Keeps (x y : Retained) : Prop where
  totals : x.TotalsAgree → y.TotalsAgree := by exact fun h => h
  batchTotals : (∀ b ∈ x.active.toList ++ x.ending, b.TotalsAgree) → ∀ b ∈ y.active.toList ++ y.ending, b.TotalsAgree := by
    exact fun h => h
  capacity : x.WithinCapacity → y.WithinCapacity := by exact fun h => h
  ids : x.BatchIdsDistinct → y.BatchIdsDistinct := by exact fun h => h

/-- The period records that the Correction Engine holds are sound (R66, R79). -/
def State.RecordsSound (s : State) : Prop :=
  (∀ r : Run, ∀ c ∈ s.cen[r].computed, c.Sound) ∧ ∀ r : Run, ∀ rec ∈ s.cen[r].latest, rec.nsv ≤ rec.gsv

/-- Every grab of a live batch is taken, missed or queued, and every owed grab has its batch (R157, R159). -/
def State.LiveGrabsAccounted (s : State) : Prop :=
  (∀ b ∈ s.liveBatches, b.sampling.due = b.sampling.taken + b.sampling.missed + s.queuedGrabs b.record.id)
    ∧ ∀ e ∈ s.smc.queue, ∃ b ∈ s.liveBatches, b.record.id = e.batchId

/-- What a change of retained content, of the Correction Engine, the Prover Sequencer, the sampler and the archive keeps;
a field that is not given is one that does not read what changed. -/
structure State.KeepsContent (P Q : ProverCond) (s t : State) : Prop where
  ret : s.ret.Keeps t.ret := by exact {}
  periods : (∀ r : Run, s.ret.rem[r].Bounded) → s.RecordsSound → (∀ r : Run, t.ret.rem[r].Bounded) ∧ t.RecordsSound := by
    exact fun hrem hrecords => ⟨hrem, hrecords⟩
  owed : s.smc.queue.length ≤ Config.owedLimit → t.smc.queue.length ≤ Config.owedLimit := by exact fun h => h
  prover : P s.psq s.ret.marker → Q t.psq t.ret.marker := by exact fun h => h
  sampler : s.SamplerSound → t.SamplerSound := by exact fun h => h
  grabs : s.ret.BatchIdsDistinct → s.LiveGrabsAccounted → t.LiveGrabsAccounted := by exact fun _ h => h
  archive : s.ArchiveSound → t.ArchiveSound := by exact fun h => h

section Content

variable {P Q : ProverCond} {s t : State}

theorem State.forall_copies_iff {p : Retained → Prop} :
    (∀ x ∈ s.copies, p x) ↔ p s.ret ∧ p s.bankA.content ∧ p s.bankB.content := by
  simp [State.copies]

/-- A change of the working content alone. -/
theorem forall_copies_imp {p : Retained → Prop} {x y a b : Retained} (h : p x → p y) (hs : ∀ z ∈ [x, a, b], p z) :
    ∀ z ∈ [y, a, b], p z := by
  simp only [List.forall_mem_cons] at *
  exact ⟨h hs.1, hs.2⟩

/-- While the module runs, the accounting of the live grabs is what `State.GrabsAccounted` asks of the working content. -/
theorem State.grabsAccounted_iff (hrun : s.phase = .running) :
    s.GrabsAccounted ↔ s.BatchIdsDistinct ∧ s.bankA.content.GrabsWithinDue ∧ s.bankB.content.GrabsWithinDue
      ∧ s.LiveGrabsAccounted := by
  constructor
  · rintro ⟨hids, hdue, hlive⟩
    obtain ⟨-, ha, hb⟩ := State.forall_copies_iff.mp hdue
    exact ⟨hids, ha, hb, hlive hrun⟩
  · rintro ⟨hids, ha, hb, hlive⟩
    have hret : s.ret.GrabsWithinDue := fun b hmem => by have := hlive.1 b hmem; omega
    exact ⟨hids, State.forall_copies_iff.mpr ⟨hret, ha, hb⟩, fun _ => hlive⟩

/-- A change of retained content, of the Correction Engine, the Prover Sequencer, the sampler and the archive. -/
theorem State.Keeps.content {ret : Retained} {cen : PerRun RunCorrection} {psq : ProverSeq} {smc : Sampler}
    {archive : Archive} {write : Option WriteInFlight} {erase : Option EraseInProgress}
    (h : s.phase = .running → s.KeepsContent P Q { s with
      ret := ret, cen := cen, psq := psq, smc := smc, archive := archive, write := write, erase := erase }) :
    s.Keeps P Q { s with
      ret := ret, cen := cen, psq := psq, smc := smc, archive := archive, write := write, erase := erase } := by
  refine ⟨fun hrun => ?_⟩
  obtain ⟨hret, hperiods, howed, hprover, hsampler, hgrabs, harchive⟩ := h hrun
  exact {
    totals := forall_copies_imp hret.totals
    batchTotals := forall_copies_imp hret.batchTotals
    periods := fun ⟨hrem, hrecs⟩ => by
      obtain ⟨hx, ha, hb⟩ := State.forall_copies_iff.mp hrem
      obtain ⟨hx', hrecs'⟩ := hperiods hx hrecs
      exact ⟨State.forall_copies_iff.mpr ⟨hx', ha, hb⟩, hrecs'⟩
    capacity := fun ⟨hcap, hqueue, hclock⟩ =>
      ⟨forall_copies_imp hret.capacity hcap, howed hqueue, hclock⟩
    prover := hprover
    sampler := hsampler
    ids := forall_copies_imp hret.ids
    grabs := fun hs => by
      obtain ⟨hdistinct, ha, hb, hlive⟩ := (State.grabsAccounted_iff hrun).mp hs
      refine (State.grabsAccounted_iff ?_).mpr
        ⟨forall_copies_imp hret.ids hdistinct, ha, hb, hgrabs (State.forall_copies_iff.mp hdistinct).1 hlive⟩
      exact hrun
    archive := harchive }

/-- The items of retained content that no invariant reads. -/
theorem State.Keeps.retQuiet (service : PerRun ServiceState) (periodSeq : PerRun Counter)
    (unbatched : CumulativeTotals) (lastSeen : Seconds) (clockSet endPending slowdown stop : Bool) (lastSlot : Slot)
    (lastProve : PerRun (Option LastProve)) (canCount1 canCount2 ticketCounter : Nat) :
    s.Keeps P P { s with ret := { s.ret with
      service := service, periodSeq := periodSeq, unbatched := unbatched, lastSeen := lastSeen, clockSet := clockSet
      endPending := endPending, slowdown := slowdown, stop := stop, lastSlot := lastSlot, lastProve := lastProve
      canCount1 := canCount1, canCount2 := canCount2, ticketCounter := ticketCounter } } :=
  .content fun _ => {}

/-- The retained update copies what holds of the working content into a bank (R94). -/
theorem State.keepsInvariants_retainedUpdate (s : State) : s.KeepsInvariants s.retainedUpdate := by
  have hcopies (p : Retained → Prop) (hs : ∀ x ∈ s.copies, p x) : ∀ x ∈ s.retainedUpdate.copies, p x := by
    obtain ⟨hret, ha, hb⟩ := State.forall_copies_iff.mp hs
    refine State.forall_copies_iff.mpr ?_
    unfold State.retainedUpdate
    split
    exacts [⟨hret, ha, hret⟩, ⟨hret, hret, hb⟩]
  have hframe := s.retainedUpdate_of_current.2.2.2.2
  generalize s.retainedUpdate = t at hcopies hframe
  rw [hframe] at hcopies ⊢
  exact {
    totals := hcopies Retained.TotalsAgree
    batchTotals := hcopies fun x => ∀ b ∈ x.active.toList ++ x.ending, b.TotalsAgree
    periods := fun ⟨hrem, hrecs⟩ => ⟨hcopies (fun x => ∀ r : Run, x.rem[r].Bounded) hrem, hrecs⟩
    capacity := fun ⟨hcap, hrest⟩ => ⟨hcopies Retained.WithinCapacity hcap, hrest⟩
    ids := hcopies Retained.BatchIdsDistinct
    grabs := fun ⟨hids, hdue, hlive⟩ =>
      ⟨hcopies Retained.BatchIdsDistinct hids, hcopies Retained.GrabsWithinDue hdue, hlive⟩ }

theorem State.keepsInvariants_settle (s : State) : s.KeepsInvariants s.settle := by
  unfold State.settle
  split
  exacts [{}, s.keepsInvariants_retainedUpdate]

theorem State.keeps_retainedUpdate (s : State) : s.Keeps P P s.retainedUpdate := by
  have hkeeps := s.keepsInvariants_retainedUpdate
  have hframe := s.retainedUpdate_of_current.2.2.2.2
  generalize s.retainedUpdate = t at hkeeps hframe
  rw [hframe] at hkeeps ⊢
  exact ⟨fun hrun => { hkeeps with running := hrun, prover := fun h => h, sealed := fun _ h => ⟨h, rfl, fun _ _ _ => rfl⟩ }⟩

theorem State.keeps_settle (s : State) : s.Keeps P P s.settle := by
  unfold State.settle
  split
  exacts [.refl s, s.keeps_retainedUpdate]

end Content

end Sys2Proof.Machine
end

section
/-! What the operations of the Ticket Archive keep (R171 to R178): one sector at a time, with the write in flight and the
erase in progress beside it. -/

namespace Sys2Proof.Machine

set_option Elab.async false

/-! ### One sector -/

/-- A sector that is ERASED is empty, and one whose erase is in progress is released (R171, R176). -/
def ArchiveSector.Sound (x : ArchiveSector) : Prop :=
  (x.state = .erased → ∀ j : Sector, x.slots[j] = .empty)
    ∧ (x.state = .erasing ∨ x.state = .eraseSuspended → ∀ j : Sector, x.slots[j].released = true)

theorem ArchiveSector.sound_of_holdsTickets {x : ArchiveSector} (h : x.state.holdsTickets = true) : x.Sound := by
  unfold ArchiveSector.Sound
  cases hx : x.state <;> simp_all [SectorState.holdsTickets]

theorem ArchiveSector.sound_of_released {x : ArchiveSector} (h : x.state ≠ .erased)
    (hreleased : ∀ j : Sector, x.slots[j].released = true) : x.Sound :=
  ⟨fun he => absurd he h, fun _ => hreleased⟩

theorem ArchiveSector.sound_erased : ArchiveSector.erased.Sound := by
  unfold ArchiveSector.Sound; decide

section Sectors

variable {a : Archive} {i j : Sector} {f : ArchiveSector → ArchiveSector}

@[simp] theorem Archive.modSector_sectors_same : (a.modSector i f).sectors[i] = f a.sectors[i] := modAt_same ..

theorem Archive.modSector_sectors_other (h : i ≠ j) : (a.modSector i f).sectors[j] = a.sectors[j] :=
  modAt_other _ _ _ _ h

theorem Archive.sectors_sound_modSector (h : ∀ k : Sector, a.sectors[k].Sound) (hf : (f a.sectors[i]).Sound)
    (k : Sector) : (a.modSector i f).sectors[k].Sound := by
  by_cases hk : i = k
  · subst hk
    rwa [Archive.modSector_sectors_same]
  · rw [Archive.modSector_sectors_other hk]
    exact h k

end Sectors

/-! ### The invariant, sector by sector -/

/-- The erase in progress gives its sector's state (R177). -/
def EraseInProgress.Matches (e : EraseInProgress) (a : Archive) : Prop :=
  a.sectors[e.sector].state = if e.since.isSome then SectorState.erasing else SectorState.eraseSuspended

/-- The slot of the write in flight is WRITING, in a sector that holds tickets (R173). -/
def WriteInFlight.Matches (w : WriteInFlight) (a : Archive) : Prop :=
  a.sectors[w.sector].state.holdsTickets = true ∧ a.slot (w.sector, w.slot) = .writing

section Invariant

variable {s : State}

theorem State.archiveSound_iff (hrun : s.phase = .running) :
    s.ArchiveSound ↔ s.WritesFromTheHead ∧ (∀ e ∈ s.erase, e.Matches s.archive) ∧ (∀ w ∈ s.write, w.Matches s.archive)
      ∧ ∀ k : Sector, s.archive.sectors[k].Sound := by
  constructor
  · rintro ⟨hhead, herase, hwrite, hempty, hreleased⟩
    exact ⟨hhead hrun, herase, fun w hw => ⟨(hwrite w hw).1, (hwrite w hw).2 hrun⟩,
      fun k => ⟨fun hk j => hempty k j hk, fun hk j => hreleased k j hk⟩⟩
  · rintro ⟨hhead, herase, hwrite, hsectors⟩
    exact ⟨fun _ => hhead, herase, fun w hw => ⟨(hwrite w hw).1, fun _ => (hwrite w hw).2⟩,
      fun k j hk => (hsectors k).1 hk j, fun k j hk => (hsectors k).2 hk j⟩

/-- An erase in progress and a write in flight are in different sectors. -/
theorem erase_ne_write {e : EraseInProgress} {a : Archive} {i : Sector} (he : e.Matches a)
    (hi : a.sectors[i].state.holdsTickets = true) : e.sector ≠ i := by
  rintro rfl
  rw [he] at hi
  split at hi <;> cases hi

theorem WriteInFlight.Matches.modSector {w : WriteInFlight} {a : Archive} {i : Sector} {f : ArchiveSector → ArchiveSector}
    (h : w.Matches a) (hi : i ≠ w.sector) : w.Matches (a.modSector i f) := by
  unfold WriteInFlight.Matches Archive.slot at *
  rwa [Archive.modSector_sectors_other hi]

/-- A slot beside the one being written may take another state. -/
theorem WriteInFlight.Matches.setSlot {w : WriteInFlight} {a : Archive} {i j : Sector}
    {f : ArchiveSector → SlotState} (h : w.Matches a) (hij : (w.sector, w.slot) ≠ (i, j)) :
    w.Matches (a.modSector i (fun x => x.setSlot j (f x))) := by
  by_cases hi : i = w.sector
  · subst hi
    have hj : j ≠ w.slot := by
      rintro rfl
      exact hij rfl
    unfold WriteInFlight.Matches Archive.slot at *
    rw [Archive.modSector_sectors_same]
    refine ⟨h.1, Eq.trans ?_ h.2⟩
    exact Vector.getElem_set_ne j.isLt w.slot.isLt fun hv => hj (Fin.ext hv)
  · exact h.modSector hi

theorem EraseInProgress.Matches.modSector {e : EraseInProgress} {a : Archive} {i : Sector}
    {f : ArchiveSector → ArchiveSector} (h : e.Matches a) (hi : i ≠ e.sector) : e.Matches (a.modSector i f) := by
  unfold EraseInProgress.Matches at *
  rwa [Archive.modSector_sectors_other hi]

end Invariant

/-! ### The erase in progress (R177, R178) -/

section Erase

variable {P : ProverCond} (s : State)

/-- The erase in progress takes another state of progress, and its sector the state that goes with it. -/
theorem State.keeps_eraseProgress {e : EraseInProgress} {remaining : Nat} {since : Option Moment} {st : SectorState}
    (he : s.erase = some e) (hst : st = if since.isSome then SectorState.erasing else SectorState.eraseSuspended) :
    s.Keeps P P { s.modArchive (fun a => a.modSector e.sector (fun x => { x with state := st })) with
      erase := some ⟨e.sector, remaining, since⟩ } := by
  refine .content fun hrun => { archive := fun hs => ?_ }
  obtain ⟨hhead, herase, hwrite, hsectors⟩ := (State.archiveSound_iff hrun).mp hs
  have hmatch : e.Matches s.archive := herase e he
  refine (State.archiveSound_iff ?_).mpr ⟨hhead, ?_, fun w hw => ?_, Archive.sectors_sound_modSector hsectors ?_⟩
  · exact hrun
  · rintro _ ⟨⟩
    exact (congrArg ArchiveSector.state Archive.modSector_sectors_same).trans hst
  · exact (hwrite w hw).modSector (erase_ne_write hmatch (hwrite w hw).1)
  · have hreleased : ∀ j : Sector, s.archive.sectors[e.sector].slots[j].released = true := by
      refine (hsectors e.sector).2 ?_
      rw [hmatch]
      split
      exacts [.inl rfl, .inr rfl]
    refine ArchiveSector.sound_of_released ?_ hreleased
    rw [hst]
    split <;> simp

theorem State.keeps_suspendErase : s.Keeps P P s.suspendErase := by
  unfold State.suspendErase
  split
  · exact .refl s
  · next e he =>
    split
    · exact .refl s
    · exact s.keeps_eraseProgress he rfl

theorem State.keeps_resumeErase : s.Keeps P P s.resumeErase := by
  unfold State.resumeErase
  split
  · next e _ he =>
    split
    · exact .refl s
    · exact s.keeps_eraseProgress he rfl
  · exact .refl s
  · exact .refl s

/-- The reclaim test (R176). -/
theorem State.keeps_testReclaim : s.Keeps P P s.testReclaim := by
  unfold State.testReclaim
  split
  · exact .refl s
  · next i _ =>
    split
    · next hreclaim =>
      simp only [Bool.and_eq_true, Option.isNone_iff_eq_none, decide_eq_true_eq, List.all_eq_true] at hreclaim
      obtain ⟨⟨⟨herase, hwrite⟩, -⟩, hslots⟩ := hreclaim
      refine .content fun hrun => { archive := fun hs => ?_ }
      obtain ⟨hhead, -, -, hsectors⟩ := (State.archiveSound_iff hrun).mp hs
      refine (State.archiveSound_iff ?_).mpr ⟨hhead, ?_, fun w hw => ?_, Archive.sectors_sound_modSector hsectors ?_⟩
      · exact hrun
      · rintro _ ⟨⟩
        exact congrArg ArchiveSector.state Archive.modSector_sectors_same
      · exact absurd (hwrite.symm.trans hw) (by simp)
      · exact ArchiveSector.sound_of_released (by simp) fun j => hslots _ (by simp)
    · exact .refl s

end Erase

/-! ### The start of a write (R173) -/

section Write

variable {a a' : Archive} {i j : Sector}

/-- The slot that a write takes is in a sector that was OPEN, or was ERASED and becomes OPEN; no other sector moves. -/
theorem Archive.chooseSlot?_spec (h : a.chooseSlot? = some (a', i, j)) :
    (a.sectors[i].state = .opened ∨ a.sectors[i].state = .erased) ∧ a'.sectors[i].state = .opened
      ∧ ∀ k : Sector, i ≠ k → a'.sectors[k] = a.sectors[k] := by
  unfold Archive.chooseSlot? at h
  split at h
  · next i₀ j₀ hopen =>
    obtain ⟨rfl, rfl, rfl⟩ : a = a' ∧ i₀ = i ∧ j₀ = j := by simpa using h
    have hstate : a.sectors[i₀].state = .opened := by
      unfold Archive.openSlot? at hopen
      split at hopen
      · cases hopen
      · next k hk =>
        have hfound : a.sectors[k].state = .opened := by simpa using List.find?_some hk
        obtain ⟨_, -, hpair⟩ := Option.map_eq_some_iff.mp hopen
        rwa [← (Prod.mk.inj hpair).1]
    exact ⟨.inl hstate, hstate, fun _ _ => rfl⟩
  · split at h
    · next i₀ hfree =>
      obtain ⟨rfl, rfl, -⟩ : a.openSector i₀ = a' ∧ i₀ = i ∧ 0 = j := by simpa using h
      have hstate : a.sectors[i₀].state = .erased := by simpa using List.find?_some hfree
      refine ⟨.inr hstate, ?_, fun k hk => Archive.modSector_sectors_other hk⟩
      exact congrArg ArchiveSector.state Archive.modSector_sectors_same
    · cases h

theorem Archive.beginWrite_sectors_other {k : Sector} (h : i ≠ k) : (a.beginWrite i j).sectors[k] = a.sectors[k] :=
  Archive.modSector_sectors_other h

theorem Archive.beginWrite_matches (h : a.sectors[i].state = .opened) :
    WriteInFlight.Matches ⟨i, j⟩ (a.beginWrite i j) := by
  have hsector : (a.beginWrite i j).sectors[i]
      = if (a.sectors[i].setSlot j .writing).emptySlot?.isNone then
          { a.sectors[i].setSlot j .writing with state := .full } else a.sectors[i].setSlot j .writing :=
    Archive.modSector_sectors_same
  have hslots : (a.sectors[i].setSlot j .writing).slots[j] = .writing := Vector.getElem_set_self ..
  unfold WriteInFlight.Matches Archive.slot
  rw [hsector]
  split
  · exact ⟨rfl, hslots⟩
  · exact ⟨congrArg SectorState.holdsTickets h, hslots⟩

variable {P : ProverCond} (s : State)

theorem markHead_length (writing : Bool) (ps : List PendingTicket) : (markHead writing ps).length = ps.length := by
  cases ps <;> rfl

/-- A change of the pending queue that does not outgrow its places. -/
theorem Retained.Keeps.pendingTickets {x : Retained} {ps : List PendingTicket} {n : Nat} (ending : List Batch)
    (hending : ending = x.ending) (h : x.pendingTickets.length ≤ Config.pendingLimit → ps.length ≤ Config.pendingLimit) :
    x.Keeps { x with pendingTickets := ps, ticketCounter := n, ending := ending } := by
  subst hending
  exact { capacity := fun ⟨hqueue, hending, hpending, hcounts⟩ => ⟨hqueue, hending, h hpending, hcounts⟩ }

/-- The write of the head ticket starts (R173). -/
theorem State.keeps_startWrite {a : Archive} {i j : Sector}
    (hchoose : s.archive.chooseSlot? = some (a, i, j)) (hhead : s.ret.pendingTickets ≠ []) :
    s.Keeps P P (s.startWrite a i j) := by
  obtain ⟨hbefore, hopened, hothers⟩ := Archive.chooseSlot?_spec hchoose
  refine State.Keeps.trans (Q := P) ?_ ((State.keeps_clearAlarm _).trans (State.keeps_suspendErase _))
  refine .content fun hrun => {
    ret := .pendingTickets _ rfl fun hlen => (markHead_length ..).trans_le hlen
    archive := fun hs => ?_ }
  obtain ⟨hqueue, herase, -, hsectors⟩ := (State.archiveSound_iff hrun).mp hs
  refine (State.archiveSound_iff ?_).mpr ⟨?_, fun e he => ?_, ?_, fun k => ?_⟩
  · exact hrun
  · obtain ⟨p, ps, hps⟩ := List.exists_cons_of_ne_nil hhead
    unfold State.WritesFromTheHead at *
    rw [hps] at hqueue
    simpa [hps, markHead] using hqueue.2
  · have hmatch := herase e he
    have hne : i ≠ e.sector := by
      rintro rfl
      rw [hmatch] at hbefore
      split at hbefore <;> simp at hbefore
    unfold EraseInProgress.Matches at *
    rw [Archive.beginWrite_sectors_other hne, hothers _ hne]
    exact hmatch
  · rintro _ ⟨⟩
    exact Archive.beginWrite_matches hopened
  · by_cases hk : i = k
    · subst hk
      exact ArchiveSector.sound_of_holdsTickets (Archive.beginWrite_matches (j := j) hopened).1
    · show ((a.beginWrite i j).sectors[k]).Sound
      rw [Archive.beginWrite_sectors_other hk, hothers k hk]
      exact hsectors k

theorem State.keeps_tryStartWrite : s.Keeps P P s.tryStartWrite := by
  unfold State.tryStartWrite
  split
  · next p rest hps _ =>
    split
    · exact .refl s
    · split
      · next hchoose => exact s.keeps_startWrite hchoose (by simp [hps])
      · exact s.keeps_raiseAlarm
  · exact .refl s
  · exact .refl s

end Write

/-! ### Completions and acknowledgements (R174, R175, R178, R180) -/

section Completion

variable {P : ProverCond} (s : State)

/-- The write in flight ends: its slot takes a state, and the head of the queue leaves it or becomes QUEUED. -/
theorem State.keeps_writeEnds {w : WriteInFlight} {st : SlotState} {ps : List PendingTicket} (hw : s.write = some w)
    (hlen : ps.length ≤ s.ret.pendingTickets.length)
    (hps : s.WritesFromTheHead → ∀ p ∈ ps, p.writing = false) :
    s.Keeps P P { s with
      archive := s.archive.modSector w.sector (fun x => x.setSlot w.slot st), write := none
      ret := { s.ret with pendingTickets := ps } } := by
  refine .content fun hrun => { ret := .pendingTickets _ rfl hlen.trans, archive := fun hs => ?_ }
  obtain ⟨hqueue, herase, hwrite, hsectors⟩ := (State.archiveSound_iff hrun).mp hs
  have hholds := (hwrite w hw).1
  refine (State.archiveSound_iff ?_).mpr ⟨⟨?_, fun p hp => ?_⟩, fun e he => ?_, ?_,
    Archive.sectors_sound_modSector hsectors ?_⟩
  · exact hrun
  · cases ps with
    | nil => rfl
    | cons p ps => simpa using hps hqueue p (by simp)
  · exact hps hqueue p (List.mem_of_mem_tail hp)
  · exact (herase e he).modSector (erase_ne_write (herase e he) hholds).symm
  · rintro _ ⟨⟩
  · exact ArchiveSector.sound_of_holdsTickets hholds

theorem State.keeps_afterWrite : s.Keeps P P s.afterWrite :=
  s.keeps_tryStartWrite.trans ((State.keeps_resumeErase _).trans (State.keeps_testReclaim _))

theorem keeps_eraseCompletion : s.Keeps P P (eraseCompletion s) := by
  unfold eraseCompletion
  split
  · exact .refl s
  · next e he =>
    split
    · exact .refl s
    · next t ht =>
      refine State.Keeps.trans (Q := P) ?_ ((State.keeps_tryStartWrite _).trans (State.keeps_testReclaim _))
      refine (s.keeps_atMoment (t + e.remaining)).trans (.content fun hrun => { archive := fun hs => ?_ })
      obtain ⟨hqueue, herase, hwrite, hsectors⟩ := (State.archiveSound_iff hrun).mp hs
      refine (State.archiveSound_iff ?_).mpr ⟨hqueue, ?_, fun w hw => ?_, ?_⟩
      · exact hrun
      · rintro _ ⟨⟩
      · exact (hwrite w hw).modSector (erase_ne_write (herase e he) (hwrite w hw).1)
          (f := fun _ => ArchiveSector.erased)
      · exact Archive.sectors_sound_modSector (f := fun _ => ArchiveSector.erased) hsectors ArchiveSector.sound_erased

/-- A ticket number that is found in the archive is the number of the ticket of its slot, in a sector that holds
tickets. -/
theorem Archive.findTicket?_spec {a : Archive} {number : Nat} {ij : Sector × Sector}
    (h : a.findTicket? number = some ij) :
    a.sectors[ij.1].state.holdsTickets = true ∧ ∃ t, (a.slot ij).ticket? = some t ∧ t.number = number := by
  unfold Archive.findTicket? at h
  have hnumber : (a.ticketAt? ij).map Ticket.number = some number := by simpa using List.find?_some h
  obtain ⟨t, ht, hn⟩ := Option.map_eq_some_iff.mp hnumber
  unfold Archive.ticketAt? at ht
  split at ht
  · next hholds => exact ⟨hholds, t, ht, hn⟩
  · cases ht

/-- TICKET ACK (R180): the slot it finds is in a sector that holds tickets and is not being written. -/
theorem keeps_takeTicketAck (number : Nat) : s.Keeps P P (takeTicketAck number s).1 := by
  unfold takeTicketAck
  split
  · exact .refl s
  · split
    · next ij hfind =>
      refine State.Keeps.trans (Q := P) ?_ (State.keeps_testReclaim _)
      obtain ⟨hholds, ticket, hticket, -⟩ := Archive.findTicket?_spec hfind
      refine .content fun hrun => { archive := fun hs => ?_ }
      obtain ⟨hqueue, herase, hwrite, hsectors⟩ := (State.archiveSound_iff hrun).mp hs
      refine (State.archiveSound_iff ?_).mpr ⟨hqueue, fun e he => ?_, fun w hw => ?_,
        Archive.sectors_sound_modSector hsectors (ArchiveSector.sound_of_holdsTickets hholds)⟩
      · exact hrun
      · exact (herase e he).modSector (erase_ne_write (herase e he) hholds).symm
      · refine (hwrite w hw).setSlot fun hsame => ?_
        have hslot : s.archive.slot ij = .writing := (congrArg s.archive.slot hsame).symm.trans (hwrite w hw).2
        rw [hslot] at hticket
        cases hticket
    · split <;> exact .refl s

end Completion

end Sys2Proof.Machine
end

section
/-! What the operations of the Batch Controller and of the Sampler Controller keep (R105 to R121, R157 to R167): a batch
stays one batch under its id, and a grab that leaves the queue is taken or missed. -/

namespace Sys2Proof.Machine

set_option Elab.async false

/-! ### The live batches -/

section Live

theorem toList_map {α β : Type} (f : α → β) (x : Option α) : (x.map f).toList = x.toList.map f := by
  cases x <;> rfl

variable {s : State} {id : Nat} {f : Batch → Batch}

theorem State.liveBatches_modBatch : (s.modBatch id f).liveBatches = s.liveBatches.map (Batch.changedAt id f) := by
  unfold State.liveBatches
  rw [List.map_append, ← toList_map]
  rfl

/-- A batch that is held under an id is live under it. -/
theorem State.heldBatch?_spec {b : Batch} (h : s.heldBatch? id = some b) : b ∈ s.liveBatches ∧ b.record.id = id := by
  have hending (hb : s.ret.ending.find? (fun b => decide (b.record.id = id)) = some b) :
      b ∈ s.liveBatches ∧ b.record.id = id :=
    ⟨List.mem_append_right _ (List.mem_of_find?_eq_some hb), by simpa using List.find?_some hb⟩
  unfold State.heldBatch? at h
  split at h
  · next a ha =>
    split at h
    · next hid =>
      obtain rfl := Option.some.inj h
      exact ⟨by simp [State.liveBatches, ha], hid⟩
    · exact hending h
  · exact hending h

/-- A live batch is held under its id. -/
theorem State.heldBatch?_isSome {b : Batch} (h : b ∈ s.liveBatches) : (s.heldBatch? b.record.id).isSome = true := by
  have hending (hb : b ∈ s.ret.ending) :
      (s.ret.ending.find? (fun x => decide (x.record.id = b.record.id))).isSome = true :=
    List.find?_isSome.mpr ⟨b, hb, by simp⟩
  unfold State.liveBatches at h
  unfold State.heldBatch?
  cases ha : s.ret.active with
  | none =>
    rw [ha] at h
    exact hending (by simpa using h)
  | some a =>
    rw [ha] at h
    obtain rfl | hb : b = a ∨ b ∈ s.ret.ending := by simpa using h
    · simp
    · simp only
      split
      exacts [rfl, hending hb]

/-- A batch of this id is ACTIVE or ENDING. -/
def State.IsLive (s : State) (id : Nat) : Prop := ∃ b ∈ s.liveBatches, b.record.id = id

theorem State.liveGrabsAccounted_iff {s : State} : s.LiveGrabsAccounted ↔
    (∀ b ∈ s.liveBatches, b.sampling.due = b.sampling.taken + b.sampling.missed + s.queuedGrabs b.record.id)
      ∧ ∀ e ∈ s.smc.queue, s.IsLive e.batchId := Iff.rfl

end Live

/-! ### Batches that change under their ids -/

/-- A change of a batch that keeps its id and the agreement of its totals. -/
structure KeepsBatch (f : Batch → Batch) : Prop where
  record : ∀ b, (f b).record = b.record := by intro; rfl
  totals : ∀ b, b.TotalsAgree → (f b).TotalsAgree := by exact fun _ h => h

/-- A change of a batch that leaves its grabs as well. -/
structure KeepsGrabs (f : Batch → Batch) : Prop extends KeepsBatch f where
  due : ∀ b, (f b).sampling.due = b.sampling.due := by intro; rfl
  taken : ∀ b, (f b).sampling.taken = b.sampling.taken := by intro; rfl
  missed : ∀ b, (f b).sampling.missed = b.sampling.missed := by intro; rfl

section ModBatch

variable {P : ProverCond} {s : State} {id j : Nat} {f g : Batch → Batch}

theorem KeepsBatch.changedAt_id (h : KeepsBatch f) (b : Batch) : (Batch.changedAt id f b).record.id = b.record.id := by
  unfold Batch.changedAt
  split
  exacts [congrArg BatchRecord.id (h.record b), rfl]

theorem KeepsBatch.isLive_modBatch (h : KeepsBatch f) : (s.modBatch id f).IsLive j ↔ s.IsLive j := by
  simp [State.IsLive, State.liveBatches_modBatch, h.changedAt_id]

theorem KeepsBatch.retained (h : KeepsBatch f) (id : Nat) (x : Retained) : x.Keeps { x with
    active := x.active.map (Batch.changedAt id f), ending := x.ending.map (Batch.changedAt id f) } := by
  have hids (bs : List Batch) :
      (bs.map (Batch.changedAt id f)).map (fun b => b.record.id) = bs.map (fun b => b.record.id) := by
    simp [Function.comp_def, h.changedAt_id]
  exact {
    batchTotals := fun hx => by
      rw [toList_map, ← List.map_append]
      refine List.forall_mem_map.mpr fun b hb => ?_
      unfold Batch.changedAt
      split
      exacts [h.totals b (hx b hb), hx b hb]
    capacity := by simp [Retained.WithinCapacity]
    ids := by simp only [Retained.BatchIdsDistinct, toList_map, hids, imp_self] }

/-- A batch changes, and its grabs with the owed-grab queue: what of them fell due stays accounted for. -/
theorem State.keeps_modBatch_smc {smc : Sampler} (h : KeepsBatch f)
    (hgrabs : ∀ b ∈ s.liveBatches, b.record.id = id →
      b.sampling.due = b.sampling.taken + b.sampling.missed + s.queuedGrabs id →
      (f b).sampling.due = (f b).sampling.taken + (f b).sampling.missed
        + smc.queue.countP (fun e => decide (e.batchId = id)))
    (hothers : ∀ j ≠ id, smc.queue.countP (fun e => decide (e.batchId = j)) = s.queuedGrabs j)
    (hqueue : ∀ e ∈ smc.queue, e ∈ s.smc.queue ∨ s.IsLive e.batchId)
    (howed : s.smc.queue.length ≤ Config.owedLimit → smc.queue.length ≤ Config.owedLimit)
    (hsampler : s.SamplerSound → State.SamplerSound { s with smc := smc }) :
    s.Keeps P P { s.modBatch id f with smc := smc } := by
  refine .content fun _ => {
    ret := h.retained id s.ret, owed := howed, sampler := hsampler, grabs := fun _ ⟨hdue, hlive⟩ => ⟨?_, fun e he => ?_⟩ }
  · show ∀ b ∈ (s.modBatch id f).liveBatches, _
    rw [State.liveBatches_modBatch]
    refine List.forall_mem_map.mpr fun b hb => ?_
    show (Batch.changedAt id f b).sampling.due = (Batch.changedAt id f b).sampling.taken
      + (Batch.changedAt id f b).sampling.missed
      + smc.queue.countP (fun e => decide (e.batchId = (Batch.changedAt id f b).record.id))
    rw [h.changedAt_id]
    unfold Batch.changedAt
    split
    · next hid =>
      rw [hid]
      exact hgrabs b hb hid (hid ▸ hdue b hb)
    · next hid =>
      rw [hothers _ hid]
      exact hdue b hb
  · exact (h.isLive_modBatch (id := id)).mpr ((hqueue e he).elim (hlive e) fun hl => hl)

/-- A batch changes in what no grab is counted by. -/
theorem State.keeps_modBatch (h : KeepsGrabs f) : s.Keeps P P (s.modBatch id f) :=
  s.keeps_modBatch_smc h.toKeepsBatch (fun b _ _ hb => by rw [h.due, h.taken, h.missed]; exact hb) (fun _ _ => rfl)
    (fun _ he => .inl he) (fun hs => hs) (fun hs => hs)

theorem State.modBatch_modBatch (h : KeepsBatch f) : (s.modBatch id f).modBatch id g = s.modBatch id (g ∘ f) := by
  have hcomp : Batch.changedAt id g ∘ Batch.changedAt id f = Batch.changedAt id (g ∘ f) := by
    funext b
    by_cases hb : b.record.id = id <;> simp [Batch.changedAt, h.record, hb]
  simp [State.modBatch, State.modRet, hcomp]

/-- The sample accumulator counts no grab. -/
theorem keepsGrabs_accumulator (n : Nat) : KeepsGrabs (Batch.modSampling fun x => { x with accumulator := n }) := {}

theorem KeepsBatch.modSampling (h : Sampling → Sampling) : KeepsBatch (Batch.modSampling h) := {}

end ModBatch

/-! ### The sampler's queue (R158 to R164) -/

section Sampler

variable {P : ProverCond} (s : State)

/-- The sampler changes and its queue stands. -/
theorem State.keeps_modSmc {f : Sampler → Sampler} (hqueue : (f s.smc).queue = s.smc.queue)
    (h : s.SamplerSound → (s.modSmc f).SamplerSound) : s.Keeps P P (s.modSmc f) :=
  .content fun _ => {
    owed := fun hs => hqueue ▸ hs
    sampler := h
    grabs := fun _ ⟨hdue, hlive⟩ => ⟨fun b hb => by
      show _ = _ + (f s.smc).queue.countP _
      rw [hqueue]
      exact hdue b hb, fun e he => hlive e (hqueue ▸ he)⟩ }

/-- The head of the queue leaves it as missed. -/
theorem State.keeps_missHead {e : OwedGrab} {rest : List OwedGrab} (hq : s.smc.queue = e :: rest) :
    s.Keeps P P { s.missGrab e.batchId with smc := { s.smc with queue := rest } } := by
  refine s.keeps_modBatch_smc (.modSampling _) (fun b _ _ hb => ?_) (fun j hj => ?_) (fun x hx => ?_) (fun hs => ?_)
    (fun hs => hs)
  · simp only [Batch.modSampling, Sampling.addMissed]
    simp only [State.queuedGrabs, hq, List.countP_cons, decide_true, if_true] at hb
    omega
  · simp [State.queuedGrabs, hq, hj.symm]
  · exact .inl (by simp [hq, hx])
  · simp only [hq, List.length_cons] at hs ⊢
    omega

/-- Every entry of the queue leaves it as missed. -/
theorem State.keeps_missAll (q : List OwedGrab) (hq : s.smc.queue = q) :
    s.Keeps P P (q.foldl (fun s e => s.missGrab e.batchId) (s.modSmc (fun x => { x with queue := [] }))) := by
  induction q generalizing s with
  | nil => exact s.keeps_modSmc hq.symm fun hs => hs
  | cons e rest ih => exact (s.keeps_missHead hq).trans (ih _ rfl)

theorem State.keeps_discardQueue : s.Keeps P P s.discardQueue := by
  unfold State.discardQueue
  split
  · exact .refl s
  · exact (s.keeps_missAll _ rfl).trans (State.keeps_pulseAlarm _)

theorem State.keeps_setCanCount (c : Can) (n : Nat) : s.Keeps P P (s.setCanCount c n) := by
  cases c <;> exact .retQuiet ..

/-- While the sampler is READY no timer runs and nothing is halted. -/
theorem Sampler.Sound.of_ready {x : Sampler} (h : x.Sound) (hx : x.state = .ready) :
    x.intervalTimer = none ∧ x.swapTimer = none ∧ x.widthTimer = none ∧ x.grab = false ∧ x.haltedCan = none := by
  obtain ⟨hinterval, hswap, hgrab, hgrabbing, hhalted⟩ := h
  have hidle : x.grab = false := by
    by_contra hg
    simp [hx] at hgrabbing
    exact hg hgrabbing
  simp_all

section Ready

variable (hready : s.smc.state = .ready)

include hready

theorem State.keeps_startSwap (c : Can) : s.Keeps P P (s.startSwap c) := by
  refine .content fun hrun => { sampler := fun ⟨hs, henable⟩ => ?_ }
  obtain ⟨hinterval, -, hwidth, hgrab, hhalted⟩ := hs.of_ready hready
  obtain ⟨hoff, -⟩ := henable hrun
  refine ⟨?_, fun _ => ⟨?_, rfl⟩⟩
  · simp [Sampler.Sound, hinterval, hwidth, hgrab, hhalted]
  · simpa [hready] using hoff

theorem State.keeps_halt (c : Can) : s.Keeps P P (s.halt c) := by
  refine State.Keeps.trans (Q := P) ?_ ((State.keeps_discardQueue _).trans (State.keeps_raiseAlarm _))
  refine s.keeps_modSmc rfl fun ⟨hs, henable⟩ => ?_
  obtain ⟨hinterval, hswap, hwidth, hgrab, -⟩ := hs.of_ready hready
  refine ⟨?_, fun hrun => ⟨?_, (henable hrun).2⟩⟩
  · simp [Sampler.Sound, hinterval, hswap, hwidth, hgrab]
  · simpa [hready] using (henable hrun).1

theorem State.keeps_startGrab {e : OwedGrab} {rest : List OwedGrab} (hq : s.smc.queue = e :: rest) :
    s.Keeps P P (s.startGrab e rest) := by
  refine (s.keeps_setCanCount e.can (s.canCount e.can + 1)).trans ?_
  have hsmc : (s.setCanCount e.can (s.canCount e.can + 1)).smc = s.smc := by simp
  unfold State.startGrab
  generalize s.setCanCount e.can (s.canCount e.can + 1) = t at hsmc
  refine t.keeps_modBatch_smc (.modSampling _) (fun b _ _ hb => ?_) (fun j hj => ?_) (fun x hx => ?_) (fun hs => ?_)
    (fun ⟨hs, henable⟩ => ?_)
  · simp only [Batch.modSampling]
    simp only [State.queuedGrabs, hsmc, hq, List.countP_cons, decide_true, if_true] at hb
    omega
  · simp [State.queuedGrabs, hsmc, hq, hj.symm]
  · exact .inl (by simp_all)
  · simp only [hsmc, hq, List.length_cons] at hs ⊢
    omega
  · rw [← hsmc] at hready
    obtain ⟨-, hswap, -, -, hhalted⟩ := hs.of_ready hready
    refine ⟨?_, fun hrun => ⟨?_, (henable hrun).2⟩⟩
    · simp [Sampler.Sound, hswap, hhalted]
    · simpa [hready] using (henable hrun).1

end Ready

theorem State.keeps_examineHead : s.Keeps P P s.examineHead := by
  unfold State.examineHead
  split
  case h_1 e rest hready hq =>
    split
    · exact s.keeps_startSwap hready e.can
    · split
      · exact s.keeps_halt hready e.can
      · exact s.keeps_startGrab hready hq
  all_goals exact .refl s

/-! ### Due grabs -/

variable {s}

theorem State.isLive_dueGrab {id j : Nat} {c : Can} : (s.dueGrab id c).IsLive j ↔ s.IsLive j := by
  have hdue : (s.modBatch id (Batch.modSampling fun x => { x with due := x.due + 1 })).IsLive j ↔ s.IsLive j :=
    (KeepsBatch.modSampling _).isLive_modBatch
  unfold State.dueGrab
  split
  · refine Iff.trans ?_ hdue
    refine Iff.trans ?_ ((KeepsBatch.modSampling Sampling.addMissed).isLive_modBatch (id := id))
    simp [State.IsLive, State.liveBatches, State.missGrab]
  · exact hdue

/-- A grab of a live batch falls due (R159, R160). -/
theorem State.keeps_dueGrab {id : Nat} (c : Can) (hid : s.IsLive id) : s.Keeps P P (s.dueGrab id c) := by
  unfold State.dueGrab
  split
  · refine State.Keeps.trans (Q := P) ?_ (State.keeps_pulseAlarm _)
    unfold State.missGrab
    rw [State.modBatch_modBatch (.modSampling _)]
    refine s.keeps_modBatch_smc (smc := s.smc) {} (fun b _ _ hb => ?_) (fun _ _ => rfl) (fun _ he => .inl he)
      (fun hs => hs) (fun hs => hs)
    simp only [Batch.modSampling, Function.comp, Sampling.addMissed]
    rw [hb]
    unfold State.queuedGrabs
    omega
  · next hplace =>
    simp only [Bool.or_eq_true, decide_eq_true_eq, not_or, not_le] at hplace
    refine s.keeps_modBatch_smc (.modSampling _) (fun b _ _ hb => ?_) (fun j hj => ?_) (fun e he => ?_) (fun hs => ?_)
      (fun hs => hs)
    · simp only [Batch.modSampling, List.countP_append]
      rw [hb]
      simp [State.queuedGrabs]
      omega
    · simp [State.queuedGrabs, hj.symm]
    · obtain he | he := List.mem_append.mp he
      · exact .inl he
      · obtain rfl := List.mem_singleton.mp he
        exact .inr hid
    · simp only [List.length_append, List.length_singleton]
      exact hplace.2

theorem State.keeps_dueGrabs {id : Nat} (c : Can) (hid : s.IsLive id) (n : Nat) : s.Keeps P P (s.dueGrabs id c n) := by
  induction n generalizing s with
  | zero => exact .refl s
  | succ n ih => exact (State.keeps_dueGrab c hid).trans (ih (State.isLive_dueGrab.mpr hid))

theorem State.keeps_sampleBatch {b : Batch} (hb : s.IsLive b.record.id) (gsv : Nat) :
    s.Keeps P P (s.sampleBatch b gsv) := by
  unfold State.sampleBatch
  split
  · split
    · exact State.keeps_modBatch {}
    · exact .refl s
  · refine State.Keeps.trans (Q := P) ?_ ((State.keeps_dueGrabs _ ?_ _).trans (State.keeps_examineHead _))
    · exact State.keeps_modBatch (keepsGrabs_accumulator _)
    exact ((KeepsBatch.modSampling _).isLive_modBatch).mpr hb

theorem State.keeps_sampleCredit (target : CreditTarget) (gsv : Nat) : s.Keeps P P (s.sampleCredit target gsv) := by
  unfold State.sampleCredit
  split
  · exact .refl s
  · split
    · next id b hb =>
      exact State.keeps_sampleBatch ⟨b, (State.heldBatch?_spec hb).1, rfl⟩ gsv
    · exact .refl s

end Sampler

end Sys2Proof.Machine
end

section
/-! What the end, the close and the activation of a batch keep (R105 to R121), and what the sampler's timers, inputs and
requests keep (R162 to R166). -/

namespace Sys2Proof.Machine

set_option Elab.async false

/-! ### The close of a batch (R119 to R121) -/

section Close

variable {P : ProverCond} (s : State)

/-- Batches leave a retained content. -/
theorem Retained.Keeps.filterEnding (x : Retained) (p : Batch → Bool) {ps : List PendingTicket} {n : Nat}
    (h : ps.length ≤ Config.pendingLimit) :
    x.Keeps { x with ending := x.ending.filter p, pendingTickets := ps, ticketCounter := n } where
  batchTotals hx b hb := hx b ((List.Sublist.append_left List.filter_sublist _).subset hb)
  capacity := fun ⟨hqueue, hending, _, hcounts⟩ => ⟨hqueue, (List.length_filter_le ..).trans hending, h, hcounts⟩
  ids hx := (List.Sublist.append_left (List.filter_sublist.map _) _).nodup hx

theorem State.keeps_closeBatch {b : Batch} (hgrabs : s.queuedGrabs b.record.id = 0)
    (hplace : s.ret.pendingTickets.length < Config.pendingLimit) : s.Keeps P P (s.closeBatch b) := by
  refine State.Keeps.trans (Q := P) (.content fun hrun => ?_) ((State.keeps_addFlag _ _).trans (State.keeps_tryStartWrite _))
  refine { ret := .filterEnding s.ret _ ?_, grabs := fun _ ⟨hdue, hlive⟩ => ⟨fun x hx => ?_, fun e he => ?_⟩, archive := fun hs => ?_ }
  · simpa using hplace
  · exact hdue x ((List.Sublist.append_left List.filter_sublist _).subset hx)
  · obtain ⟨x, hx, hid⟩ := hlive e he
    refine ⟨x, ?_, hid⟩
    have hother : e.batchId ≠ b.record.id := fun h => by
      have := List.countP_eq_zero.mp hgrabs e he
      simp [h] at this
    obtain hactive | hending := List.mem_append.mp hx
    · exact List.mem_append_left _ hactive
    · exact List.mem_append_right _ (List.mem_filter.mpr ⟨hending, by simpa [hid] using hother⟩)
  · obtain ⟨⟨hhead, htail⟩, hrest⟩ := (State.archiveSound_iff hrun).mp hs
    refine (State.archiveSound_iff ?_).mpr ⟨⟨?_, fun p hp => ?_⟩, hrest⟩
    · exact hrun
    · cases hps : s.ret.pendingTickets with
      | nil => simpa [State.modRet, State.modArchive, hps] using hhead
      | cons p ps => simpa [State.modRet, State.modArchive, hps] using hhead
    · cases hps : s.ret.pendingTickets with
      | nil => simp [State.modArchive, hps] at hp
      | cons q ps =>
        have hp' : p ∈ ps ∨ p = ⟨buildTicket s.ret.ticketCounter b s.params.products[b.slot].name s.ret.runTotals, false⟩ := by
          simpa [State.modRet, State.modArchive, hps] using hp
        obtain hp' | rfl := hp'
        · exact htail p (by simpa [hps] using hp')
        · rfl

theorem State.keeps_closeTest (b : Batch) : s.Keeps P P (s.closeTest b) := by
  unfold State.closeTest
  split
  · next hready =>
    simp only [State.readyToClose, Bool.and_eq_true, decide_eq_true_eq] at hready
    split
    · next hplace =>
      split
      · exact .refl s
      · exact s.keeps_closeBatch hready.2 (by simpa [State.pendingHasPlace] using hplace)
    · exact State.keeps_modBatch {}
  · exact .refl s

theorem State.keeps_closeTests : s.Keeps P P s.closeTests :=
  State.Keeps.foldl (fun s b => s.keeps_closeTest b) _ s

/-- Starting a write marks the head of the pending queue and changes nothing else of retained content. -/
theorem State.tryStartWrite_ret : ∃ ps, s.tryStartWrite.ret = { s.ret with pendingTickets := ps } := by
  unfold State.tryStartWrite
  split
  · split
    · exact ⟨_, rfl⟩
    · split
      · exact ⟨markHead true s.ret.pendingTickets, by simp [State.startWrite]⟩
      · exact ⟨s.ret.pendingTickets, by simp⟩
  · exact ⟨_, rfl⟩
  · exact ⟨_, rfl⟩

/-- A close test leaves the queue of batches, and no batch becomes ACTIVE. -/
theorem State.closeTest_queue (b : Batch) : (s.closeTest b).ret.queue = s.ret.queue
    ∧ (s.ret.active = none → (s.closeTest b).ret.active = none) := by
  unfold State.closeTest
  split
  · split
    · split
      · exact ⟨rfl, fun h => h⟩
      · unfold State.closeBatch
        obtain ⟨ps, hps⟩ := State.tryStartWrite_ret (State.addFlag (State.modRet (State.modArchive s fun a =>
          { a with numberMark := s.ret.ticketCounter }) fun ret =>
          { ret with
            ticketCounter := nextTicketNumber s.ret.ticketCounter
            pendingTickets := ret.pendingTickets
              ++ [⟨buildTicket s.ret.ticketCounter b s.params.products[b.slot].name s.ret.runTotals, false⟩]
            ending := ret.ending.filter (fun x => decide (x.record.id ≠ b.record.id)) }) .batchClosed)
        rw [hps]
        exact ⟨rfl, fun h => h⟩
    · exact ⟨rfl, fun h => by simp [State.modBatch, h]⟩
  · exact ⟨rfl, fun h => h⟩

theorem State.closeTests_queue : s.closeTests.ret.queue = s.ret.queue
    ∧ (s.ret.active = none → s.closeTests.ret.active = none) := by
  have hfold (bs : List Batch) (s : State) : (bs.foldl State.closeTest s).ret.queue = s.ret.queue
      ∧ (s.ret.active = none → (bs.foldl State.closeTest s).ret.active = none) := by
    induction bs generalizing s with
    | nil => exact ⟨rfl, fun h => h⟩
    | cons b bs ih =>
      obtain ⟨hqueue, hactive⟩ := s.closeTest_queue b
      obtain ⟨hqueue', hactive'⟩ := ih (s.closeTest b)
      exact ⟨hqueue'.trans hqueue, hactive' ∘ hactive⟩
  exact hfold _ s

end Close

/-! ### End moment and activation (R107 to R111) -/

section EndAndStart

variable {P : ProverCond} {s : State}

/-- The ACTIVE batch moves to the end of the ending list. -/
theorem State.keeps_endActive {b : Batch} {reason : EndReason} {leaving : Option Run} (hactive : s.ret.active = some b)
    (hplace : s.ret.ending.length < Config.endingLimit) : s.Keeps P P (s.endActive b reason leaving) := by
  have hlive : s.liveBatches = b :: s.ret.ending := by simp [State.liveBatches, hactive]
  refine .content fun _ => {
    ret := { batchTotals := fun hx x hmem => ?_, capacity := fun ⟨hqueue, _, hpending, hcounts⟩ => ?_, ids := fun hx => ?_ }
    grabs := fun _ ⟨hdue, howed⟩ => ⟨fun x hmem => ?_, fun e he => ?_⟩ }
  · simp only [hactive] at hx
    have hmem : x ∈ s.ret.ending ++ [_] := hmem
    obtain hmem | hmem := List.mem_append.mp hmem
    · exact hx x (List.mem_append_right _ hmem)
    · obtain rfl := List.mem_singleton.mp hmem
      exact hx b (by simp)
  · exact ⟨hqueue, by simpa using hplace, hpending, hcounts⟩
  · unfold Retained.BatchIdsDistinct at *
    simp only [hactive] at hx
    refine (List.Perm.nodup_iff ?_).mp hx
    simp only [Option.toList_some, Option.toList_none, List.map_append, List.map_cons, List.map_nil,
      List.append_nil, List.append_assoc]
    exact List.Perm.append_left _ List.perm_append_comm
  · rw [hlive] at hdue
    have hmem : x ∈ s.ret.ending ++ [_] := hmem
    obtain hmem | hmem := List.mem_append.mp hmem
    · exact hdue x (List.mem_cons_of_mem _ hmem)
    · obtain rfl := List.mem_singleton.mp hmem
      exact hdue b List.mem_cons_self
  · obtain ⟨x, hmem, hid⟩ := howed e he
    rw [hlive] at hmem
    obtain rfl | hmem := List.mem_cons.mp hmem
    · exact ⟨_, List.mem_append_right _ (List.mem_append_right _ (List.mem_singleton.mpr rfl)), hid⟩
    · exact ⟨x, List.mem_append_right _ (List.mem_append_left _ hmem), hid⟩

theorem newBatch_totalsAgree (rec : BatchRecord) (slot : Slot) (can : Can) (start : Seconds) :
    (newBatch rec slot can start).TotalsAgree := ⟨.nil, rfl, rfl, rfl, rfl, rfl⟩

/-- The head of the queue becomes ACTIVE. -/
theorem State.keeps_activate {rec : BatchRecord} {rest : List BatchRecord} {slot : Slot} (hactive : s.ret.active = none)
    (hqueue : s.ret.queue = rec :: rest) : s.Keeps P P (s.activate rec slot) := by
  have hlive : s.liveBatches = s.ret.ending := by simp [State.liveBatches, hactive]
  refine State.Keeps.trans (Q := P) (.content fun _ => ?_) (State.keeps_clearAlarm _)
  refine {
    ret := { batchTotals := fun hx x hmem => ?_, capacity := fun ⟨hlen, hrest⟩ => ⟨?_, hrest⟩, ids := fun hx => ?_ }
    grabs := fun hids ⟨hdue, howed⟩ => ⟨fun x hmem => ?_, fun e he => ?_⟩ }
  · simp only [hactive] at hx
    obtain rfl | hmem := List.mem_cons.mp hmem
    · exact newBatch_totalsAgree ..
    · exact hx x hmem
  · exact (List.length_tail.trans_le (Nat.sub_le ..)).trans hlen
  · unfold Retained.BatchIdsDistinct at *
    simp only [hactive, hqueue] at hx
    refine (List.Perm.nodup_iff ?_).mp hx
    simpa [hqueue, newBatch] using List.perm_middle.symm
  · rw [hlive] at hdue howed
    obtain rfl | hmem := List.mem_cons.mp hmem
    · suffices hnone : s.queuedGrabs rec.id = 0 from hnone.symm.trans (Nat.zero_add _).symm
      refine List.countP_eq_zero.mpr fun e he => ?_
      obtain ⟨b, hb, hid⟩ := howed e he
      unfold Retained.BatchIdsDistinct at hids
      simp only [hactive, hqueue, Option.toList_none, List.map_nil, List.append_nil, List.map_cons,
        List.cons_append, List.nodup_cons] at hids
      have : b.record.id ≠ rec.id := fun h => hids.1 (List.mem_append_right _ (h ▸ List.mem_map_of_mem (f := fun b => b.record.id) hb))
      simpa [← hid] using this
    · exact hdue x hmem
  · obtain ⟨x, hmem, hid⟩ := howed e he
    rw [hlive] at hmem
    exact ⟨x, List.mem_append_right _ hmem, hid⟩

theorem State.startable?_spec {rec : BatchRecord} {slot : Slot} (h : s.startable? = some (rec, slot)) :
    ∃ rest, s.ret.queue = rec :: rest := by
  unfold State.startable? at h
  split at h
  · cases h
  · next r rest hq =>
    obtain ⟨_, -, hpair⟩ := Option.map_eq_some_iff.mp h
    obtain ⟨rfl, -⟩ := Prod.mk.inj hpair
    exact ⟨rest, hq⟩

end EndAndStart

/-! ### The tests of a crediting (R115 to R117) -/

section Tests

variable {P : ProverCond} (s : State)

theorem State.keeps_slowdownTest (b : Batch) : s.Keeps P P (s.slowdownTest b) := by
  unfold State.slowdownTest
  split
  · exact .refl s
  · split
    · exact State.Keeps.trans (Q := P) (.retQuiet ..) (State.keeps_addFlag ..)
    · exact .refl s

theorem State.slowdownTest_active (b : Batch) : (s.slowdownTest b).ret.active = s.ret.active := by
  unfold State.slowdownTest
  split
  · rfl
  · split <;> rfl

variable {s}

theorem State.keeps_endForTarget {b : Batch} (leaving : Option Run) (hactive : s.ret.active = some b) :
    s.Keeps P P (s.endForTarget b leaving) := by
  unfold State.endForTarget
  split
  · next hplace => exact State.keeps_endActive hactive hplace
  · exact .retQuiet ..

theorem State.keeps_targetTest {b : Batch} (leaving : Option Run) (hactive : s.ret.active = some b) :
    s.Keeps P P (s.targetTest b leaving) := by
  unfold State.targetTest
  split
  · exact .refl s
  · split
    · exact State.keeps_endForTarget leaving hactive
    · split
      · have hmark : s.Keeps P P (s.modBatch b.record.id Batch.reachedTarget) := State.keeps_modBatch {}
        have hstop : (s.modBatch b.record.id Batch.reachedTarget).Keeps P P
            ((s.modBatch b.record.id Batch.reachedTarget).modRet fun ret => { ret with stop := true }) := .retQuiet ..
        refine (hmark.trans hstop).trans ((State.keeps_addFlag _ .targetReached).trans ?_)
        exact State.keeps_endForTarget leaving
          (by simp [State.addFlag, State.modBatch, State.modRet, hactive, Batch.changedAt])
      · exact .refl s

variable (s)

theorem State.keeps_batchTests (target : CreditTarget) (leaving : Option Run) :
    s.Keeps P P (s.batchTests target leaving) := by
  unfold State.batchTests
  split
  · next b hactive =>
    split
    · exact (s.keeps_slowdownTest b).trans (State.keeps_targetTest leaving ((s.slowdownTest_active b).trans hactive))
    · exact .refl s
  · exact .refl s
  · exact .refl s

end Tests

/-! ### The requests of the Batch Controller (R105 to R110) -/

section Requests

variable {P : ProverCond} (s : State)

theorem State.holdsBatchId_eq_false {id : Nat} (h : s.holdsBatchId id = false) :
    id ∉ s.ret.queue.map BatchRecord.id ++ s.ret.active.toList.map (fun b => b.record.id)
      ++ s.ret.ending.map (fun b => b.record.id) := by
  simp only [State.holdsBatchId, Bool.or_eq_false_iff, List.any_eq_false, decide_eq_true_eq] at h
  obtain ⟨hqueue, hheld⟩ := h
  have hlive : ¬ s.IsLive id := by
    rintro ⟨b, hb, rfl⟩
    rw [State.heldBatch?_isSome hb] at hheld
    cases hheld
  intro hmem
  rw [List.append_assoc, ← List.map_append] at hmem
  obtain hmem | hmem := List.mem_append.mp hmem
  · obtain ⟨r, hr, hid⟩ := List.mem_map.mp hmem
    exact hqueue r hr hid
  · exact hlive (List.mem_map.mp hmem)

theorem keeps_takeBatchQueueAdd (rec : BatchRecord) : s.Keeps P P (takeBatchQueueAdd rec s).1 := by
  unfold takeBatchQueueAdd
  split
  · exact .refl s
  · split
    · exact .refl s
    · next hheld =>
      split
      · exact .refl s
      · next hplace =>
        split
        · exact .refl s
        · refine .content fun _ => { ret := { capacity := fun ⟨_, hrest⟩ => ⟨?_, hrest⟩, ids := fun hx => ?_ } }
          · simpa using hplace
          · have hnew := s.holdsBatchId_eq_false (Bool.eq_false_iff.mpr hheld)
            unfold Retained.BatchIdsDistinct at *
            have hcons := List.nodup_cons.mpr ⟨hnew, hx⟩
            refine (List.Perm.nodup_iff ?_).mp hcons
            simp only [List.map_append, List.map_cons, List.map_nil, List.append_assoc, List.singleton_append]
            exact List.perm_middle.symm

theorem keeps_takeBatchQueueRemove (id : Nat) : s.Keeps P P (takeBatchQueueRemove id s).1 := by
  unfold takeBatchQueueRemove
  split
  · split
    · refine .content fun _ => { ret := { capacity := fun ⟨hlen, hrest⟩ => ⟨?_, hrest⟩, ids := fun hx => ?_ } }
      · exact (List.length_filter_le ..).trans hlen
      · exact (((List.filter_sublist.map _).append_right _).append_right _).nodup hx
    · exact .refl s
  · exact .refl s

theorem keeps_takeBatchStart : s.Keeps P P (takeBatchStart s).1 := by
  unfold takeBatchStart
  split
  · exact .refl s
  · next hactive =>
    split
    · exact .refl s
    · next hstart =>
      obtain ⟨rest, hqueue⟩ := State.startable?_spec hstart
      exact State.keeps_activate (by simpa using hactive) hqueue

theorem keeps_takeBatchEnd : s.Keeps P P (takeBatchEnd s).1 := by
  unfold takeBatchEnd
  split
  · exact .refl s
  · next hactive =>
    split
    · exact .refl s
    · next hplace => exact (State.keeps_endActive hactive (not_le.mp hplace)).trans (State.keeps_closeTests _)

theorem keeps_takeBatchChange : s.Keeps P P (takeBatchChange s).1 := by
  unfold takeBatchChange
  split
  · exact .refl s
  · next b hactive =>
    split
    · exact .refl s
    · next hplace =>
      split
      · exact .refl s
      · next rec slot hstart =>
        obtain ⟨rest, hqueue⟩ := State.startable?_spec hstart
        obtain ⟨hqueue', hactive'⟩ := (s.endActive b .change none).closeTests_queue
        exact ((State.keeps_endActive hactive (not_le.mp hplace)).trans (State.keeps_closeTests _)).trans
          (State.keeps_activate (hactive' rfl) (hqueue'.trans hqueue))

end Requests

/-! ### The sampler's timers, inputs and requests (R162 to R166) -/

section SamplerEvents

variable {P : ProverCond} (s : State)

theorem keeps_widthExpiry : s.Keeps P P (widthExpiry s) := by
  unfold widthExpiry
  split
  · exact .refl s
  · next d _ =>
    refine (s.keeps_atMoment d).trans (State.keeps_modSmc _ rfl ?_)
    rintro ⟨⟨hinterval, hswap, -, -, hhalted⟩, henable⟩
    exact ⟨⟨hinterval, hswap, rfl, by simp, hhalted⟩, henable⟩

/-- A timer that leads to READY ends, and the head of the queue is served. -/
theorem State.keeps_becomeReady {f : Sampler → Sampler} (hqueue : (f s.smc).queue = s.smc.queue)
    (hsound : s.smc.Sound → (f s.smc).Sound) (hstate : (f s.smc).state = .ready) (hbefore : s.smc.Sound → s.smc.state ≠ .off)
    (hselect : (f s.smc).canSelect = s.smc.canSelect) : s.Keeps P P ((s.modSmc f).examineHead.closeTests) := by
  refine State.Keeps.trans (Q := P) ?_ ((State.keeps_examineHead _).trans (State.keeps_closeTests _))
  refine s.keeps_modSmc hqueue fun ⟨hs, henable⟩ => ⟨hsound hs, fun hrun => ?_⟩
  obtain ⟨hoff, hcan⟩ := henable hrun
  refine ⟨?_, hselect.trans hcan⟩
  have hon := hbefore hs
  simp only [State.modSmc_smc, hstate, State.modSmc_ret, reduceCtorEq, false_iff]
  exact fun h => hon (hoff.mpr h)

theorem keeps_intervalExpiry : s.Keeps P P (intervalExpiry s) := by
  unfold intervalExpiry
  split
  · exact .refl s
  · next d hd =>
    have hgrabbing (hs : s.smc.Sound) : s.smc.state = .grabbing := by simpa [hd] using hs.1
    refine (s.keeps_atMoment d).trans (State.keeps_becomeReady _ rfl (fun hs => ?_) rfl (fun hs => ?_) rfl)
    · have hstate := hgrabbing hs
      obtain ⟨-, hswap, -, -, hhalted⟩ := hs
      refine ⟨rfl, ?_, rfl, by simp, ?_⟩
      · simpa [hstate] using hswap
      · simpa [hstate] using hhalted
    · have hstate := hgrabbing hs
      simp [hstate]

theorem keeps_swapExpiry : s.Keeps P P (swapExpiry s) := by
  unfold swapExpiry
  split
  · exact .refl s
  · next d hd =>
    have hswapping (hs : s.smc.Sound) : s.smc.state = .swapping := by simpa [hd] using hs.2.1
    refine (s.keeps_atMoment d).trans (State.keeps_becomeReady _ rfl (fun hs => ?_) rfl (fun hs => ?_) rfl)
    · have hstate := hswapping hs
      obtain ⟨hinterval, -, hgrab, hgrabbing, hhalted⟩ := hs
      refine ⟨?_, rfl, hgrab, ?_, ?_⟩
      · simpa [hstate] using hinterval
      · simpa [hstate] using hgrabbing
      · simpa [hstate] using hhalted
    · have hstate := hswapping hs
      simp [hstate]

theorem State.keeps_leaveHalt : s.Keeps P P s.leaveHalt := by
  unfold State.leaveHalt
  split
  · next hstate =>
    refine State.Keeps.trans (Q := P) ?_ (State.keeps_clearAlarm _)
    refine s.keeps_modSmc rfl ?_
    rintro ⟨⟨hinterval, hswap, hgrab, hgrabbing, -⟩, henable⟩
    refine ⟨⟨?_, ?_, hgrab, ?_, rfl⟩, fun hrun => ⟨?_, (henable hrun).2⟩⟩
    · simpa [hstate] using hinterval
    · simpa [hstate] using hswap
    · simpa [hstate] using hgrabbing
    · simpa [hstate] using (henable hrun).1
  all_goals exact .refl s

theorem State.keeps_setFullInput (c : Can) (g : Sampler → InputFilter) :
    s.Keeps P P (s.modSmc (fun x => x.setFullInput c (g x))) := by
  cases c <;> exact s.keeps_modSmc rfl fun hs => hs

theorem keeps_canfullAccept (c : Can) : s.Keeps P P (canfullAccept c s) := by
  unfold canfullAccept
  split
  · exact .refl s
  · next t _ =>
    have haccept := ((s.keeps_atMoment (t + Config.slowFilter)).trans
      (State.keeps_setFullInput (P := P) _ c fun x => (x.fullInput c).accept))
    simp only
    split
    · exact haccept
    · exact haccept.trans (State.keeps_leaveHalt _)

theorem keeps_canfullInputTo (c : Can) (active : Bool) : s.Keeps P P (canfullInputTo c active s) := by
  unfold canfullInputTo
  refine State.Keeps.trans (Q := P) ?_ (State.keeps_setFullInput _ c _)
  split
  · exact keeps_canfullAccept s c
  · exact .refl s

theorem keeps_takeCanReset (number : Nat) : s.Keeps P P (takeCanReset number s).1 := by
  unfold takeCanReset
  split
  · exact .refl s
  · exact ((s.keeps_setCanCount _ 0).trans (State.keeps_leaveHalt _)).trans (State.keeps_retainedUpdate _)

theorem State.keeps_enableSampler (henable : s.ret.enable = .off) : s.Keeps P P s.enableSampler := by
  refine .content fun hrun => { sampler := ?_ }
  rintro ⟨⟨hinterval, hswap, hgrab, hgrabbing, hhalted⟩, hrunning⟩
  obtain ⟨hoff, hcan⟩ := hrunning hrun
  have hstate := hoff.mpr henable
  refine ⟨⟨?_, ?_, hgrab, ?_, ?_⟩, fun _ => ⟨by simp, hcan⟩⟩
  · simpa [hstate] using hinterval
  · simpa [hstate] using hswap
  · simpa [hstate] using hgrabbing
  · simpa [hstate] using hhalted

theorem State.keeps_disableSampler : s.Keeps P P s.disableSampler := by
  refine s.keeps_leaveHalt.trans (State.Keeps.trans (Q := P) (.content fun _ => { sampler := ?_ })
    ((State.keeps_discardQueue _).trans (State.keeps_closeTests _)))
  rintro ⟨-, hrunning⟩
  exact ⟨⟨rfl, rfl, rfl, by simp, rfl⟩, fun hrun => ⟨by simp, (hrunning hrun).2⟩⟩

theorem keeps_takeSamplerEnable (enable : Switch) : s.Keeps P P (takeSamplerEnable enable s).1 := by
  unfold takeSamplerEnable
  split
  · next henable => exact s.keeps_enableSampler henable
  · exact s.keeps_disableSampler
  · exact .refl s
  · exact .refl s

end SamplerEvents

end Sys2Proof.Machine
end

section
/-! What the Prover Sequencer keeps (Chapter 7): every operation leads from a sound sequencer to a sound one, through
conditions that hold between the changes of one event. -/

namespace Sys2Proof.Machine

set_option Elab.async false

/-! ### Conditions between two changes -/

theorem noRuns_getElem (r : Run) : noRuns[r] = false := by
  revert r
  decide

theorem noRuns_set_getElem (r q : Run) : (noRuns.set r true)[q] = decide (some r = some q) := by
  revert q r
  decide

/-- No condition. -/
def ProverSeq.Anyhow : ProverCond := fun _ _ => True

/-- A proving state whose run is routed, with the pass and the tail timer stopped: what the entry to a LAUNCH state needs. -/
def ProverSeq.Launchable : ProverCond := fun x marker =>
  (∀ r : Run, x.route[r] = decide (x.run = some r)) ∧ x.run.isSome = true ∧ x.result = none ∧ x.passTimer = none
    ∧ x.tailTimer = none ∧ marker.isSome = true

/-- A proving state that waits for no sphere and no tail pulse can launch. -/
theorem ProverSeq.SoundWith.launchable {x : ProverSeq} {marker : Option ProveMarker} (h : x.SoundWith marker)
    (hproving : x.state.proving = true) (hsphere : x.state.waitsForSphere = false) :
    ProverSeq.Launchable { x with tailTimer := none } marker := by
  obtain ⟨⟨hroute, hrun, hresult, -, hpass, -⟩, hmarker⟩ := h
  have hidle : x.state ≠ .idle := fun h => by simp [h, ProverState.proving] at hproving
  have hpending : x.state ≠ .resultPending := fun h => by simp [h, ProverState.proving] at hproving
  refine ⟨fun r => ?_, ?_, ?_, ?_, rfl, ?_⟩
  · simpa [hproving] using hroute r
  · simpa [hidle] using hrun
  · simpa [hpending] using hresult
  · simpa [hsphere] using hpass
  · simpa [hidle] using hmarker

/-- The tail timer is stopped outside the TAIL states. -/
theorem ProverSeq.SoundWith.tailTimer {x : ProverSeq} {marker : Option ProveMarker} (h : x.SoundWith marker)
    (htail : x.state.waitsForTail = false) : x.tailTimer = none := by
  obtain ⟨⟨-, -, -, -, -, htimer⟩, -⟩ := h
  simpa [htail] using htimer

section Basic

variable {P Q : ProverCond} (s : State)

theorem State.Keeps.weaken {t : State} (h : s.Keeps ProverSeq.Anyhow Q t) : s.Keeps P Q t :=
  ⟨fun hrun => { h.of_running hrun with prover := fun _ => (h.of_running hrun).prover trivial }⟩

theorem State.keeps_modPsq {f : ProverSeq → ProverSeq} (h : P s.psq s.ret.marker → Q (f s.psq) s.ret.marker) :
    s.Keeps P Q (s.modPsq f) := .content fun _ => { prover := h }

/-- A capture or a pass watch is no part of a run's counting state. -/
theorem State.keeps_armed (r : Run) (capture : RunPulse → Option Stamp) (watch : RunPulse → Option PassWatch) :
    s.Keeps P P (s.modRun r (fun x => { x with capture := capture x, watch := watch x })) :=
  s.keeps_modRun fun h => h

theorem State.keeps_dropPass : s.Keeps P P s.dropPass :=
  (s.keeps_armed s.proveRun (fun _ => none) (fun x => x.watch)).trans
    (State.keeps_armed _ s.proveRun (fun x => x.capture) (fun _ => none))

end Basic

/-! ### Completion and failure (R150, R152, R153) -/

section Completion

variable {P : ProverCond} (s : State)

/-- The marker is cleared, and what is present only outside IDLE becomes absent. -/
theorem State.keeps_completeProve (outcome : ProveOutcome) : s.Keeps P ProverSeq.SoundWith (s.completeProve outcome) := by
  refine .weaken s (State.Keeps.trans (Q := fun _ marker => marker = none) ?_ (State.keeps_modPsq _ ?_))
  · unfold State.recordOutcome
    split
    · next hmarker => exact .trans (.content fun _ => { prover := fun _ => hmarker }) (State.keeps_addFlag _ _)
    · exact .trans (.content fun _ => { prover := fun _ => rfl }) (State.keeps_addFlag _ _)
  · intro hmarker
    refine ⟨⟨fun r => ?_, rfl, rfl, rfl, rfl, rfl⟩, by rw [hmarker]; rfl⟩
    exact noRuns_getElem r

theorem State.keeps_failProve (cause : ProveCause) : s.Keeps P ProverSeq.SoundWith (s.failProve cause) :=
  (s.keeps_dropPass.trans (State.keeps_raiseAlarm _)).trans (State.keeps_completeProve _ _)

/-- A prove result changes no section but a curve (R149). -/
theorem sectionContent_setCurve {params : Params} {r : Run} {slot : Slot} {c : Curve} {ref : SectionRef}
    (h : ref.neverProved = true) : sectionContent (params.setCurve r slot c) ref = sectionContent params ref := by
  cases ref with
  | curves => simp [SectionRef.neverProved] at h
  | meter => rfl
  | products => rfl
  | productMap => rfl
  | prover => rfl
  | station => rfl

theorem State.keeps_setCurve (r : Run) (slot : Slot) (c : Curve) :
    s.Keeps P P { s with params := s.params.setCurve r slot c } :=
  .params fun _ _ _ _ hnever => sectionContent_setCurve hnever

theorem State.keeps_applyResult (res : ProveResult) (who : AcceptedBy) :
    s.Keeps P ProverSeq.SoundWith (s.applyResult res who) := by
  unfold State.applyResult
  refine State.Keeps.trans (Q := P) ?_ (State.keeps_completeProve _ _)
  have hcurve := (s.keeps_setCurve (P := P) s.proveRun s.proveSlot
    (newCurveOf s.params.curves[s.proveRun][s.proveSlot] ⟨res.rate, res.newMF⟩)).trans (State.keeps_appendAudit _
      (.proveAccepted s.proveRun s.proveSlot (replacedPoint? s.params.curves[s.proveRun][s.proveSlot] res.rate)
        ⟨res.rate, res.newMF⟩))
  split
  · exact hcurve.trans (State.keeps_modBatch {})
  · exact hcurve

end Completion

/-! ### Launches (R131, R132) -/

section Launch

variable (s : State)

theorem State.keeps_completeLaunch {travel : ProverState} (htravel : travel = .fwdTravel ∨ travel = .revTravel)
    (hstate : s.psq.state = .fwdLaunch ∨ s.psq.state = .revLaunch) :
    s.Keeps ProverSeq.SoundWith ProverSeq.SoundWith (s.completeLaunch travel) := by
  refine s.keeps_modPsq fun h => ?_
  have hproving : s.psq.state.proving = true := by obtain h | h := hstate <;> rw [h] <;> rfl
  have hsphere : s.psq.state.waitsForSphere = false := by obtain h | h := hstate <;> rw [h] <;> rfl
  have htail := h.tailTimer (by obtain h | h := hstate <;> rw [h] <;> rfl)
  obtain ⟨hroute, hrun, hresult, -, -, hmarker⟩ := h.launchable hproving hsphere
  have hroute' (r : Run) : s.psq.route[r] = decide (s.psq.run = some r) := hroute r
  obtain rfl | rfl := htravel <;>
    simp_all [ProverSeq.SoundWith, ProverSeq.Sound, ProverState.proving, ProverState.waitsForValve,
      ProverState.waitsForSphere, ProverState.waitsForTail]

theorem State.keeps_tryLaunch : s.Keeps ProverSeq.SoundWith ProverSeq.SoundWith s.tryLaunch := by
  unfold State.tryLaunch
  split
  case h_1 hstate =>
    split
    exacts [s.keeps_completeLaunch (.inl rfl) (.inl hstate), .refl s]
  case h_2 hstate =>
    split
    exacts [s.keeps_completeLaunch (.inr rfl) (.inr hstate), .refl s]
  all_goals exact .refl s

theorem State.keeps_enterLaunch (reverse : Bool) :
    s.Keeps ProverSeq.Launchable ProverSeq.SoundWith (s.enterLaunch reverse) := by
  refine State.Keeps.trans (s.keeps_modPsq ?_) (State.keeps_tryLaunch _)
  rintro ⟨hroute, hrun, hresult, hpass, htail, hmarker⟩
  cases reverse <;>
    simp_all [ProverSeq.SoundWith, ProverSeq.Sound, ProverState.proving, ProverState.waitsForValve,
      ProverState.waitsForSphere, ProverState.waitsForTail]

theorem State.keeps_tryRoute : s.Keeps ProverSeq.SoundWith ProverSeq.SoundWith s.tryRoute := by
  unfold State.tryRoute
  split
  case h_1 hstate =>
    split
    · refine State.Keeps.trans (Q := ProverSeq.Launchable) ⟨fun _ => { prover := fun h => ?_ }⟩ (s.keeps_enterLaunch false)
      have htail := h.tailTimer (by rw [hstate]; rfl)
      have hlaunch := h.launchable (by rw [hstate]; rfl) (by rw [hstate]; rfl)
      rwa [← htail] at hlaunch
    · exact .refl s
  all_goals exact .refl s

end Launch

/-! ### Results and round trips (R141 to R146) -/

section Trips

variable (s : State)

theorem State.keeps_holdResult (res : ProveResult) :
    s.Keeps ProverSeq.Launchable ProverSeq.SoundWith (s.holdResult res) := by
  refine .content fun _ => { prover := ?_ }
  rintro ⟨-, hrun, -, -, -, hmarker⟩
  exact ⟨⟨noRuns_getElem, hrun, rfl, rfl, rfl, rfl⟩, by simpa using hmarker⟩

theorem State.keeps_evaluateProve : s.Keeps ProverSeq.Launchable ProverSeq.SoundWith s.evaluateProve := by
  unfold State.evaluateProve State.succeed
  simp only
  split
  · split
    exacts [s.keeps_applyResult _ _, s.keeps_holdResult _]
  · split
    exacts [s.keeps_failProve _, s.keeps_enterLaunch false]

theorem State.keeps_completeTrip (fwd rev : PassResult) :
    s.Keeps ProverSeq.Launchable ProverSeq.SoundWith (s.completeTrip fwd rev) := by
  refine State.Keeps.trans (.content fun _ => { prover := ?_ }) (State.keeps_evaluateProve _)
  rintro ⟨hroute, hrun, hresult, hpass, htail, hmarker⟩
  exact ⟨hroute, hrun, hresult, hpass, htail, by simpa using hmarker⟩

end Trips

/-! ### Passes (R134 to R139) -/

section Passes

variable (s : State)

theorem State.keeps_endPass (tailExpired : Bool) :
    s.Keeps ProverSeq.SoundWith ProverSeq.SoundWith (s.endPass tailExpired) := by
  have hdrop : s.Keeps ProverSeq.SoundWith ProverSeq.SoundWith (s.removeWatch s.proveRun) :=
    s.keeps_armed s.proveRun (fun x => x.capture) (fun _ => none)
  have hlaunch (hstate : s.psq.state = .fwdTail ∨ s.psq.state = .revTail) :
      s.Keeps ProverSeq.SoundWith ProverSeq.Launchable
        ((s.removeWatch s.proveRun).modPsq (fun x => { x with tailTimer := none })) :=
    hdrop.trans (State.keeps_modPsq _ fun h =>
      h.launchable (by obtain h | h := hstate <;> exact h ▸ rfl) (by obtain h | h := hstate <;> exact h ▸ rfl))
  unfold State.endPass
  simp only
  split
  case h_1 hstate =>
    exact (hlaunch (.inl hstate)).trans (State.Keeps.trans (State.keeps_modPsq _ fun h => h) (State.keeps_enterLaunch _ true))
  case h_2 hstate => exact (hlaunch (.inr hstate)).trans (State.keeps_completeTrip _ _ _)
  all_goals exact .refl s

theorem State.keeps_captureReported (rep : CaptureReport) :
    s.Keeps ProverSeq.SoundWith ProverSeq.SoundWith (s.captureReported rep) := by
  unfold State.captureReported
  simp only
  split
  · exact s.keeps_modPsq fun h => h
  · exact s.keeps_modPsq fun h => h
  · exact (s.keeps_modPsq fun h => h).trans (State.keeps_endPass _ _)
  · exact (s.keeps_modPsq fun h => h).trans (State.keeps_endPass _ _)
  all_goals exact .refl s

theorem State.keeps_armAndReport (r : Run) (t : Stamp) :
    s.Keeps ProverSeq.SoundWith ProverSeq.SoundWith (s.armAndReport r t) := by
  unfold State.armAndReport State.armCapture
  split
  · next h =>
    split at h
    · obtain ⟨rfl, hrep⟩ := Prod.mk.inj h
      exact (s.keeps_armed r (fun _ => none) (fun x => x.watch)).trans (State.keeps_captureReported _ _)
    · simp at h
  · next h =>
    split at h
    · simp at h
    · obtain ⟨rfl, -⟩ := Prod.mk.inj h
      exact s.keeps_armed r (fun _ => some t) (fun x => x.watch)

theorem State.keeps_openPass {count : ProverState} (td1 : Stamp)
    (hstate : s.psq.state = .fwdTravel ∧ count = .fwdCount ∨ s.psq.state = .revTravel ∧ count = .revCount) :
    s.Keeps ProverSeq.SoundWith ProverSeq.SoundWith (s.openPass count td1) := by
  have hmove : s.Keeps ProverSeq.SoundWith ProverSeq.SoundWith (s.modPsq fun x => { x with
      state := count, pass := { CurrentPass.none with td1 := some td1 }, samples := x.samples ++ [s.takeSample] }) := by
    refine s.keeps_modPsq fun h => ?_
    obtain ⟨hfrom, rfl⟩ | ⟨hfrom, rfl⟩ := hstate <;>
      simp_all [ProverSeq.SoundWith, ProverSeq.Sound, ProverState.proving, ProverState.waitsForValve,
        ProverState.waitsForSphere, ProverState.waitsForTail]
  refine hmove.trans (State.Keeps.trans ?_ (State.keeps_armAndReport _ _ _))
  exact State.keeps_armed _ s.proveRun (fun x => x.capture) (fun x => some (x.openingMarks td1))

theorem State.keeps_closeCount {tail : ProverState} (td2 : Stamp)
    (hstate : s.psq.state = .fwdCount ∧ tail = .fwdTail ∨ s.psq.state = .revCount ∧ tail = .revTail) :
    s.Keeps ProverSeq.SoundWith ProverSeq.SoundWith (s.closeCount tail td2) := by
  have hmove : s.Keeps ProverSeq.SoundWith ProverSeq.SoundWith (s.modPsq fun x => { x with
      state := tail, passTimer := none, tailTimer := some (s.now + Config.tailTime)
      pass := { x.pass with td2 := some td2 }, samples := x.samples ++ [s.takeSample] }) := by
    refine s.keeps_modPsq fun h => ?_
    obtain ⟨hfrom, rfl⟩ | ⟨hfrom, rfl⟩ := hstate <;>
      simp_all [ProverSeq.SoundWith, ProverSeq.Sound, ProverState.proving, ProverState.waitsForValve,
        ProverState.waitsForSphere, ProverState.waitsForTail]
  refine hmove.trans (State.Keeps.trans ?_ (State.keeps_armAndReport _ _ _))
  exact State.keeps_armed _ s.proveRun (fun _ => none) (fun x => x.watch)

theorem State.keeps_actOnDetector (d : Detector) (stamp : Stamp) :
    s.Keeps ProverSeq.SoundWith ProverSeq.SoundWith (s.actOnDetector d stamp) := by
  unfold State.actOnDetector
  split
  case h_1 hstate => exact s.keeps_openPass stamp (.inl ⟨hstate, rfl⟩)
  case h_2 => exact s.keeps_failProve _
  case h_3 hstate => exact s.keeps_openPass stamp (.inr ⟨hstate, rfl⟩)
  case h_4 => exact s.keeps_failProve _
  case h_5 => exact s.keeps_failProve _
  case h_6 hstate => exact s.keeps_closeCount stamp (.inl ⟨hstate, rfl⟩)
  case h_7 => exact s.keeps_failProve _
  case h_8 hstate => exact s.keeps_closeCount stamp (.inr ⟨hstate, rfl⟩)
  all_goals exact .refl s

end Passes

/-! ### Inputs, timers and requests -/

section Events

variable (s : State)

/-- A filtered input is no part of what a sound sequencer is. -/
theorem State.keeps_setInput {P : ProverCond} (hP : P = ProverSeq.SoundWith) (i : ProverInput) (g : ProverSeq → InputFilter) :
    s.Keeps P P (s.modPsq (fun x => x.setInput i (g x))) := by
  subst hP
  cases i <;> exact s.keeps_modPsq fun h => h

theorem State.keeps_acceptInput (i : ProverInput) (since : Moment) :
    s.Keeps ProverSeq.SoundWith ProverSeq.SoundWith (s.acceptInput i since) :=
  (s.keeps_atMoment _).trans (State.keeps_setInput _ rfl i _)

theorem State.keeps_setLockout (d : Detector) (m : Option Moment) :
    s.Keeps ProverSeq.SoundWith ProverSeq.SoundWith (s.modPsq (fun x => x.setLockout d m)) := by
  cases d <;> exact s.keeps_modPsq fun h => h

theorem keeps_routeOkAccept : s.Keeps ProverSeq.SoundWith ProverSeq.SoundWith (routeOkAccept s) := by
  unfold routeOkAccept
  split
  · exact .refl s
  · next t _ =>
    have haccept := s.keeps_acceptInput .routeOk t
    simp only
    split
    · exact haccept.trans (State.keeps_tryRoute _)
    · split
      exacts [haccept.trans (State.keeps_failProve _ _), haccept]

theorem keeps_valveAccept (v : ValveSwitch) : s.Keeps ProverSeq.SoundWith ProverSeq.SoundWith (valveAccept v s) := by
  unfold valveAccept
  split
  exacts [.refl s, (s.keeps_acceptInput _ _).trans (State.keeps_tryLaunch _)]

theorem keeps_detectorAccept (d : Detector) :
    s.Keeps ProverSeq.SoundWith ProverSeq.SoundWith (detectorAccept d s) := by
  unfold detectorAccept
  split
  · exact .refl s
  · next t _ =>
    have haccept := s.keeps_acceptInput (detectorInput d) t
    simp only
    split
    · split
      · exact haccept
      · exact haccept.trans ((State.keeps_setLockout _ d _).trans (State.keeps_actOnDetector _ d _))
    · exact .refl s

theorem keeps_detectorReturn (d : Detector) :
    s.Keeps ProverSeq.SoundWith ProverSeq.SoundWith (detectorReturn d s) := by
  unfold detectorReturn
  split
  · exact .refl s
  · split
    exacts [.refl s, s.keeps_acceptInput _ _]

theorem keeps_lockoutExpiry (d : Detector) :
    s.Keeps ProverSeq.SoundWith ProverSeq.SoundWith (lockoutExpiry d s) := by
  unfold lockoutExpiry
  split
  exacts [.refl s, (s.keeps_atMoment _).trans (State.keeps_setLockout _ d none)]

theorem keeps_proverAccept (i : ProverInput) :
    s.Keeps ProverSeq.SoundWith ProverSeq.SoundWith (proverAccept i s) := by
  cases i with
  | routeOk => exact keeps_routeOkAccept s
  | valveFwd => exact keeps_valveAccept s .fwd
  | valveRev => exact keeps_valveAccept s .rev
  | det1 =>
    unfold proverAccept
    simp only
    split
    exacts [keeps_detectorAccept s .det1, keeps_detectorReturn s .det1]
  | det2 =>
    unfold proverAccept
    simp only
    split
    exacts [keeps_detectorAccept s .det2, keeps_detectorReturn s .det2]

theorem keeps_proverInputTo (i : ProverInput) (active : Bool) :
    s.Keeps ProverSeq.SoundWith ProverSeq.SoundWith (proverInputTo i active s) := by
  unfold proverInputTo
  refine State.Keeps.trans ?_ (State.keeps_setInput _ rfl i _)
  split
  exacts [keeps_proverAccept s i, .refl s]

theorem keeps_valveExpiry : s.Keeps ProverSeq.SoundWith ProverSeq.SoundWith (valveExpiry s) := by
  unfold valveExpiry
  split
  · exact .refl s
  · exact .weaken s ((s.keeps_atMoment (P := ProverSeq.Anyhow) _).trans
      ((State.keeps_modPsq (Q := ProverSeq.Anyhow) _ fun _ => trivial).trans (State.keeps_failProve _ _)))

theorem keeps_passExpiry : s.Keeps ProverSeq.SoundWith ProverSeq.SoundWith (passExpiry s) := by
  unfold passExpiry
  split
  · exact .refl s
  · exact .weaken s ((s.keeps_atMoment (P := ProverSeq.Anyhow) _).trans
      ((State.keeps_modPsq (Q := ProverSeq.Anyhow) _ fun _ => trivial).trans (State.keeps_failProve _ _)))

theorem keeps_tailExpiry : s.Keeps ProverSeq.SoundWith ProverSeq.SoundWith (tailExpiry s) := by
  unfold tailExpiry
  split
  · exact .refl s
  · next d _ =>
    exact ((s.keeps_atMoment d).trans (State.keeps_armed _ s.proveRun (fun _ => none) (fun x => x.watch))).trans
      (State.keeps_endPass _ _)

theorem State.keeps_beginProve (r : Run) (hidle : s.psq.state = .idle) :
    s.Keeps ProverSeq.SoundWith ProverSeq.SoundWith (s.beginProve r) := by
  refine State.Keeps.trans (.content fun _ => { prover := ?_ }) (State.keeps_clearAlarm _)
  rintro ⟨⟨-, -, -, -, hpass, htail⟩, -⟩
  refine ⟨⟨fun q => ?_, rfl, rfl, rfl, ?_, ?_⟩, rfl⟩
  · exact noRuns_set_getElem r q
  · exact hpass.trans (by rw [hidle]; rfl)
  · exact htail.trans (by rw [hidle]; rfl)

theorem keeps_takeProveStart (number : Nat) :
    s.Keeps ProverSeq.SoundWith ProverSeq.SoundWith (takeProveStart number s).1 := by
  unfold takeProveStart
  split
  · exact .refl s
  · split
    · exact .refl s
    · next hidle =>
      split
      · exact (s.keeps_beginProve _ (not_not.mp hidle)).trans (State.keeps_tryRoute _)
      · exact .refl s

theorem keeps_takeProveAccept : s.Keeps ProverSeq.SoundWith ProverSeq.SoundWith (takeProveAccept s).1 := by
  unfold takeProveAccept
  split
  exacts [s.keeps_applyResult _ _, .refl s]

theorem keeps_takeProveReject : s.Keeps ProverSeq.SoundWith ProverSeq.SoundWith (takeProveReject s).1 := by
  unfold takeProveReject
  split
  exacts [(s.keeps_appendAudit _).trans (State.keeps_completeProve _ _), .refl s]

theorem keeps_takeProveAbort : s.Keeps ProverSeq.SoundWith ProverSeq.SoundWith (takeProveAbort s).1 := by
  unfold takeProveAbort
  split
  exacts [s.keeps_dropPass.trans (State.keeps_completeProve _ _), .refl s]

end Events

end Sys2Proof.Machine
end

section
/-! What the pulse channels keep (sections 1.3 to 1.5): the counting state of a run within the ranges of R1. -/

namespace Sys2Proof.Machine

set_option Elab.async false

/-! ### Ranges -/

section Ranges

variable {x : RunPulse}

theorem countUp_le (n : Nat) : countUp n ≤ Config.countTop := Nat.min_le_left ..

theorem pushHistory_length (h : List HistoryEntry) (e : HistoryEntry) :
    (pushHistory h e).length = min (h.length + 1) Config.historyLimit := by
  simp only [pushHistory, List.length_append, List.length_drop, List.length_singleton, Config.historyLimit]
  omega

theorem PeriodCounts.transition_frame (c : PeriodCounts) (ch : Channel) :
    (c.transition ch).good = c.good ∧ (c.transition ch).reverse = c.reverse
      ∧ (c.transition ch).phaseErrors = c.phaseErrors := by
  cases ch <;> exact ⟨rfl, rfl, rfl⟩

theorem PeriodCounts.transition_le {c : PeriodCounts} (ch : Channel)
    (ha : c.transitionsA ≤ Config.countTop) (hb : c.transitionsB ≤ Config.countTop) :
    (c.transition ch).transitionsA ≤ Config.countTop ∧ (c.transition ch).transitionsB ≤ Config.countTop := by
  cases ch
  exacts [⟨countUp_le _, hb⟩, ⟨ha, countUp_le _⟩]

theorem RunPulse.InRange.countGood (h : x.InRange) (stamp : Stamp) : (x.countGood stamp).InRange := by
  obtain ⟨hlow, hhigh, hgood, hreverse, herrors, ha, hb, -⟩ := h
  refine ⟨hlow, hhigh, ?_⟩
  simp only [RunPulse.countGood, PeriodCounts.goodPulse, pushHistory_length]
  split
  · exact ⟨hgood, hreverse, herrors, ha, hb, Nat.min_le_right ..⟩
  · next hplace => exact ⟨not_le.mp hplace, hreverse, herrors, ha, hb, Nat.min_le_right ..⟩

theorem RunPulse.InRange.countReverse (h : x.InRange) (stamp : Stamp) : (x.countReverse stamp).InRange := by
  obtain ⟨hlow, hhigh, hgood, -, hrest⟩ := h
  exact ⟨hlow, hhigh, hgood, countUp_le _, hrest⟩

theorem RunPulse.InRange.countPhaseError (h : x.InRange) (stamp : Stamp) : (x.countPhaseError stamp).InRange := by
  obtain ⟨hlow, hhigh, hgood, hreverse, -, -, -, hhistory⟩ := h
  exact ⟨hlow, hhigh, hgood, hreverse, countUp_le _, countUp_le _, countUp_le _, hhistory⟩

theorem RunPulse.InRange.quarter {q : Int} (h : x.InRange) (hlow : -3 ≤ q) (hhigh : q ≤ 3) :
    RunPulse.InRange { x with quarter := q } := by
  obtain ⟨-, -, hrest⟩ := h
  exact ⟨hlow, hhigh, hrest⟩

theorem RunPulse.InRange.transition (h : x.InRange) (ch : Channel) (pair : LevelPair) :
    RunPulse.InRange { x with reference := pair, counts := x.counts.transition ch } := by
  obtain ⟨hlow, hhigh, hgood, hreverse, herrors, ha, hb, hhistory⟩ := h
  obtain ⟨hg, hr, he⟩ := x.counts.transition_frame ch
  obtain ⟨hta, htb⟩ := PeriodCounts.transition_le ch ha hb
  exact ⟨hlow, hhigh, hg.trans_le hgood, hr.trans_le hreverse, he.trans_le herrors, hta, htb, hhistory⟩

theorem RunPulse.InRange.setChannel (h : x.InRange) (ch : Channel) (f : InputFilter) : (x.setChannel ch f).InRange := by
  cases ch <;> exact h

theorem RunPulse.InRange.markIntegrity (h : x.InRange) : x.markIntegrity.InRange := h

theorem RunPulse.InRange.markDegraded (h : x.InRange) : x.markDegraded.InRange := by
  unfold RunPulse.markDegraded
  split
  exacts [h, h]

theorem RunPulse.InRange.zeroCounts (h : x.InRange) : RunPulse.InRange { x with counts := .zero } := by
  obtain ⟨hlow, hhigh, -, -, -, -, -, hhistory⟩ := h
  exact ⟨hlow, hhigh, Nat.zero_le _, Nat.zero_le _, Nat.zero_le _, Nat.zero_le _, Nat.zero_le _, hhistory⟩

theorem RunPulse.inRange_beginCounting (x : RunPulse) (m : Meter) (now : Moment) : (x.beginCounting m now).InRange := by
  unfold RunPulse.InRange RunPulse.beginCounting
  simp [PeriodCounts.zero]

theorem decoderStep_bounds (old new : LevelPair) : -1 ≤ decoderStep old new ∧ decoderStep old new ≤ 1 := by
  unfold decoderStep
  split
  · decide
  · split <;> decide

end Ranges

/-! ### Edges -/

section Edges

variable (s : State) (r : Run)

theorem State.keeps_goodPulse (stamp : Stamp) :
    s.Keeps ProverSeq.SoundWith ProverSeq.SoundWith (s.goodPulse r stamp) := by
  have hcount : s.Keeps ProverSeq.SoundWith ProverSeq.SoundWith (s.modRun r (fun x => x.countGood stamp)) :=
    s.keeps_modRun fun h => h.countGood stamp
  unfold State.goodPulse
  simp only
  split
  · exact hcount
  · split
    · exact (hcount.trans (State.keeps_armed _ r (fun _ => none) (fun x => x.watch))).trans
        (State.keeps_captureReported _ _)
    · exact hcount

theorem State.keeps_quarterStep {step : Int} (hstep : -1 ≤ step ∧ step ≤ 1) (stamp : Stamp) :
    s.Keeps ProverSeq.SoundWith ProverSeq.SoundWith (s.quarterStep r step stamp) := by
  unfold State.quarterStep
  simp only
  split
  · exact (s.keeps_modRun fun h => h.quarter (by decide) (by decide)).trans (State.keeps_goodPulse _ r stamp)
  · split
    · exact s.keeps_modRun fun h => (h.quarter (q := 0) (by decide) (by decide)).countReverse stamp
    · refine s.keeps_modRun fun h => h.quarter ?_ ?_
      all_goals
        obtain ⟨hlow, hhigh, -⟩ := h
        omega

theorem State.keeps_liveEdge (ch : Channel) (stamp : Stamp) :
    s.Keeps ProverSeq.SoundWith ProverSeq.SoundWith (s.liveEdge r ch stamp) := by
  unfold State.liveEdge
  split
  exacts [s.keeps_goodPulse r stamp, .refl s]

theorem State.keeps_loneEdge (ch : Channel) (stamp : Stamp) :
    s.Keeps ProverSeq.SoundWith ProverSeq.SoundWith (s.loneEdge r ch stamp) := by
  have hmove : s.Keeps ProverSeq.SoundWith ProverSeq.SoundWith
      (s.modRun r (fun x => { x with reference := x.levels, counts := x.counts.transition ch })) :=
    s.keeps_modRun fun h => h.transition ch _
  unfold State.loneEdge
  simp only
  split
  · exact hmove.trans (State.keeps_quarterStep _ r (decoderStep_bounds _ _) stamp)
  · exact hmove.trans (State.keeps_liveEdge _ r ch stamp)
  · exact hmove.trans (State.keeps_liveEdge _ r ch stamp)
  · exact hmove

theorem State.keeps_pairEdge (stamp : Stamp) :
    s.Keeps ProverSeq.SoundWith ProverSeq.SoundWith (s.pairEdge r stamp) :=
  (s.keeps_modRun fun h => h.countPhaseError stamp).trans
    ((State.keeps_liveEdge _ r .a stamp).trans (State.keeps_liveEdge _ r .b stamp))

theorem State.keeps_singleEdge (stamp : Stamp) :
    s.Keeps ProverSeq.SoundWith ProverSeq.SoundWith (s.singleEdge r stamp) := by
  unfold State.singleEdge
  split
  exacts [s.keeps_goodPulse r stamp, .refl s]

theorem State.keeps_decodeEdge (ch : Channel) (stamp : Stamp) :
    s.Keeps ProverSeq.SoundWith ProverSeq.SoundWith (s.decodeEdge r ch stamp) := by
  unfold State.decodeEdge
  split
  · exact .refl s
  · split
    exacts [s.keeps_loneEdge r _ stamp, s.keeps_singleEdge r stamp, .refl s]

theorem State.keeps_decodePair (stamp : Stamp) :
    s.Keeps ProverSeq.SoundWith ProverSeq.SoundWith (s.decodePair r stamp) := by
  unfold State.decodePair
  split
  · exact .refl s
  · split
    exacts [s.keeps_pairEdge r stamp, s.keeps_singleEdge r stamp]

theorem State.keeps_acceptChannel {P : ProverCond} (ch : Channel) (since : Moment) :
    s.Keeps P P (s.acceptChannel r ch since) :=
  (s.keeps_atMoment _).trans (State.keeps_modRun fun h => h.setChannel ch _)

theorem State.keeps_acceptAlone (ch : Channel) :
    s.Keeps ProverSeq.SoundWith ProverSeq.SoundWith (s.acceptAlone r ch) := by
  unfold State.acceptAlone
  split
  exacts [.refl s, (s.keeps_acceptChannel r ch _).trans (State.keeps_decodeEdge _ r ch _)]

theorem keeps_filterAccept (ch : Channel) :
    s.Keeps ProverSeq.SoundWith ProverSeq.SoundWith (filterAccept r ch s) := by
  unfold filterAccept
  split
  · exact .refl s
  · exact s.keeps_acceptAlone r ch
  · split
    · exact (s.keeps_acceptAlone r _).trans (State.keeps_acceptAlone _ r ch)
    · split
      · exact ((s.keeps_acceptChannel r ch _).trans (State.keeps_acceptChannel _ r _ _)).trans
          (State.keeps_decodePair _ r _)
      · exact s.keeps_acceptAlone r ch

theorem keeps_pulseInputTo (ch : Channel) (level : Bool) :
    s.Keeps ProverSeq.SoundWith ProverSeq.SoundWith (pulseInputTo r ch level s) := by
  unfold pulseInputTo
  simp only
  refine State.Keeps.trans (Q := ProverSeq.SoundWith) ?_ (State.keeps_modRun fun h => h.setChannel ch _)
  split
  exacts [keeps_filterAccept s r ch, .refl s]

end Edges

end Sys2Proof.Machine
end

section
/-! What the steps of a period and RUN SERVICE keep (Chapters 1, 4 and 5): totals that are sums, bounded remainders, and
no more net than gross standard volume. -/

namespace Sys2Proof.Machine

set_option Elab.async false

/-- A running module stays sound, its prover included. -/
abbrev State.KeepsSound (s t : State) : Prop := s.Keeps ProverSeq.SoundWith ProverSeq.SoundWith t

/-! ### Totals (R89 to R91) -/

section Totals

/-- An addition with its rollover adds to the grand figure, up to the wrap of the rollover count. -/
theorem Cumulative.grand_add (c : Cumulative) (n : Nat) :
    (c.add n).grand % (Config.rolloverLimit * 4294967296) = (c.grand + n) % (Config.rolloverLimit * 4294967296) := by
  have hwrap : (c.rollovers + 1).toNat = (c.rollovers.toNat + 1) % 4294967296 := by
    simp [BitVec.toNat_add]
  have hlt := c.rollovers.isLt
  have hlimit : Config.rolloverLimit = 100000000000000 := rfl
  unfold Cumulative.add
  split
  · simp only [Cumulative.grand, hwrap, hlimit] at *
    by_cases htop : c.rollovers.toNat + 1 = 4294967296
    · rw [htop]
      omega
    · rw [Nat.mod_eq_of_lt (a := c.rollovers.toNat + 1) (by omega)]
      omega
  · simp only [Cumulative.grand, hlimit]
    omega

/-- What a run and the station take up together leaves the station the sum of the runs. -/
theorem sumsAgree_add {station : Cumulative} {run run' : Run → Cumulative} {r : Run} {n : Nat}
    (h : sumsAgree station run) (hsame : run' r = (run r).add n) (hother : ∀ q, r ≠ q → run' q = run q) :
    sumsAgree (station.add n) run' := by
  have hrun (q : Run) : (run' q).grand % (Config.rolloverLimit * 4294967296)
      = ((run q).grand + if r = q then n else 0) % (Config.rolloverLimit * 4294967296) := by
    split
    · next hq =>
      subst hq
      rw [hsame, Cumulative.grand_add]
    · next hq =>
      rw [hother q hq]
      rfl
  have hstation := station.grand_add n
  have h0 := hrun 0
  have h1 := hrun 1
  have h2 := hrun 2
  have h3 := hrun 3
  have hone : ((if r = 0 then n else 0) + (if r = 1 then n else 0) + (if r = 2 then n else 0)
      + if r = 3 then n else 0) = n := by
    clear h0 h1 h2 h3 hrun hother hsame
    revert r
    simp [Fin.forall_fin_succ]
  unfold sumsAgree at *
  generalize Config.rolloverLimit * 4294967296 = m at *
  calc (station.add n).grand % m
      = (station.grand % m + n) % m := by rw [hstation, Nat.mod_add_mod]
    _ = ((run 0).grand + (run 1).grand + (run 2).grand + (run 3).grand + n) % m := by rw [h, Nat.mod_add_mod]
    _ = (((run 0).grand + if r = 0 then n else 0) + ((run 1).grand + if r = 1 then n else 0)
          + ((run 2).grand + if r = 2 then n else 0) + ((run 3).grand + if r = 3 then n else 0)) % m := by
        congr 1
        omega
    _ = _ := by
        rw [Nat.add_mod _ ((run 3).grand + _), ← h3, Nat.add_mod _ ((run 2).grand + _), ← h2,
          Nat.add_mod _ ((run 1).grand + _), ← h1, ← h0]
        simp only [Nat.add_mod, Nat.mod_mod]

/-- The totals of a run and of the station after one crediting. -/
theorem Retained.totalsAgree_credit {x : Retained} {r : Run} {q : Quantities} {rem : PerRun Remainders}
    {seq : PerRun Counter} {counts : PerRun PulseCounts} (h : x.TotalsAgree) :
    Retained.TotalsAgree { x with
      rem := rem, periodSeq := seq, runTotals := x.runTotals.set r (x.runTotals[r].add q)
      station := x.station.add q, pulseCounts := counts } := by
  have hsame : (x.runTotals.set r (x.runTotals[r].add q))[r] = x.runTotals[r].add q := Vector.getElem_set_self ..
  have hother (p : Run) (hp : r ≠ p) : (x.runTotals.set r (x.runTotals[r].add q))[p] = x.runTotals[p] :=
    Vector.getElem_set_ne _ _ fun hv => hp (Fin.ext hv)
  obtain ⟨hiv, hgv, hgsv, hnsv, hmass⟩ := h
  exact ⟨sumsAgree_add hiv (congrArg CumulativeTotals.iv hsame) fun p hp => congrArg CumulativeTotals.iv (hother p hp),
    sumsAgree_add hgv (congrArg CumulativeTotals.gv hsame) fun p hp => congrArg CumulativeTotals.gv (hother p hp),
    sumsAgree_add hgsv (congrArg CumulativeTotals.gsv hsame) fun p hp => congrArg CumulativeTotals.gsv (hother p hp),
    sumsAgree_add hnsv (congrArg CumulativeTotals.nsv hsame) fun p hp => congrArg CumulativeTotals.nsv (hother p hp),
    sumsAgree_add hmass (congrArg CumulativeTotals.mass hsame) fun p hp => congrArg CumulativeTotals.mass (hother p hp)⟩

end Totals

/-! ### Batches (R90) -/

section Contributions

variable {r : Run} {rec : PeriodRecord} {before after : CumulativeTotals}

/-- A contribution is credited or is opened for the run, and every other stays. -/
theorem mem_creditContributions {cs : List Contribution} {c : Contribution}
    (h : c ∈ creditContributions r rec before after cs) : c.run = r ∨ c ∈ cs := by
  induction cs with
  | nil =>
    obtain rfl := List.mem_singleton.mp h
    exact .inl rfl
  | cons d ds ih =>
    unfold creditContributions at h
    split at h
    · next hd =>
      obtain rfl | h := List.mem_cons.mp h
      exacts [.inl hd, .inr (List.mem_cons_of_mem _ h)]
    · split at h
      · obtain rfl | h := List.mem_cons.mp h
        exacts [.inl rfl, .inr h]
      · obtain rfl | h := List.mem_cons.mp h
        · exact .inr List.mem_cons_self
        · exact (ih h).imp_right (List.mem_cons_of_mem _)

theorem creditContributions_pairwise {cs : List Contribution} (h : cs.Pairwise (fun x y => x.run < y.run)) :
    (creditContributions r rec before after cs).Pairwise (fun x y => x.run < y.run) := by
  induction cs with
  | nil => exact List.pairwise_singleton ..
  | cons d ds ih =>
    obtain ⟨hd, hds⟩ := List.pairwise_cons.mp h
    unfold creditContributions
    split
    · exact List.pairwise_cons.mpr ⟨hd, hds⟩
    · next hne =>
      split
      · next hlt =>
        refine List.pairwise_cons.mpr ⟨fun c hc => ?_, h⟩
        obtain rfl | hc := List.mem_cons.mp hc
        exacts [hlt, hlt.trans (hd c hc)]
      · next hge =>
        refine List.pairwise_cons.mpr ⟨fun c hc => ?_, ih hds⟩
        obtain hc | hc := mem_creditContributions hc
        · rw [hc]
          exact lt_of_le_of_ne (not_lt.mp hge) hne
        · exact hd c hc

/-- The increments of the record join the sum of the contributions. -/
theorem creditContributions_sum {f : Quantities → Nat} (hadd : ∀ a b, f (a.add b) = f a + f b) (hzero : f .zero = 0)
    (cs : List Contribution) :
    ((creditContributions r rec before after cs).map (fun c => f c.totals)).sum
      = (cs.map (fun c => f c.totals)).sum + f rec.quantities := by
  have hnew : f ((newContribution r before).credit rec after).totals = f rec.quantities := by
    simp [Contribution.credit, newContribution, hadd, hzero]
  have hcredit (c : Contribution) : f (c.credit rec after).totals = f c.totals + f rec.quantities := hadd ..
  induction cs with
  | nil => simp [creditContributions, hnew]
  | cons d ds ih =>
    unfold creditContributions
    split
    · simp only [List.map_cons, List.sum_cons, hcredit]
      omega
    · split
      · simp only [List.map_cons, List.sum_cons, hnew]
        omega
      · simp only [List.map_cons, List.sum_cons, ih]
        omega

theorem Batch.TotalsAgree.credit {b : Batch} (h : b.TotalsAgree) : (b.credit r rec before after).TotalsAgree := by
  obtain ⟨hruns, hiv, hgv, hgsv, hnsv, hmass⟩ := h
  have hsum {f : Quantities → Nat} (hadd : ∀ a b, f (a.add b) = f a + f b) (hzero : f .zero = 0)
      (h : f b.totals = (b.contributions.map (fun c => f c.totals)).sum) :
      f (b.totals.add rec.quantities)
        = ((creditContributions r rec before after b.contributions).map (fun c => f c.totals)).sum := by
    rw [hadd, h, creditContributions_sum hadd hzero]
  exact ⟨creditContributions_pairwise hruns,
    hsum (f := Quantities.iv) (fun _ _ => rfl) rfl hiv, hsum (f := Quantities.gv) (fun _ _ => rfl) rfl hgv,
    hsum (f := Quantities.gsv) (fun _ _ => rfl) rfl hgsv, hsum (f := Quantities.nsv) (fun _ _ => rfl) rfl hnsv,
    hsum (f := Quantities.mass) (fun _ _ => rfl) rfl hmass⟩

end Contributions

/-! ### The computation (R66, R79) -/

section Computation

/-- With a factor of at most 1,000,000 and a bounded remainder the net volume is at most the gross one. -/
theorem net_le_gross {gross csw rem : Nat} (hcsw : csw ≤ 1000000) (hrem : rem < 1000000) :
    (gross * csw + rem) / 1000000 ≤ gross := by
  have hprod : gross * csw ≤ gross * 1000000 := Nat.mul_le_mul_left _ hcsw
  omega

theorem computeRecord_sound {h : Handover} {m : Meter} {curve : Curve} {pr : Product} {pl : Placement} {v : PeriodValues}
    {rem : Remainders} {seq : Counter} (hrem : rem.Bounded) : (computeRecord h m curve pr pl v rem seq).Sound := by
  obtain ⟨-, -, hnsv, -⟩ := hrem
  refine ⟨⟨?_, ?_, ?_, ?_⟩, net_le_gross (Nat.sub_le ..) hnsv⟩
  all_goals exact Nat.mod_lt _ (by decide)

/-- A change of the periods in progress that keeps them sound. -/
theorem State.keeps_modCen {P : ProverCond} {s : State} {r : Run} {f : RunCorrection → RunCorrection}
    (hcomputed : s.ret.rem[r].Bounded → (∀ c ∈ s.cen[r].computed, c.Sound) → ∀ c ∈ (f s.cen[r]).computed, c.Sound)
    (hlatest : (f s.cen[r]).latest = s.cen[r].latest) : s.Keeps P P (s.modCen r f) := by
  refine .content fun _ => { periods := fun hrem ⟨hc, hl⟩ => ⟨hrem, fun q => ?_, fun q => ?_⟩ }
  · by_cases hq : r = q
    · subst hq
      rw [modAt_same]
      exact hcomputed (hrem r) (hc r)
    · rw [modAt_other _ _ _ _ hq]
      exact hc q
  · by_cases hq : r = q
    · subst hq
      rw [modAt_same, hlatest]
      exact hl r
    · rw [modAt_other _ _ _ _ hq]
      exact hl q

variable {P : ProverCond} (s : State) (r : Run)

theorem State.keeps_computationAlarms (rec : PeriodRecord) : s.Keeps P P (s.computationAlarms r rec) := by
  unfold State.computationAlarms
  split
  · exact s.keeps_clearAlarm.trans (State.keeps_clearAlarm _)
  · exact (s.keeps_setAlarm rfl _).trans (State.keeps_setAlarm _ rfl _)

theorem keeps_computeStep : s.Keeps P P (computeStep r s) := by
  unfold computeStep
  split
  · exact .refl s
  · refine State.Keeps.trans (Q := P) (State.keeps_modCen (fun hrem _ c hc => ?_) rfl) (State.keeps_computationAlarms _ r _)
    obtain rfl := Option.some.inj hc
    exact computeRecord_sound hrem

end Computation

end Sys2Proof.Machine
end

section
/-! What the crediting of a period, its expiry and RUN SERVICE keep (R2 to R7, R89 to R93). -/

namespace Sys2Proof.Machine

set_option Elab.async false

/-! ### The crediting (R89 to R93) -/

section Crediting

variable {P : ProverCond} (s : State) (r : Run)

theorem PulseCounts.add_le (c : PulseCounts) (rec : PeriodRecord) :
    (c.add rec).good ≤ Config.pulseCountTop ∧ (c.add rec).reverse ≤ Config.pulseCountTop
      ∧ (c.add rec).phaseErrors ≤ Config.pulseCountTop :=
  ⟨Nat.min_le_left .., Nat.min_le_left .., Nat.min_le_left ..⟩

/-- A run takes up its computed period, whose remainders are bounded (R81, R84, R89). -/
theorem State.keeps_creditRun {c : ComputedPeriod} (hc : s.cen[r].computed = some c) :
    s.Keeps P P (s.creditRun r c) := by
  have hset {α : Type} (xs : PerRun α) (x : α) : (xs.set r x)[r] = x := Vector.getElem_set_self ..
  have hother {α : Type} (xs : PerRun α) (x : α) {q : Run} (hq : r ≠ q) : (xs.set r x)[q] = xs[q] :=
    Vector.getElem_set_ne _ _ fun hv => hq (Fin.ext hv)
  refine .content fun _ => {
    ret := {
      totals := fun hx => Retained.totalsAgree_credit hx
      capacity := fun ⟨hqueue, hending, hpending, hcounts⟩ => ⟨hqueue, hending, hpending, fun q => ?_⟩ }
    periods := fun hrem ⟨hcomputed, hlatest⟩ => ⟨fun q => ?_, fun q => ?_, fun q => ?_⟩ }
  · show (s.ret.pulseCounts.set r _)[q].good ≤ _ ∧ (s.ret.pulseCounts.set r _)[q].reverse ≤ _
      ∧ (s.ret.pulseCounts.set r _)[q].phaseErrors ≤ _
    by_cases hq : r = q
    · subst hq
      rw [hset]
      exact PulseCounts.add_le ..
    · rw [hother _ _ hq]
      exact hcounts q
  · show (s.ret.rem.set r c.rem)[q].Bounded
    by_cases hq : r = q
    · subst hq
      rw [hset]
      exact (hcomputed r c hc).1
    · rw [hother _ _ hq]
      exact hrem q
  · by_cases hq : r = q
    · subst hq
      rw [modAt_same]
      rintro _ ⟨⟩
    · rw [modAt_other _ _ _ _ hq]
      exact hcomputed q
  · by_cases hq : r = q
    · subst hq
      rw [modAt_same]
      rintro _ ⟨⟩
      exact (hcomputed r c hc).2
    · rw [modAt_other _ _ _ _ hq]
      exact hlatest q

theorem State.keeps_creditTarget (rec : PeriodRecord) (before : CumulativeTotals) :
    s.Keeps P P (s.creditTarget r rec before) := by
  unfold State.creditTarget
  split
  · exact State.keeps_modBatch { totals := fun _ h => h.credit }
  · have hret : s.Keeps P P (s.modRet fun ret => { ret with unbatched := ret.unbatched.add rec.quantities }) :=
      .retQuiet ..
    simp only
    split
    exacts [hret.trans (State.keeps_raiseAlarm _), hret]

/-- Every ENDING batch changes in what no grab is counted by. -/
theorem State.keeps_mapEnding {f : Batch → Batch} (h : KeepsGrabs f) :
    s.Keeps P P (s.modRet fun ret => { ret with ending := ret.ending.map f }) := by
  have hids : (s.ret.ending.map f).map (fun b => b.record.id) = s.ret.ending.map (fun b => b.record.id) := by
    simp [Function.comp_def, h.record]
  have hmem {b : Batch} (hb : b ∈ s.ret.active.toList ++ s.ret.ending.map f) :
      b ∈ s.ret.active.toList ++ s.ret.ending ∨ ∃ x ∈ s.ret.active.toList ++ s.ret.ending, f x = b := by
    obtain hb | hb := List.mem_append.mp hb
    · exact .inl (List.mem_append_left _ hb)
    · obtain ⟨x, hx, rfl⟩ := List.mem_map.mp hb
      exact .inr ⟨x, List.mem_append_right _ hx, rfl⟩
  refine .content fun _ => {
    ret := { batchTotals := fun hx b hb => ?_, capacity := by simp [Retained.WithinCapacity], ids := fun hx => ?_ }
    grabs := fun _ ⟨hdue, howed⟩ => ⟨fun b hb => ?_, fun e he => ?_⟩ }
  · obtain hb | ⟨x, hmem, rfl⟩ := hmem hb
    exacts [hx b hb, h.totals x (hx x hmem)]
  · show (_ ++ _ ++ (s.ret.ending.map f).map (fun b => b.record.id)).Nodup
    rw [hids]
    exact hx
  · obtain hb | ⟨x, hmem, rfl⟩ := hmem hb
    · exact hdue b hb
    · rw [h.due, h.taken, h.missed, h.record]
      exact hdue x hmem
  · obtain ⟨x, hx, hid⟩ := howed e he
    obtain hx | hx := List.mem_append.mp hx
    · exact ⟨x, List.mem_append_left _ hx, hid⟩
    · exact ⟨f x, List.mem_append_right _ (List.mem_map_of_mem hx), by rw [h.record, hid]⟩

theorem State.keeps_payObligation (c : ComputedPeriod) : s.Keeps P P (s.payObligation r c) := by
  unfold State.payObligation
  split
  · exact s.keeps_mapEnding {}
  · split
    exacts [State.keeps_modBatch {}, .refl s, .refl s]

theorem State.keeps_productTest (rec : PeriodRecord) : s.KeepsSound (s.productTest r rec) := by
  unfold State.productTest
  split
  exacts [s.keeps_failProve _, .refl s]

theorem State.keeps_credit {c : ComputedPeriod} (hc : s.cen[r].computed = some c) : s.KeepsSound (s.credit r c) :=
  (s.keeps_creditRun r hc).trans <| (State.keeps_creditTarget _ r _ _).trans <| (State.keeps_batchTests _ _ _).trans <|
    (State.keeps_payObligation _ r c).trans <| (State.keeps_sampleCredit _ _).trans <|
    (State.keeps_productTest _ r _).trans (State.keeps_closeTests _)

theorem State.keeps_decideFlow (rec : PeriodRecord) : s.KeepsSound (s.decideFlow r rec) := by
  unfold State.decideFlow
  split
  · exact .refl s
  · split
    · exact State.keeps_modRun fun h => h
    · have hflow : s.KeepsSound (s.modRun r fun x => { x with flow := some .noFlow }) := State.keeps_modRun fun h => h
      simp only
      split
      exacts [hflow.trans (State.keeps_failProve _ _), hflow]

theorem keeps_creditStep : s.KeepsSound (creditStep r s) := by
  unfold creditStep
  split
  · exact .refl s
  · next hc => exact (s.keeps_credit r hc).trans (State.keeps_decideFlow _ r _)

end Crediting

/-! ### The expiry (R5, R7, R14 to R18) -/

section Expiry

variable {P : ProverCond} (s : State) (r : Run)

theorem State.keeps_finishSteps : s.KeepsSound (s.finishSteps r) := by
  unfold State.finishSteps
  split
  · exact .refl s
  · exact ((keeps_computeStep s r).trans (keeps_creditStep _ r)).trans (State.keeps_settle _)

theorem State.keeps_handover (h : Handover) : s.Keeps P P (s.modCen r fun x => { x with handover := some h }) :=
  State.keeps_modCen (fun _ hc => hc) rfl

theorem State.keeps_periodAlarms : s.Keeps P P (s.periodAlarms r) := by
  unfold State.periodAlarms
  simp only
  split
  · exact ((s.keeps_setAlarm rfl _).trans (State.keeps_setAlarm _ rfl _)).trans (State.keeps_pulseAlarm _)
  · exact (s.keeps_setAlarm rfl _).trans (State.keeps_setAlarm _ rfl _)

theorem RunPulse.InRange.zeroQuarter {x : RunPulse} (h : x.InRange) : RunPulse.InRange { x with quarter := 0 } :=
  h.quarter (by decide) (by decide)

theorem State.keeps_pulseTests : s.Keeps P P (s.pulseTests r) := by
  have hstate (new : PulseState) : s.Keeps P P (s.modRun r fun x => { x with pulseState := new }) :=
    State.keeps_modRun fun h => h
  unfold State.pulseTests
  simp only
  split
  · exact ((hstate _).trans (State.keeps_modRun fun h => h.zeroQuarter)).trans (State.keeps_raiseAlarm _)
  · split
    · exact ((hstate _).trans (State.keeps_modRun fun h => h.zeroQuarter)).trans (State.keeps_clearAlarm _)
    · exact hstate _

theorem State.keeps_changeMode (mode : PulseMode) : s.Keeps P P (s.changeMode r mode) := by
  cases mode with
  | singleA =>
    exact State.Keeps.trans (Q := P) (State.keeps_modRun fun h => h.zeroQuarter) (State.keeps_clearAlarm _)
  | dual => exact State.keeps_modRun fun h => h.zeroQuarter

theorem State.keeps_judgePulses : s.Keeps P P (s.judgePulses r) := by
  unfold State.judgePulses
  split
  exacts [s.keeps_pulseTests r, s.keeps_changeMode r _]

theorem RunPulse.InRange.startPeriod {x : RunPulse} (h : x.InRange) (settings : PulseSettings) (start : Option Moment) :
    RunPulse.InRange { x with counts := .zero, settings := settings, timerFrom := start }.markDegraded :=
  RunPulse.InRange.markDegraded h.zeroCounts

theorem State.keeps_nextPeriod : s.Keeps P P (s.nextPeriod r) := State.keeps_modRun fun h => h.startPeriod _ _

theorem keeps_periodExpiry : s.KeepsSound (periodExpiry r s) := by
  unfold periodExpiry
  split
  · exact .refl s
  · exact (s.keeps_atMoment _).trans <| (State.keeps_finishSteps _ r).trans <| (State.keeps_handover _ r _).trans <|
      (State.keeps_periodAlarms _ r).trans <| (State.keeps_judgePulses _ r).trans
      (State.keeps_nextPeriod _ r)

end Expiry

/-! ### RUN SERVICE (R2 to R4) -/

section Service

variable {P : ProverCond} (s : State)

theorem State.keeps_setService (r : Run) (x : ServiceState) : s.Keeps P P (s.setService r x) := .retQuiet ..

theorem State.keeps_serviceIn (r : Run) : s.Keeps P P (s.serviceIn r) :=
  (s.keeps_setService r _).trans <|
    (State.keeps_modRun fun _ => RunPulse.inRange_beginCounting ..).trans (State.keeps_clearAlarm _)

theorem State.keeps_finalPeriod (r : Run) : s.KeepsSound (s.finalPeriod r) :=
  (s.keeps_handover r _).trans <| (State.keeps_modRun fun h => h.zeroCounts).trans <|
    (keeps_computeStep _ r).trans (keeps_creditStep _ r)

theorem State.keeps_leftService (r : Run) : s.KeepsSound (s.leftService r) := by
  unfold State.leftService
  split
  exacts [s.keeps_failProve _, .refl s]

theorem State.keeps_serviceOut (r : Run) : s.KeepsSound (s.serviceOut r) :=
  (s.keeps_finalPeriod r).trans <| (State.keeps_setService _ r _).trans <| (State.keeps_modRun fun h => h).trans <|
    (State.keeps_clearAlarm _).trans <| (State.keeps_clearAlarm _).trans <| (State.keeps_clearAlarm _).trans
    (State.keeps_leftService _ r)

theorem State.keeps_changeService (dir : Direction) (r : Run) : s.KeepsSound (s.changeService dir r).1 := by
  unfold State.changeService
  split
  · exact (s.keeps_serviceIn r).trans (State.keeps_appendAudit _ _)
  · exact (s.keeps_serviceOut r).trans (State.keeps_appendAudit _ _)
  · exact .refl s
  · exact .refl s

theorem State.keeps_changeServices (dir : Direction) (rs : List Run) : s.KeepsSound (s.changeServices dir rs).1 := by
  induction rs generalizing s with
  | nil => exact .refl s
  | cons r rs ih => exact (s.keeps_changeService dir r).trans (ih _)

theorem State.keeps_finishNamed (rs : List Run) : s.KeepsSound (s.finishNamed rs) := by
  refine State.Keeps.foldl (fun s r => ?_) rs s
  split
  exacts [s.keeps_finishSteps r, .refl s]

theorem keeps_takeRunService (runs : RunSet) (dir : Direction) : s.KeepsSound (takeRunService runs dir s).1 := by
  unfold takeRunService
  split
  · exact .refl s
  · exact (s.keeps_finishNamed _).trans (State.keeps_changeServices _ dir _)

end Service

end Sys2Proof.Machine
end

section
/-! What the Live Value Store, the Parameter Store, the Alarm Table and the station clock keep (Chapters 2, 3 and 10), and
with them every request. -/

namespace Sys2Proof.Machine

set_option Elab.async false

/-! ### Values (R26 to R38) -/

section Values

variable {P : ProverCond} (s : State)

/-- A change of values and alarms after which every value agrees with its quality alarm, or neither has moved. -/
theorem State.ValuesMoved.keeps {s t : State} (h : s.ValuesMoved t)
    (hq : ∀ v : ValueId, t.alarmRaised (qualityAlarm v) = (t.value v).notFresh
      ∨ t.alarmRaised (qualityAlarm v) = s.alarmRaised (qualityAlarm v) ∧ t.value v = s.value v) : s.Keeps P P t := by
  obtain ⟨values, alarms, flags, rfl⟩ := h
  exact .values hq

/-- After its quality alarm has followed it, a value agrees with the alarm. -/
theorem State.syncQualityAlarm_agrees (v : ValueId) :
    (s.syncQualityAlarm v).alarmRaised (qualityAlarm v) = ((s.syncQualityAlarm v).value v).notFresh := by
  have hvalue : (s.syncQualityAlarm v).value v = s.value v := by simp [State.syncQualityAlarm_eq]
  rw [hvalue]
  exact s.alarmRaised_setAlarm ..

theorem State.syncQualityAlarm_other {v w : ValueId} (h : w ≠ v) :
    (s.syncQualityAlarm v).alarmRaised (qualityAlarm w) = s.alarmRaised (qualityAlarm w)
      ∧ (s.syncQualityAlarm v).value w = s.value w := by
  rw [State.syncQualityAlarm_eq]
  exact ⟨State.alarmRaised_congr (State.alarm_moveAlarm_other _ _ _ _ fun he => h (qualityAlarm_injective he).symm), by simp⟩

theorem State.keeps_syncQualityAlarm (v : ValueId) : s.Keeps P P (s.syncQualityAlarm v) := by
  refine State.ValuesMoved.keeps (by rw [State.syncQualityAlarm_eq]; exact s.valuesMoved_moveAlarm ..) fun w => ?_
  by_cases hw : w = v
  · subst hw
    exact .inl (s.syncQualityAlarm_agrees w)
  · exact .inr (s.syncQualityAlarm_other hw)

/-- A value changes, perhaps with its clamp alarm, and its quality alarm follows. -/
theorem State.keeps_valueMove (v : ValueId) (f : LiveValue → LiveValue) (g : AlarmState → AlarmState) :
    s.Keeps P P (((s.modValue v f).moveClampAlarm v g).syncQualityAlarm v) := by
  have hmoved : s.ValuesMoved (((s.modValue v f).moveClampAlarm v g).syncQualityAlarm v) := by
    have hvalue : s.ValuesMoved (s.modValue v f) := ⟨_, _, _, rfl⟩
    rw [State.syncQualityAlarm_eq]
    exact (hvalue.trans (State.valuesMoved_moveClampAlarm ..)).trans (State.valuesMoved_moveAlarm ..)
  refine hmoved.keeps fun w => ?_
  by_cases hw : w = v
  · subst hw
    exact .inl (State.syncQualityAlarm_agrees ..)
  · obtain ⟨halarm, hvalue⟩ := State.syncQualityAlarm_other ((s.modValue v f).moveClampAlarm v g) hw
    refine .inr ⟨halarm.trans (State.alarmRaised_congr ?_), hvalue.trans ?_⟩
    · exact State.alarm_moveClampAlarm_other _ _ (clampAlarm?_ne_qualityAlarm v w)
    · rw [State.value_moveClampAlarm, State.value_modValue_other _ _ hw]

theorem State.keeps_modValue (v : ValueId) (f : LiveValue → LiveValue) :
    s.Keeps P P ((s.modValue v f).syncQualityAlarm v) := by
  have h := s.keeps_valueMove (P := P) v f id
  rwa [State.moveClampAlarm_id] at h

theorem State.keeps_applyEntries (entries : List LiveEntry) : s.Keeps P P (s.applyEntries entries) := by
  induction entries generalizing s with
  | nil => exact .refl s
  | cons e es ih =>
    unfold State.applyEntries
    split
    · rw [State.applyEntry_eq]
      exact (s.keeps_valueMove ..).trans (ih _)
    · exact ih s

theorem keeps_takeLiveValues (entries : List LiveEntry) : s.Keeps P P (takeLiveValues entries s).1 := by
  unfold takeLiveValues
  split
  exacts [.refl s, s.keeps_applyEntries entries]

theorem keeps_staleExpiry (v : ValueId) : s.Keeps P P (staleExpiry v s) := by
  unfold staleExpiry
  split
  exacts [.refl s, (s.keeps_atMoment _).trans (State.keeps_modValue _ v _)]

theorem keeps_holdExpiry (v : ValueId) : s.Keeps P P (holdExpiry v s) := by
  unfold holdExpiry
  split
  exacts [.refl s, (s.keeps_atMoment _).trans (State.keeps_modValue _ v _)]

theorem keeps_takeOverrideSet (index : Nat) (value : Int) : s.Keeps P P (takeOverrideSet index value s).1 := by
  unfold takeOverrideSet
  split
  · exact .refl s
  · split
    exacts [(s.keeps_modValue _ _).trans (State.keeps_appendAudit _ _), .refl s]

theorem keeps_takeOverrideRelease (index : Nat) : s.Keeps P P (takeOverrideRelease index s).1 := by
  unfold takeOverrideRelease
  split
  · exact .refl s
  · split
    exacts [.refl s, (s.keeps_modValue _ _).trans (State.keeps_appendAudit _ _)]

end Values

/-! ### Sections and staging (R53 to R62) -/

section Sections

/-- The reader of the items of a kind (R54). -/
def itemReader : SectionKind → List Byte → Parse StageEntry
  | .meter => readMeterItem
  | .curves => readCurveItem
  | .products => readProductItem
  | .productMap => readMappingItem
  | .prover => readProverItem
  | .station => readStationItem

/-- The item of a body is what the reader of the kind ends with, nothing after. -/
theorem itemReader_of_itemOfBody? {kind : SectionKind} {body : List Byte} {e : StageEntry}
    (h : itemOfBody? kind body = some e) : itemReader kind body = .done e [] := by
  unfold itemOfBody? at h
  simp only at h
  split at h
  · next hdone =>
    obtain rfl := Option.some.inj h
    cases kind <;> exact hdone
  all_goals cases h

/-- The items that a reader ends with are of its kind. -/
theorem itemReader_yields (kind : SectionKind) (body : List Byte) :
    (itemReader kind body).Yields (fun e : StageEntry => e.kind = kind) := by
  cases kind with
  | curves =>
    refine readThen_yields (fun _ _ => readThen_yields (fun count _ => ?_) _) _
    split
    · refine readThen_yields (fun _ rest => ?_) _
      exact readNothing_yields rfl rest
    · trivial
  | _ =>
    unfold itemReader
    repeat refine readThen_yields (fun _ _ => ?_) _
    exact (rfl : StageEntry.kind _ = _)

/-- A body that has the shape of a kind gives an item of that kind. -/
theorem itemOfBody?_kind {kind : SectionKind} {body : List Byte} {e : StageEntry} (h : itemOfBody? kind body = some e) :
    e.kind = kind := by
  have hyields := itemReader_yields kind body
  rwa [itemReader_of_itemOfBody? h] at hyields

theorem mem_runsOf_of_mem_targets {r : Run} {rs : List Run} (h : SectionRef.meter r ∉ rs.map SectionRef.meter) : r ∉ rs :=
  fun hr => h (List.mem_map_of_mem hr)

/-- A meter record set for some runs leaves the meters of the others. -/
theorem setMeters_other {p : Params} {rs : List Run} {m : Meter} {r : Run} (h : r ∉ rs) :
    (p.setMeters rs m).meter[r] = p.meter[r] := by
  have hfold (xs : PerRun Meter) : (rs.foldl (fun xs (q : Run) => xs.set q m) xs)[r] = xs[r] := by
    induction rs generalizing xs with
    | nil => rfl
    | cons q rs ih =>
      obtain ⟨hq, hrs⟩ := not_or.mp (mt List.mem_cons.mpr h)
      rw [List.foldl_cons, ih hrs]
      exact Vector.getElem_set_ne _ _ fun hv => hq (Fin.ext hv.symm)
  exact hfold p.meter

/-- A curve set for some runs leaves the curves of the others, and every other section. -/
theorem sectionContent_setCurves {p : Params} {rs : List Run} {slot : Slot} {c : Curve} {ref : SectionRef}
    (h : ref ∉ rs.map .curves) : sectionContent (p.setCurves rs slot c) ref = sectionContent p ref := by
  induction rs generalizing p with
  | nil => rfl
  | cons q rs ih =>
    rw [List.map_cons, List.mem_cons, not_or] at h
    obtain ⟨hq, hrs⟩ := h
    refine (ih hrs).trans ?_
    by_cases hnever : ref.neverProved = true
    · exact sectionContent_setCurve hnever
    · cases ref with
      | curves r =>
        have hr : q ≠ r := fun he => hq (he ▸ rfl)
        show ((modAt p.curves q _)[r]).toList.flatMap curveFields = _
        rw [modAt_other _ _ _ _ hr]
        rfl
      | _ => simp [SectionRef.neverProved] at hnever

/-- An item changes the sections of its kind and run set alone. -/
theorem sectionContent_applyItem {p q : Params} {rs : RunSet} {e : StageEntry} {ref : SectionRef} {runs : Option RunSet}
    (hruns : runs.getD noRuns = rs) (h : p.applyItem (runsOf rs) e = some q) (href : ref ∉ targetSections e.kind runs) :
    sectionContent q ref = sectionContent p ref := by
  subst hruns
  cases e with
  | meter m =>
    obtain ⟨x, -, rfl⟩ := Option.map_eq_some_iff.mp h
    cases ref with
    | meter r => exact congrArg meterFields (setMeters_other (mem_runsOf_of_mem_targets href))
    | _ => rfl
  | curve slot points =>
    simp only [Params.applyItem] at h
    split at h
    · cases h
    · split at h
      · obtain rfl := Option.some.inj h
        exact sectionContent_setCurves href
      · cases h
  | product item =>
    obtain ⟨x, -, rfl⟩ := Option.map_eq_some_iff.mp h
    cases ref with
    | products => simp [targetSections, StageEntry.kind] at href
    | _ => rfl
  | mapping code entry =>
    obtain ⟨x, -, rfl⟩ := Option.map_eq_some_iff.mp h
    cases ref with
    | productMap => simp [targetSections, StageEntry.kind] at href
    | _ => rfl
  | prover item =>
    obtain ⟨x, -, rfl⟩ := Option.map_eq_some_iff.mp h
    cases ref with
    | prover => simp [targetSections, StageEntry.kind] at href
    | _ => rfl
  | station item =>
    obtain ⟨x, -, rfl⟩ := Option.map_eq_some_iff.mp h
    cases ref with
    | station => simp [targetSections, StageEntry.kind] at href
    | _ => rfl

theorem sectionContent_applyItems {p q : Params} {runs : Option RunSet} {kind : SectionKind} {es : List StageEntry}
    {ref : SectionRef} (hkinds : ∀ e ∈ es, e.kind = kind) (h : p.applyItems (runsOf (runs.getD noRuns)) es = some q)
    (href : ref ∉ targetSections kind runs) : sectionContent q ref = sectionContent p ref := by
  induction es generalizing p with
  | nil =>
    obtain rfl := Option.some.inj h
    rfl
  | cons e es ih =>
    unfold Params.applyItems at h
    split at h
    · cases h
    · next p1 hitem =>
      obtain ⟨hkind, hrest⟩ := List.forall_mem_cons.mp hkinds
      exact (ih hrest h).trans (sectionContent_applyItem rfl hitem (hkind ▸ href))

/-- The content that a sound staging gives differs in the target sections alone (R57). -/
theorem sectionContent_newContent? {p q : Params} {st : Staging} {ref : SectionRef}
    (hkinds : ∀ e ∈ st.items, e.kind = st.kind) (h : p.newContent? st = some q)
    (href : ref ∉ targetSections st.kind st.runs) : sectionContent q ref = sectionContent p ref := by
  unfold Params.newContent? at h
  split at h
  · exact sectionContent_applyItems hkinds h href
  · cases h

variable {P : ProverCond} (s : State)

theorem keeps_takeStageOpen (kind : SectionKind) (runs : Option RunSet) (count : Nat) :
    s.Keeps P P (takeStageOpen kind runs count s).1 := by
  unfold takeStageOpen
  split
  · exact .staging fun _ => by simp [State.StagingSound]
  · exact .refl s

theorem keeps_takeStageItem (body : List Byte) : s.Keeps P P (takeStageItem body s).1 := by
  unfold takeStageItem
  split
  · exact .refl s
  · next st hst =>
    split
    · exact .refl s
    · next item hitem =>
      split
      · exact .stagingNone
      · next hplace =>
        refine .staging fun hs => ?_
        obtain ⟨hkinds, -⟩ := hs st hst
        rintro _ ⟨⟩
        refine ⟨fun e he => ?_, by simpa using hplace⟩
        obtain he | he := List.mem_append.mp he
        · exact hkinds e he
        · obtain rfl := List.mem_singleton.mp he
          exact itemOfBody?_kind hitem

theorem keeps_takeStageCancel : s.Keeps P P (takeStageCancel s).1 := by
  unfold takeStageCancel
  split
  exacts [.refl s, .stagingNone]

theorem keeps_stagingExpiry : s.Keeps P P (stagingExpiry s) := by
  unfold stagingExpiry
  split
  · exact .refl s
  · exact (s.keeps_atMoment _).trans (State.Keeps.trans .stagingNone (State.keeps_addFlag _ _))

theorem State.keeps_auditCommit (old : Params) (refs : List SectionRef) : s.Keeps P P (s.auditCommit old refs) := by
  induction refs generalizing s with
  | nil => exact .refl s
  | cons ref refs ih => exact (s.keeps_appendAudit _).trans (ih _)

theorem keeps_takeStageCommit : s.Keeps P P (takeStageCommit s).1 := by
  unfold takeStageCommit
  split
  · exact .refl s
  · next st hst =>
    split
    · exact .stagingNone
    · split
      · exact .stagingNone
      · next hsealed =>
        split
        · exact .stagingNone
        · split
          · exact .stagingNone
          · next new hnew =>
            have hparams : s.Keeps P P { s with params := new } := by
              refine .params fun hstaging hclosed ref hlocked _ => ?_
              refine sectionContent_newContent? (hstaging st hst).1 hnew fun hmem => hsealed ?_
              simp only [hclosed, decide_true, Bool.true_and]
              exact List.any_eq_true.mpr ⟨ref, hmem, hlocked⟩
            exact (hparams.trans .stagingNone).trans (State.keeps_auditCommit _ s.params _)

theorem keeps_takeLockSection (number : Nat) : s.Keeps P P (takeLockSection number s).1 := by
  unfold takeLockSection
  split
  · exact .refl s
  · split
    · exact .refl s
    · next hopen =>
      split
      · exact .refl s
      · exact (State.Keeps.locks hopen).trans (State.keeps_appendAudit _ _)

theorem keeps_takeUnlockAll : s.Keeps P P (takeUnlockAll s).1 := by
  unfold takeUnlockAll
  split
  · exact .refl s
  · next hopen => exact (State.Keeps.locks hopen).trans (State.keeps_appendAudit _ _)

end Sections

end Sys2Proof.Machine
end

section
/-! What acknowledgements, the station clock and the link keep (Chapters 10 and 11), and so every request and every event of
a running module but those of the seal. -/

namespace Sys2Proof.Machine

set_option Elab.async false

/-! ### The Alarm Table and the clock (R192, R200) -/

section Alarms

variable {P : ProverCond} (s : State)

/-- An acknowledgement leaves every condition as it is (R192). -/
theorem State.alarmRaised_ackAlarm (a b : AlarmId) : (s.ackAlarm a).alarmRaised b = s.alarmRaised b := by
  unfold State.ackAlarm
  split
  · by_cases hb : a = b
    · subst hb
      simp only [State.alarmRaised, State.alarm, Fin.getElem_fin, Vector.getElem_set_self]
      cases (s.alarms[a.index.val]).state <;> rfl
    · refine State.alarmRaised_congr ?_
      exact Vector.getElem_set_ne a.index.isLt b.index.isLt fun hv => hb (AlarmId.index_injective a b (Fin.ext hv))
  · rfl

theorem State.keeps_ackAlarm (a : AlarmId) : s.Keeps P P (s.ackAlarm a) := by
  have hmoved : s.ValuesMoved (s.ackAlarm a) ∧ ∀ v : ValueId, (s.ackAlarm a).value v = s.value v := by
    unfold State.ackAlarm
    split
    exacts [⟨⟨_, _, _, rfl⟩, fun _ => rfl⟩, ⟨.refl s, fun _ => rfl⟩]
  exact hmoved.1.keeps fun v => .inr ⟨s.alarmRaised_ackAlarm a _, hmoved.2 v⟩

theorem keeps_takeAlarmAck (mark : AckMark) (name : Option AlarmName) (run : Option Nat) :
    s.Keeps P P (takeAlarmAck mark name run s).1 := by
  unfold takeAlarmAck
  split
  exacts [.refl s, .foldl (fun s a => s.keeps_ackAlarm a) _ s]

theorem State.keeps_tickClock : s.Keeps P P s.tickClock := .clock _ _ fun _ => Nat.min_le_left ..

theorem State.keeps_writeLastSeen : s.Keeps P P s.writeLastSeen :=
  State.Keeps.trans (Q := P) (.retQuiet ..) (State.keeps_retainedUpdate _)

theorem keeps_clockSecond : s.Keeps P P (clockSecond s) := s.keeps_tickClock.trans (State.keeps_writeLastSeen _)

theorem keeps_takeSetTime (value : Nat) : s.Keeps P P (takeSetTime value s).1 := by
  unfold takeSetTime
  split
  · next htop =>
    refine State.Keeps.trans (Q := P) ?_ ((State.keeps_clearAlarm _).trans (State.keeps_retainedUpdate _))
    refine (s.keeps_appendAudit (.timeSet s.clock value)).trans ?_
    refine State.Keeps.trans (Q := P) (.clock (s.appendAudit (.timeSet s.clock value)).now s.now fun _ => htop) ?_
    exact .retQuiet ..
  · exact .refl s

end Alarms

/-! ### Every request -/

section Requests

variable (s : State)

/-- What a request's owner does to a running module keeps it sound. -/
theorem keeps_owner {c : Instr} {f : Owner} (h : Instr.taking c = .request f) : s.KeepsSound (f s).1 := by
  cases c <;> cases h
  case runService runs dir => exact keeps_takeRunService s runs dir
  case liveValues entries => exact keeps_takeLiveValues s entries
  case overrideSet index value => exact keeps_takeOverrideSet s index value
  case overrideRelease index => exact keeps_takeOverrideRelease s index
  case stageOpen kind runs count => exact keeps_takeStageOpen s kind runs count
  case stageItem body => exact keeps_takeStageItem s body
  case stageCommit => exact keeps_takeStageCommit s
  case stageCancel => exact keeps_takeStageCancel s
  case lockSection number => exact keeps_takeLockSection s number
  case unlockAll => exact keeps_takeUnlockAll s
  case freeze => exact .quiet ..
  case restart kind =>
    unfold takeRestart
    split
    exacts [.refl s, .quiet .., .quiet ..]
  case batchQueueAdd record => exact keeps_takeBatchQueueAdd s record
  case batchQueueRemove id => exact keeps_takeBatchQueueRemove s id
  case batchStart => exact keeps_takeBatchStart s
  case batchEnd => exact keeps_takeBatchEnd s
  case batchChange => exact keeps_takeBatchChange s
  case proveStart number => exact keeps_takeProveStart s number
  case proveAccept => exact keeps_takeProveAccept s
  case proveReject => exact keeps_takeProveReject s
  case proveAbort => exact keeps_takeProveAbort s
  case canReset number => exact keeps_takeCanReset s number
  case samplerEnable enable => exact keeps_takeSamplerEnable s enable
  case ticketAck number => exact keeps_takeTicketAck s number
  case alarmAck mark name run => exact keeps_takeAlarmAck s mark name run
  case status => exact .quiet ..
  case setTime value => exact keeps_takeSetTime s value
  case readValues mark indices =>
    refine .of_eq ?_
    unfold takeReadValues
    split <;> split <;> rfl
  case readSection number =>
    refine .of_eq ?_
    unfold takeReadSection
    split <;> rfl
  case readRun number =>
    refine .of_eq ?_
    unfold takeReadRun
    split <;> rfl
  case readTotals source part run batchId =>
    refine .of_eq ?_
    unfold takeReadTotals
    split
    · split
      · rfl
      · split <;> rfl
    · rfl
  case batchList => exact .refl s
  case readProve => exact .refl s
  case readSampler => exact .refl s
  case ticketRead number =>
    refine .of_eq ?_
    unfold takeTicketRead
    split
    · rfl
    · split <;> split <;> rfl
  case archiveStatus => exact .refl s
  case auditRead start =>
    refine .of_eq ?_
    unfold takeAuditRead
    rfl
  case readAlarms all => exact .refl s
  case statusMatch pairs =>
    refine .of_eq ?_
    unfold takeStatusMatch
    split <;> rfl

theorem State.keeps_request {c : Instr} {f : Owner} (h : Instr.taking c = .request f) : s.KeepsSound (s.request f) := by
  obtain heq | ⟨-, -, heq⟩ := s.request_cases f
  · exact .of_eq heq
  · rw [heq]
    exact (keeps_owner s h).trans ((State.keeps_settle _).trans (.quiet ..))

end Requests

/-! ### The link (R203 to R207) -/

section LinkEvents

variable (s : State)

theorem State.keeps_dispatch (f : Frame) : s.KeepsSound (s.dispatch f) := by
  unfold State.dispatch
  split
  · exact .refl s
  · exact .quiet ..
  · next hjudge =>
    obtain ⟨c, hc⟩ := judgeFrame_owner hjudge
    exact (keeps_owner s hc).trans (.quiet ..)

theorem State.keeps_frameComplete (f : Frame) : s.KeepsSound (s.frameComplete f) := by
  unfold State.frameComplete
  split
  exacts [.refl s, s.keeps_dispatch f, .quiet .., .refl s]

theorem State.keeps_frameByte (taken : List Byte) : s.KeepsSound (s.frameByte taken) := by
  unfold State.frameByte
  split
  · exact .quiet ..
  · split
    · exact .quiet ..
    · split
      · exact .quiet ..
      · simp only
        split
        · exact State.Keeps.trans (Q := ProverSeq.SoundWith) (.quiet ..) (State.keeps_frameComplete _ _)
        · exact .quiet ..

theorem keeps_rxCharacter (byte : Byte) (stopBit : Bool) : s.KeepsSound (rxCharacter byte stopBit s) := by
  unfold rxCharacter
  split
  · split
    · split
      exacts [.quiet .., .refl s]
    · exact s.keeps_frameByte _
  · exact .quiet ..

theorem keeps_gapExpiry : s.KeepsSound (gapExpiry s) := by
  unfold gapExpiry
  split
  exacts [.refl s, .quiet ..]

/-- The end of a reply with no restart to follow it (R206). -/
theorem keeps_transmissionComplete (h : s.link.restartMark = none) : s.KeepsSound (transmissionComplete s) := by
  unfold transmissionComplete
  rw [h]
  split
  · next hmark => cases hmark
  · exact .refl s
  · simp only
    split
    · exact .quiet ..
    · exact State.Keeps.trans (Q := ProverSeq.SoundWith) (.quiet ..) (State.keeps_dispatch _ _)

end LinkEvents

end Sys2Proof.Machine
end

section
/-! What every command keeps: an event of a running module, the level of a pin of another one, the commands of power, and
the completion of a start (section 5.6). -/

namespace Sys2Proof.Machine

set_option Elab.async false

/-! ### What a command preserves -/

/-- Every invariant is kept, and no locked section but a curve moves under a closed seal. -/
structure State.Preserves (s t : State) : Prop extends s.KeepsInvariants t where
  prover : s.ProverSound → t.ProverSound := by exact fun h => h
  sealed : s.StagingSound → s.seal = .closed → s.SameLockedSections t := by exact fun _ _ _ _ _ => rfl

section Preserves

variable {s t u : State}

theorem State.proverSound_iff (hrun : s.phase = .running) : s.ProverSound ↔ ProverSeq.SoundWith s.psq s.ret.marker := by
  unfold State.ProverSound ProverSeq.SoundWith
  simp [hrun]

/-- A command that leaves the sections as they are preserves what its two parts preserve. -/
theorem State.Preserves.trans_of_params (h : s.Preserves t) (h' : t.Preserves u) (hparams : u.params = s.params) :
    s.Preserves u := by
  refine {
    h.toKeepsInvariants.trans h'.toKeepsInvariants with
    prover := h'.prover ∘ h.prover
    sealed := fun _ _ ref _ _ => ?_ }
  rw [hparams]

theorem State.Keeps.preserves (h : s.KeepsSound t) (hrun : s.phase = .running) : s.Preserves t := by
  have hkeeps := h.of_running hrun
  exact {
    hkeeps.toKeepsInvariants with
    prover := fun hs => (State.proverSound_iff hkeeps.running).mpr (hkeeps.prover ((State.proverSound_iff hrun).mp hs))
    sealed := fun hstaging hclosed => (hkeeps.sealed hstaging hclosed).2.2 }

/-- A module that stops has fewer invariants to keep. -/
theorem State.preserves_stop {p : Phase} (hp : p ≠ .running) : s.Preserves { s with phase := p } where
  sampler := fun ⟨hs, _⟩ => ⟨hs, fun hrun => absurd hrun hp⟩
  grabs := fun ⟨hids, hdue, _⟩ => ⟨hids, hdue, fun hrun => absurd hrun hp⟩
  archive := fun ⟨_, herase, hwrite, hrest⟩ =>
    ⟨fun hrun => absurd hrun hp, herase, fun w hw => ⟨(hwrite w hw).1, fun hrun => absurd hrun hp⟩, hrest⟩
  quality := fun _ hrun => absurd hrun hp
  prover := fun ⟨hs, _⟩ => ⟨hs, fun hrun => absurd hrun hp⟩

theorem State.preserves_settle : s.Preserves s.settle := by
  have hkeeps := s.keepsInvariants_settle
  obtain ⟨_, hphase, _⟩ := s.settle_frame
  refine { hkeeps with prover := fun hs => ?_, sealed := fun _ _ ref _ _ => ?_ }
  · unfold State.ProverSound at *
    simpa using hs
  · rw [show s.settle.params = s.params by simp]

end Preserves

/-! ### Events of a running module -/

section Events

variable (s : State)

theorem keeps_writeCompletion (agrees : Bool) : s.KeepsSound (writeCompletion agrees s) := by
  unfold writeCompletion
  split
  · next w p rest hw hps =>
    split
    · refine State.Keeps.trans (Q := ProverSeq.SoundWith) (s.keeps_writeEnds hw (by simp [hps]) fun hhead q hq => ?_)
        ((State.keeps_addFlag _ .ticketStored).trans ((State.keeps_closeTests _).trans (State.keeps_afterWrite _)))
      exact hhead.2 q (by simpa [hps] using hq)
    · refine State.Keeps.trans (Q := ProverSeq.SoundWith) (s.keeps_writeEnds hw (by simp [hps, markHead]) fun hhead q hq => ?_)
        (State.keeps_afterWrite _)
      rw [hps] at hq
      obtain rfl | hq := List.mem_cons.mp hq
      · rfl
      · exact hhead.2 q (by simpa [hps] using hq)
  · exact .refl s
  · exact .refl s

/-- An event of a running module, but for those of the seal and the end of a reply. -/
theorem keeps_event {c : Instr} {f aside : State → State} (h : Instr.taking c = .event f aside)
    (hseal : c ≠ .sealChange ∧ (∀ closed, c ≠ .sealInputChange closed)) (hreply : c ≠ .transmissionComplete) :
    s.KeepsSound (f s) := by
  cases c <;> cases h
  case pulseInputChange r ch level => exact keeps_pulseInputTo s r ch level
  case pulseFilterAccept r ch => exact keeps_filterAccept s r ch
  case periodExpiry r => exact keeps_periodExpiry s r
  case periodComputation r => exact keeps_computeStep s r
  case periodCrediting r => exact keeps_creditStep s r
  case staleTimerExpiry v => exact keeps_staleExpiry s v
  case holdTimerExpiry v => exact keeps_holdExpiry s v
  case stagingInactivityExpiry => exact keeps_stagingExpiry s
  case sealInputChange closed => exact absurd rfl (hseal.2 closed)
  case sealChange => exact absurd rfl hseal.1
  case routeOkChange => exact keeps_routeOkAccept s
  case valveInputChange valve => exact keeps_valveAccept s valve
  case proverInputChange input active => exact keeps_proverInputTo s input active
  case detectorEvent d => exact keeps_detectorAccept s d
  case detectorReturnInactive d => exact keeps_detectorReturn s d
  case detectorLockoutExpiry d => exact keeps_lockoutExpiry s d
  case valveTimerExpiry => exact keeps_valveExpiry s
  case passTimerExpiry => exact keeps_passExpiry s
  case tailTimerExpiry => exact keeps_tailExpiry s
  case widthTimerExpiry => exact keeps_widthExpiry s
  case intervalTimerExpiry => exact keeps_intervalExpiry s
  case swapTimerExpiry => exact keeps_swapExpiry s
  case canfullInputChange can active => exact keeps_canfullInputTo s can active
  case canfullChange can => exact keeps_canfullAccept s can
  case writeCompletion agrees => exact keeps_writeCompletion s agrees
  case eraseCompletion => exact keeps_eraseCompletion s
  case clockSecond => exact keeps_clockSecond s
  case rxCharacter byte stopBit => exact keeps_rxCharacter s byte stopBit
  case gapTimerExpiry => exact keeps_gapExpiry s
  case transmissionComplete => exact absurd rfl hreply

variable {s}

/-- The filter of SEAL takes another state; the sections stand. -/
theorem State.preserves_sealInput (now : Moment) (f : InputFilter) :
    s.Preserves { s with now := now, sealInput := f } := {}

/-- A change of the seal is recorded, audited and followed by SEAL_OPEN. -/
theorem State.keeps_recordSeal (body : AuditBody) (x : SealState) (raised : Bool) :
    s.KeepsSound ({ s.appendAudit body with recordedSeal := x }.setAlarm (.station .sealOpen) raised) := by
  have hrecord : (s.appendAudit body).KeepsSound { s.appendAudit body with recordedSeal := x } := .quiet ..
  exact ((s.keeps_appendAudit body).trans hrecord).trans (State.keeps_setAlarm _ rfl raised)

theorem preserves_sealAccept (hrun : s.phase = .running) : s.Preserves (sealAccept s) := by
  unfold sealAccept
  split
  · exact {}
  · next t _ =>
    exact (State.preserves_sealInput _ s.sealInput.accept).trans_of_params
      ((State.keeps_recordSeal ..).preserves hrun) (by simp)

theorem preserves_sealInputTo (closed : Bool) (hrun : s.phase = .running) : s.Preserves (sealInputTo closed s) := by
  have hparams : (sealAccept s).params = s.params := by
    unfold sealAccept
    split <;> simp
  unfold sealInputTo
  simp only
  split
  · exact (preserves_sealAccept hrun).trans_of_params (State.preserves_sealInput _ _) hparams
  · exact State.preserves_sealInput _ _

theorem State.preserves_restart (kind : StartKind) (hrun : s.phase = .running) : s.Preserves (s.restart kind) := by
  have hlink : s.KeepsSound { s with link := { s.link with restartMark := none, sending := none } } := .quiet ..
  cases kind with
  | warm =>
    have hwrite : s.Preserves (State.writeLastSeen { s with link := { s.link with restartMark := none, sending := none } }) :=
      (hlink.trans (State.keeps_writeLastSeen _)).preserves hrun
    have hparams : (State.writeLastSeen
        { s with link := { s.link with restartMark := none, sending := none } }).params = s.params := by
      simp [State.writeLastSeen]
    exact hwrite.trans_of_params (State.preserves_stop (p := .starting .warm .request) (by simp)) hparams
  | cold =>
    have hbanks : s.Preserves { s with
        link := { s.link with restartMark := none, sending := none }
        bankA := { s.bankA with intact := false }, bankB := { s.bankB with intact := false } } := {}
    exact hbanks.trans_of_params (State.preserves_stop (p := .starting .cold .request) (by simp)) rfl

theorem preserves_transmissionComplete (hrun : s.phase = .running) : s.Preserves (transmissionComplete s) := by
  cases hmark : s.link.restartMark with
  | none => exact (keeps_transmissionComplete s hmark).preserves hrun
  | some kind =>
    unfold transmissionComplete
    rw [hmark]
    exact State.preserves_restart kind hrun

end Events

end Sys2Proof.Machine
end

section
/-! What the commands of power and the completion of a start keep (section 5.6), and with them the invariants of every
step. -/

namespace Sys2Proof.Machine

set_option Elab.async false

/-! ### Stops (section 5.6) -/

section Stops

variable {s : State}

/-- A command of a module that does not run: the level of a pin, or the second of the clock. -/
theorem State.preserves_aside {c : Instr} {f aside : State → State} (h : Instr.taking c = .event f aside)
    (hrun : s.phase ≠ .running) : s.Preserves (aside s) := by
  cases c <;> cases h
  case pulseInputChange r ch level =>
    refine { pulses := fun hs q => ?_ }
    by_cases hq : r = q
    · subst hq
      rw [State.modRun_pulses, modAt_same]
      exact (hs r).setChannel ch _
    · rw [State.modRun_pulses, modAt_other _ _ _ _ hq]
      exact hs q
  case proverInputChange input active =>
    cases input <;> exact { prover := fun ⟨hs, _⟩ => ⟨hs, fun h => absurd h hrun⟩ }
  case canfullInputChange can active =>
    cases can <;> exact {
      capacity := fun hs => hs
      sampler := fun ⟨hs, _⟩ => ⟨hs, fun h => absurd h hrun⟩
      grabs := fun ⟨hids, hdue, _⟩ => ⟨hids, hdue, fun h => absurd h hrun⟩ }
  case clockSecond =>
    exact { capacity := fun ⟨hcap, hqueue, _⟩ => ⟨hcap, hqueue, Nat.min_le_left ..⟩ }
  all_goals exact {}

theorem State.preserves_writeAfterValid (hrun : s.phase ≠ .running) {w : WriteInFlight} {t : Ticket}
    (hw : s.write = some w) :
    s.Preserves (s.modArchive (fun a => a.modSector w.sector (fun x => x.setSlot w.slot (.valid t)))) := by
  refine { archive := fun ⟨_, herase, hwrite, hempty, hreleased⟩ => ?_ }
  have hholds : s.archive.sectors[w.sector].state.holdsTickets = true := (hwrite w hw).1
  have hsound : ∀ k : Sector, s.archive.sectors[k].Sound := fun k =>
    ⟨fun hk j => hempty k j hk, fun hk j => hreleased k j hk⟩
  have hsound' := Archive.sectors_sound_modSector (f := fun x => x.setSlot w.slot (.valid t)) hsound
    (ArchiveSector.sound_of_holdsTickets hholds)
  refine ⟨fun h => absurd h hrun, fun e he => ?_, fun v hv => ⟨?_, fun h => absurd h hrun⟩,
    fun i j hi => (hsound' i).1 hi j, fun i j hi => (hsound' i).2 hi j⟩
  · have hmatch : e.Matches s.archive := herase e he
    exact hmatch.modSector (erase_ne_write hmatch hholds).symm
  · obtain rfl := Option.some.inj (hw.symm.trans hv)
    rw [State.modArchive_archive, Archive.modSector_sectors_same]
    exact hholds

theorem State.preserves_struck (strike : Strike) (hrun : s.phase ≠ .running) : s.Preserves (s.struck strike) := by
  cases strike with
  | nothing => exact {}
  | retainedUpdate =>
    unfold State.struck
    simp only
    split <;> exact {}
  | auditAppend => exact { audit := fun hs => (List.filter_sublist.map _).nodup hs }
  | closeAfterMark =>
    unfold State.struck
    simp only
    split <;> exact {}
  | writeAfterValid =>
    unfold State.struck
    simp only
    split
    · next w p ps hw _ => exact State.preserves_writeAfterValid hrun hw
    · exact {}
    · exact {}

theorem State.struck_stopped (strike : Strike) (p : Phase) :
    { s.struck strike with phase := p } = State.struck { s with phase := p } strike := by
  cases strike with
  | nothing | auditAppend => rfl
  | retainedUpdate =>
    unfold State.struck
    simp only
    split <;> rfl
  | closeAfterMark =>
    unfold State.struck
    simp only
    split <;> rfl
  | writeAfterValid =>
    unfold State.struck
    simp only
    split <;> rfl

theorem State.struck_params (strike : Strike) : (s.struck strike).params = s.params := by
  unfold State.struck
  split
  · rfl
  · split <;> rfl
  · rfl
  · split <;> rfl
  · split <;> rfl

theorem State.preserves_halted (strike : Strike) : s.Preserves (s.halted strike) := by
  have hstop : s.Preserves { s.struck strike with phase := .stopped } := by
    rw [State.struck_stopped]
    exact (State.preserves_stop (p := .stopped) (by simp)).trans_of_params
      (State.preserves_struck strike (by simp)) (State.struck_params strike)
  unfold State.halted
  split
  exacts [{}, hstop, hstop]

theorem State.halted_params (strike : Strike) : (s.halted strike).params = s.params := by
  unfold State.halted
  split
  exacts [rfl, State.struck_params strike, State.struck_params strike]

/-- A start takes the content of the bank it goes on from (R97). -/
theorem State.preserves_beginStart : s.Preserves s.beginStart := by
  unfold State.beginStart
  split
  · next bank _ =>
    have hcopies (p : Retained → Prop) (hs : ∀ x ∈ s.copies, p x) :
        ∀ x ∈ [s.bankContent bank, s.bankA.content, s.bankB.content], p x := by
      obtain ⟨-, ha, hb⟩ := State.forall_copies_iff.mp hs
      cases bank
      exacts [List.forall_mem_cons.mpr ⟨ha, by simp [ha, hb]⟩, List.forall_mem_cons.mpr ⟨hb, by simp [ha, hb]⟩]
    refine State.Preserves.trans_of_params (State.preserves_stop (p := .starting .warm .reset) (by simp)) ?_ rfl
    exact {
      totals := hcopies Retained.TotalsAgree
      batchTotals := hcopies fun x => ∀ b ∈ x.active.toList ++ x.ending, b.TotalsAgree
      periods := fun ⟨hrem, hrecs⟩ => ⟨hcopies (fun x => ∀ r : Run, x.rem[r].Bounded) hrem, hrecs⟩
      capacity := fun ⟨hcap, hrest⟩ => ⟨hcopies Retained.WithinCapacity hcap, hrest⟩
      sampler := fun ⟨hs, _⟩ => ⟨hs, nofun⟩
      ids := hcopies Retained.BatchIdsDistinct
      grabs := fun ⟨hids, hdue, _⟩ =>
        ⟨hcopies Retained.BatchIdsDistinct hids, hcopies Retained.GrabsWithinDue hdue, nofun⟩
      archive := fun ⟨_, hrest⟩ => ⟨nofun, hrest⟩
      prover := fun ⟨hs, _⟩ => ⟨hs, nofun⟩ }
  · exact State.preserves_stop (by simp)

theorem State.preserves_withPower (held : Bool) : s.Preserves (s.withPower held) := by
  cases held <;> exact {}

theorem State.beginStart_params : s.beginStart.params = s.params := by
  unfold State.beginStart
  split <;> rfl

end Stops

end Sys2Proof.Machine
end

section
/-! What the completion of a start establishes and keeps (R97 to R100 and the start behaviour of every chapter). -/

namespace Sys2Proof.Machine

set_option Elab.async false

/-! ### Fresh volatile state -/

section Fresh

theorem forRuns_getElem {α : Type} (f : Run → α) (r : Run) : (forRuns f)[r] = f r := by
  fin_cases r <;> rfl

theorem forEight_getElem {α : Type} (f : Fin 8 → α) (i : Fin 8) : (forEight f)[i] = f i := by
  fin_cases i <;> rfl

variable (s : State)

theorem State.startRun_inRange (r : Run) : (s.startRun r).InRange := by
  unfold State.startRun
  simp only
  split
  · exact RunPulse.inRange_beginCounting ..
  · unfold RunPulse.InRange RunPulse.reset
    simp [PeriodCounts.zero]

theorem State.startSampler_queue : s.startSampler.queue = [] := by
  unfold State.startSampler
  simp only
  split <;> rfl

theorem State.startSampler_sound : s.startSampler.Sound
    ∧ (s.startSampler.state = .off ↔ s.ret.enable = .off)
    ∧ s.startSampler.canSelect = decide (s.ret.selectedCan = .can2) := by
  unfold State.startSampler
  simp only
  split <;> simp_all [Sampler.Sound, Sampler.reset]

/-- The sequencer after a start, whatever the marker. -/
def ProverSeq.Fresh : ProverCond := fun x _ => x.Sound ∧ x.state = .idle

theorem ProverSeq.fresh_start (x : ProverSeq) (marker : Option ProveMarker) : x.start.Fresh marker :=
  ⟨⟨noRuns_getElem, rfl, rfl, rfl, rfl, rfl⟩, rfl⟩

/-! ### Archive memory examined (R185) -/

theorem ArchiveSector.recover_slots (x : ArchiveSector) (j : Sector) : x.recover.slots[j] = x.slots[j].recover :=
  forEight_getElem ..

theorem Archive.recover_sectors (a : Archive) (i : Sector) : a.recover.sectors[i] = a.sectors[i].recover :=
  forEight_getElem ..

theorem ArchiveSector.Sound.recover {x : ArchiveSector} (h : x.Sound) : x.recover.Sound := by
  obtain ⟨hempty, hreleased⟩ := h
  refine ⟨fun hx j => ?_, fun hx j => ?_⟩
  · have hstate : x.state = .erased := by
      unfold ArchiveSector.recover at hx
      cases hst : x.state <;> simp_all [SectorState.recover]
    rw [ArchiveSector.recover_slots, hempty hstate]
    rfl
  · have hstate : x.state = .erasing ∨ x.state = .eraseSuspended := by
      unfold ArchiveSector.recover at hx
      cases hst : x.state <;> simp_all [SectorState.recover]
    rw [ArchiveSector.recover_slots]
    have := hreleased hstate j
    cases hslot : x.slots[j] <;> simp_all [SlotState.recover, SlotState.released]

theorem Archive.restartedErase?_matches {a : Archive} {now : Moment} :
    ∀ e ∈ a.restartedErase? now, e.Matches a := by
  intro e he
  obtain ⟨i, hi, rfl⟩ := Option.map_eq_some_iff.mp he
  have hstate : a.sectors[i].state = .erasing := by simpa using List.find?_some hi
  exact hstate

/-- Where no pending ticket is WRITING and no grab of a live batch is queued, the fresh state keeps what the recovery of
retained memory kept. -/
theorem State.KeepsContents.freshen {s t : State} (h : s.KeepsContents t)
    (hpending : ∀ p ∈ t.ret.pendingTickets, p.writing = false)
    (hgrabs : s.GrabsAccounted → ∀ b ∈ t.liveBatches, b.sampling.due = b.sampling.taken + b.sampling.missed) :
    s.KeepsContents t.freshen where
  totals := h.totals
  batchTotals := h.batchTotals
  periods hs := ⟨(h.periods hs).1, fun r => by simp [State.freshen, RunCorrection.reset],
    fun r => by simp [State.freshen, RunCorrection.reset]⟩
  capacity hs := by
    obtain ⟨hcap, -, hclock⟩ := h.capacity hs
    refine ⟨hcap, ?_, hclock⟩
    rw [show t.freshen.smc.queue = [] from t.startSampler_queue]
    exact Nat.zero_le _
  pulses _ r := by
    rw [show t.freshen.pulses[r] = t.startRun r from forRuns_getElem ..]
    exact t.startRun_inRange r
  sampler _ := by
    obtain ⟨hsound, hoff, hcan⟩ := t.startSampler_sound
    exact ⟨hsound, fun _ => ⟨hoff, hcan⟩⟩
  ids := h.ids
  grabs hs := by
    obtain ⟨hids, hdue, -⟩ := h.grabs hs
    refine ⟨hids, hdue, fun _ => ⟨fun b hb => ?_, fun e he => ?_⟩⟩
    · have hnone : t.freshen.queuedGrabs b.record.id = 0 := by
        unfold State.queuedGrabs
        rw [show t.freshen.smc.queue = [] from t.startSampler_queue]
        rfl
      rw [hnone]
      exact hgrabs hs b hb
    · rw [show t.freshen.smc.queue = [] from t.startSampler_queue] at he
      cases he
  archive hs := by
    obtain ⟨-, -, -, hempty, hreleased⟩ := h.archive hs
    have hsound : ∀ k : Sector, t.archive.sectors[k].Sound := fun k =>
      ⟨fun hk j => hempty k j hk, fun hk j => hreleased k j hk⟩
    refine (State.archiveSound_iff ?_).mpr ⟨⟨?_, fun p hp => hpending p (List.mem_of_mem_tail hp)⟩,
      Archive.restartedErase?_matches, nofun, fun k => ?_⟩
    · rfl
    · show t.ret.pendingTickets.head?.any PendingTicket.writing = false
      cases hps : t.ret.pendingTickets with
      | nil => rfl
      | cons p ps => exact hpending p (by simp [hps])
    · show (t.archive.recover.sectors[k]).Sound
      rw [Archive.recover_sectors]
      exact (hsound k).recover
  audit := h.audit
  staging := fun _ => by simp [State.StagingSound, State.freshen]

end Fresh

/-! ### Retained memory at a start -/

section Retained

/-- The content of a cold start has every invariant, whatever its ticket counter. -/
theorem Retained.cold_sound (n : Nat) : (Retained.cold n).TotalsAgree
    ∧ (∀ b ∈ (Retained.cold n).active.toList ++ (Retained.cold n).ending, b.TotalsAgree)
    ∧ (∀ r : Run, (Retained.cold n).rem[r].Bounded) ∧ (Retained.cold n).WithinCapacity
    ∧ (Retained.cold n).BatchIdsDistinct ∧ (Retained.cold n).GrabsWithinDue := by
  refine ⟨?_, by simp [Retained.cold], ?_, ?_, by simp [Retained.BatchIdsDistinct, Retained.cold],
    by simp [Retained.GrabsWithinDue, Retained.cold]⟩
  · simp [Retained.TotalsAgree, sumsAgree, Retained.cold, CumulativeTotals.zero, Cumulative.grand, Cumulative.zero]
  · simp [Remainders.Bounded, Retained.cold]
  · simp [Retained.WithinCapacity, Retained.cold]

variable {s : State}

theorem State.keepsContents_coldRetained (hrun : s.phase ≠ .running) : s.KeepsContents s.coldRetained := by
  obtain ⟨htotals, hbatches, hrem, hcapacity, hids, hdue⟩ :=
    Retained.cold_sound (nextTicketNumber s.archive.recover.highestNumber)
  have hcopies (p : Retained → Prop) (h : p s.coldContent) : ∀ x ∈ s.coldRetained.copies, p x :=
    State.forall_copies_iff.mpr ⟨h, h, h⟩
  exact {
    totals := fun _ => hcopies _ htotals
    batchTotals := fun _ => hcopies (fun x => ∀ b ∈ x.active.toList ++ x.ending, b.TotalsAgree) hbatches
    periods := fun ⟨_, hrecs⟩ => ⟨hcopies (fun x => ∀ r : Run, x.rem[r].Bounded) hrem, hrecs⟩
    capacity := fun ⟨_, hqueue, _⟩ => ⟨hcopies _ hcapacity, hqueue, Nat.zero_le _⟩
    sampler := fun ⟨hs, _⟩ => ⟨hs, fun h => absurd h hrun⟩
    ids := fun _ => hcopies _ hids
    grabs := fun _ => ⟨hcopies _ hids, hcopies _ hdue, fun h => absurd h hrun⟩
    archive := fun ⟨_, hrest⟩ => ⟨fun h => absurd h hrun, hrest⟩ }

theorem reconcile_length (ns : List Nat) (ps : List PendingTicket) : (reconcile ns ps).length ≤ ps.length := by
  simpa [reconcile] using List.length_filter_le ..

/-- A batch at a warm start: its owing runs, where it is ENDING, and its queued grabs. -/
theorem Batch.recover_spec (b : Batch) : b.recover.record = b.record
    ∧ b.recover.sampling.due = b.sampling.due ∧ b.recover.sampling.taken = b.sampling.taken
    ∧ (b.sampling.taken + b.sampling.missed ≤ b.sampling.due →
      b.recover.sampling.due = b.recover.sampling.taken + b.recover.sampling.missed) := by
  refine ⟨rfl, rfl, rfl, fun h => ?_⟩
  simp only [Batch.recover, Batch.modSampling, Sampling.recover, Sampling.queued]
  omega

/-- The batches after the recovery come from those before it. -/
theorem State.warmRetained_batches {b : Batch} (hb : b ∈ s.warmRetained.liveBatches) :
    ∃ x ∈ s.liveBatches, b = x.recover ∨ b = { x.recover with owing := noRuns } := by
  obtain hb | hb := List.mem_append.mp hb
  · rw [State.warmRetained, State.modRet_ret, toList_map] at hb
    obtain ⟨x, hx, rfl⟩ := List.mem_map.mp hb
    exact ⟨x, List.mem_append_left _ hx, .inl rfl⟩
  · obtain ⟨x, hx, rfl⟩ := List.mem_map.mp hb
    exact ⟨x, List.mem_append_right _ hx, .inr rfl⟩

theorem State.warmRetained_ids (h : s.ret.BatchIdsDistinct) : s.warmRetained.ret.BatchIdsDistinct := by
  have hids (bs : List Batch) (f : Batch → Batch) (hf : ∀ b, (f b).record = b.record) :
      (bs.map f).map (fun b => b.record.id) = bs.map (fun b => b.record.id) := by
    simp [Function.comp_def, hf]
  unfold Retained.BatchIdsDistinct at *
  simp only [State.warmRetained, State.modRet_ret, toList_map, hids _ Batch.recover fun _ => rfl,
    hids _ (fun b => { b.recover with owing := noRuns }) fun _ => rfl]
  exact h

theorem State.warmRetained_due (h : s.ret.GrabsWithinDue) {b : Batch} (hb : b ∈ s.warmRetained.liveBatches) :
    b.sampling.due = b.sampling.taken + b.sampling.missed := by
  obtain ⟨x, hx, rfl | rfl⟩ := State.warmRetained_batches hb
  exacts [x.recover_spec.2.2.2 (h x hx), x.recover_spec.2.2.2 (h x hx)]

theorem State.keepsContents_warmRetained (hrun : s.phase ≠ .running) : s.KeepsContents s.warmRetained where
  totals := forall_copies_imp fun h => h
  batchTotals := forall_copies_imp fun h b hb => by
    obtain ⟨x, hx, rfl | rfl⟩ := State.warmRetained_batches hb
    exacts [h x hx, h x hx]
  periods := fun ⟨hrem, hrecs⟩ => ⟨forall_copies_imp (x := s.ret) (fun h => h) hrem, hrecs⟩
  capacity := fun ⟨hcap, hrest⟩ => ⟨forall_copies_imp (x := s.ret) (fun ⟨hqueue, hending, hpending, hcounts⟩ =>
    ⟨hqueue, by simpa [State.warmRetained] using hending, (reconcile_length ..).trans hpending, hcounts⟩) hcap, hrest⟩
  sampler := fun ⟨hs, _⟩ => ⟨hs, fun h => absurd h hrun⟩
  ids := forall_copies_imp State.warmRetained_ids
  grabs := fun ⟨hids, hdue, _⟩ => ⟨forall_copies_imp State.warmRetained_ids hids,
    forall_copies_imp (fun h b hb => (State.warmRetained_due h hb).ge) hdue, fun h => absurd h hrun⟩
  archive := fun ⟨_, hrest⟩ => ⟨fun h => absurd h hrun, hrest⟩

end Retained

/-! ### The owners act in order (R100, R202) -/

section Owners

variable {P : ProverCond} (s : State)

theorem State.keeps_startSeal : s.Keeps P P s.startSeal := by
  have hrecord : s.Keeps P P (if s.recordedSeal = s.seal then s
      else { s.appendAudit (.sealChange s.recordedSeal s.seal true) with recordedSeal := s.seal }) := by
    split
    exacts [.refl s, (s.keeps_appendAudit _).trans (.quiet ..)]
  have halarm {t : State} (h : s.Keeps P P t) :
      s.Keeps P P (if t.seal = .opened then t.raiseAlarm (.station .sealOpen) else t) := by
    split
    exacts [h.trans (State.keeps_raiseAlarm _), h]
  exact halarm hrecord

theorem State.keeps_startQualities : s.Keeps P P s.startQualities :=
  .foldl (fun s v => s.keeps_syncQualityAlarm v) _ s

/-- Every value agrees with its quality alarm once each has been followed (R43). -/
theorem State.startQualities_agrees : s.startQualities.QualityAlarmsAgree := by
  have hfold (vs : List ValueId) (s : State) (v : ValueId)
      (h : v ∈ vs ∨ s.alarmRaised (qualityAlarm v) = (s.value v).notFresh) :
      (vs.foldl (fun s v => s.syncQualityAlarm v) s).alarmRaised (qualityAlarm v)
        = ((vs.foldl (fun s v => s.syncQualityAlarm v) s).value v).notFresh := by
    induction vs generalizing s with
    | nil => exact h.resolve_left (by simp)
    | cons w vs ih =>
      refine ih _ ?_
      by_cases hv : v = w
      · subst hv
        exact .inr (s.syncQualityAlarm_agrees v)
      · refine h.imp (fun hmem => (List.mem_cons.mp hmem).resolve_left hv) fun hagree => ?_
        obtain ⟨halarm, hvalue⟩ := s.syncQualityAlarm_other hv
        rw [halarm, hvalue, hagree]
  intro _ v
  refine hfold allValues s v (.inl ?_)
  cases v with
  | t r | p r => revert r; decide
  | tp | pp | rho | sw => decide

theorem State.keeps_startClock : s.Keeps P P s.startClock := by
  unfold State.startClock
  split
  exacts [.refl s, s.keeps_raiseAlarm]

theorem State.keeps_startArchive : s.Keeps P P s.startArchive := s.keeps_tryStartWrite.trans (State.keeps_testReclaim _)

/-- The marker found at a warm start is cleared: the sequencer, which is IDLE, is sound with it (R155). -/
theorem State.keeps_resolveMarker : s.Keeps ProverSeq.Fresh ProverSeq.SoundWith s.resolveMarker := by
  have hrecord (n : Nat) (outcome : ProveOutcome) :
      s.Keeps ProverSeq.Fresh ProverSeq.SoundWith (s.recordOutcome n outcome) := by
    unfold State.recordOutcome
    split
    · next hmarker =>
      exact .trans (.content fun _ => { prover := fun ⟨hs, hidle⟩ => ⟨hs, by rw [hmarker, hidle]; rfl⟩ })
        (State.keeps_addFlag _ _)
    · exact .trans (.content fun _ => { prover := fun ⟨hs, hidle⟩ => ⟨hs, by simp [hidle]⟩ }) (State.keeps_addFlag _ _)
  unfold State.resolveMarker
  split
  · next hmarker => exact .content fun _ => { prover := fun ⟨hs, hidle⟩ => ⟨hs, by rw [hmarker, hidle]; rfl⟩ }
  · split
    exacts [hrecord _ _, hrecord _ _]

theorem State.startSeal_params : s.startSeal.params = s.params := by
  unfold State.startSeal
  simp only
  split <;> split <;> simp

theorem State.startQualities_params : s.startQualities.params = s.params := by
  have hfold (vs : List ValueId) (s : State) : (vs.foldl (fun s v => s.syncQualityAlarm v) s).params = s.params := by
    induction vs generalizing s with
    | nil => rfl
    | cons v vs ih => exact (ih _).trans (by simp [State.syncQualityAlarm])
  exact hfold _ s

theorem State.startClock_params : s.startClock.params = s.params := by
  unfold State.startClock
  split <;> simp

theorem State.resolveMarker_params : s.resolveMarker.params = s.params := by
  unfold State.resolveMarker
  split
  · rfl
  · split <;> simp

end Owners

/-! ### The completion -/

section Completion

variable {s : State}

theorem State.completeCold_params (cause : StartCause) : (s.completeCold cause).params = s.params := by
  simp [State.completeCold, State.startArchive, State.startClock_params, State.startQualities_params,
    State.startSeal_params, State.freshen, State.coldRetained]

theorem State.completeWarm_params (cause : StartCause) : (s.completeWarm cause).params = s.params := by
  unfold State.completeWarm
  simp only
  split <;> simp [State.startArchive, State.startClock_params, State.resolveMarker_params, State.startQualities_params,
    State.startSeal_params, State.freshen, State.warmRetained]

theorem State.preserves_completeCold (cause : StartCause) (hrun : s.phase ≠ .running) :
    s.Preserves (s.completeCold cause) := by
  have hfresh : s.KeepsContents s.coldRetained.freshen :=
    (State.keepsContents_coldRetained hrun).freshen
      (by simp [State.coldRetained, State.coldContent, Retained.cold])
      (by simp [State.liveBatches, State.coldRetained, State.coldContent, Retained.cold])
  have hprover : ProverSeq.SoundWith s.coldRetained.freshen.psq s.coldRetained.freshen.ret.marker :=
    ⟨(ProverSeq.fresh_start s.psq none).1, by simp [(ProverSeq.fresh_start s.psq none).2, State.freshen,
      State.coldRetained, State.coldContent, Retained.cold]⟩
  have howners : s.coldRetained.freshen.KeepsSound
      (((s.coldRetained.freshen.appendAudit (.coldStart cause)).startSeal).startQualities) :=
    (State.keeps_appendAudit _ _).trans ((State.keeps_startSeal _).trans (State.keeps_startQualities _))
  have hquality := ((s.coldRetained.freshen.appendAudit (.coldStart cause)).startSeal).startQualities_agrees
  have hrest : (((s.coldRetained.freshen.appendAudit (.coldStart cause)).startSeal).startQualities).KeepsSound
      (s.completeCold cause) :=
    (State.keeps_pulseAlarm _).trans ((State.keeps_startClock _).trans (State.keeps_startArchive _))
  have hall := (howners.trans hrest).of_running rfl
  exact {
    hfresh.trans hall.toKeepsContents with
    quality := fun _ => (hrest.of_running (howners.of_running rfl).running).quality hquality
    prover := fun _ => (State.proverSound_iff hall.running).mpr (hall.prover hprover)
    sealed := fun _ _ ref _ _ => by rw [State.completeCold_params] }

theorem State.preserves_completeWarm (cause : StartCause) (hrun : s.phase ≠ .running) :
    s.Preserves (s.completeWarm cause) := by
  have hpending : ∀ p ∈ s.warmRetained.ret.pendingTickets, p.writing = false := fun p hp => by
    obtain ⟨q, -, rfl⟩ := List.mem_map.mp hp
    rfl
  have hfresh : s.KeepsContents s.warmRetained.freshen :=
    (State.keepsContents_warmRetained hrun).freshen hpending fun hs _ hb =>
      State.warmRetained_due (State.forall_copies_iff.mp hs.2.1).1 hb
  have hprover : ProverSeq.Fresh s.warmRetained.freshen.psq s.warmRetained.freshen.ret.marker :=
    ProverSeq.fresh_start s.psq _
  have hquality := ((s.warmRetained.freshen.appendAudit
    (.warmStart s.ret.lastSeen s.clock cause)).startSeal).startQualities_agrees
  have howners : s.warmRetained.freshen.Keeps ProverSeq.Fresh ProverSeq.Fresh
      (((s.warmRetained.freshen.appendAudit (.warmStart s.ret.lastSeen s.clock cause)).startSeal).startQualities) :=
    (State.keeps_appendAudit _ _).trans ((State.keeps_startSeal _).trans (State.keeps_startQualities _))
  have hparams := s.completeWarm_params cause
  unfold State.completeWarm at *
  generalize hq : ((s.warmRetained.freshen.appendAudit
    (.warmStart s.ret.lastSeen s.clock cause)).startSeal).startQualities = q at hquality howners
  have hrest : q.Keeps ProverSeq.Fresh ProverSeq.SoundWith (((if s.missesGrabs then
      q.pulseAlarm (.station .samplerMissed) else q).startClock.resolveMarker).closeTests.startArchive) := by
    refine State.Keeps.trans (Q := ProverSeq.Fresh) ?_ ((State.keeps_startClock _).trans
      ((State.keeps_resolveMarker _).trans ((State.keeps_closeTests _).trans (State.keeps_startArchive _))))
    split
    exacts [q.keeps_pulseAlarm, .refl q]
  have hall := (howners.trans hrest).of_running rfl
  simp only [hq] at hparams ⊢
  exact {
    hfresh.trans hall.toKeepsContents with
    quality := fun _ => (hrest.of_running (howners.of_running rfl).running).quality hquality
    prover := fun _ => (State.proverSound_iff hall.running).mpr (hall.prover hprover)
    sealed := fun _ _ ref _ _ => by rw [hparams] }

theorem preserves_startCompletion : s.Preserves (startCompletion s) := by
  have hsettle {t : State} (h : s.Preserves t) (hparams : t.params = s.params) : s.Preserves t.settle :=
    h.trans_of_params State.preserves_settle (by simpa using hparams)
  unfold startCompletion
  split
  · next hphase =>
    exact hsettle (State.preserves_completeCold _ (by simp [hphase])) (State.completeCold_params _)
  · next hphase =>
    exact hsettle (State.preserves_completeWarm _ (by simp [hphase])) (State.completeWarm_params _)
  · exact {}
  · exact {}

end Completion

/-! ### Every step -/

section Step

variable {s t : State}

theorem State.preserves_power {c : Instr} {f : State → State} (h : Instr.taking c = .power f) : s.Preserves (f s) := by
  cases c <;> cases h
  case powerUp held =>
    obtain heq | heq | heq := powerUp_cases held s <;> rw [heq]
    · exact {}
    · exact State.preserves_withPower held
    · refine (State.preserves_withPower held).trans_of_params State.preserves_beginStart ?_
      cases held <;> exact State.beginStart_params
  case powerFail strike =>
    obtain heq | heq := powerFail_cases strike s <;> rw [heq]
    · exact {}
    · exact (State.preserves_halted strike).trans_of_params {} (State.halted_params strike)
  case resetNAssert strike =>
    obtain heq | heq := resetAssert_cases strike s <;> rw [heq]
    · exact {}
    · exact (State.preserves_halted strike).trans_of_params {} (State.halted_params strike)
  case resetNRelease =>
    have hrelease : s.Preserves { s with resetActive := false } := {}
    obtain heq | heq | heq := resetRelease_cases s <;> rw [heq]
    · exact {}
    · exact hrelease
    · exact hrelease.trans_of_params State.preserves_beginStart State.beginStart_params
  case startCompletion => exact preserves_startCompletion

/-- The seal's own events move no section. -/
theorem sealAccept_params : (sealAccept s).params = s.params := by
  unfold sealAccept
  split <;> simp

theorem State.preserves_event {c : Instr} {f aside : State → State} (h : Instr.taking c = .event f aside)
    (hrun : s.phase = .running) : s.Preserves (f s).settle := by
  by_cases hreply : c = .transmissionComplete
  · subst hreply
    cases h
    cases hmark : s.link.restartMark with
    | none => exact ((keeps_transmissionComplete s hmark).trans (State.keeps_settle _)).preserves hrun
    | some kind =>
      have heq : transmissionComplete s = s.restart kind := by
        unfold transmissionComplete
        rw [hmark]
      have hparams : (s.restart kind).params = s.params := by
        cases kind <;> simp [State.restart, State.writeLastSeen]
      rw [heq]
      exact (State.preserves_restart kind hrun).trans_of_params State.preserves_settle (by simpa using hparams)
  · by_cases hseal : c = .sealChange
    · subst hseal
      cases h
      exact (preserves_sealAccept hrun).trans_of_params State.preserves_settle (by simp [sealAccept_params])
    · by_cases hinput : ∀ closed, c ≠ .sealInputChange closed
      · exact ((keeps_event s h ⟨hseal, hinput⟩ hreply).trans (State.keeps_settle _)).preserves hrun
      · simp only [ne_eq, not_forall, not_not] at hinput
        obtain ⟨closed, rfl⟩ := hinput
        cases h
        refine (preserves_sealInputTo closed hrun).trans_of_params State.preserves_settle ?_
        unfold sealInputTo
        simp only
        split <;> simp [sealAccept_params]

theorem State.preserves_run (c : Instr) : s.Preserves ((Instr.taking c).run s) := by
  cases hc : Instr.taking c with
  | request f =>
    by_cases hrun : s.phase = .running
    · exact (s.keeps_request hc).preserves hrun
    · rw [Taking.run, State.request_not_taken _ _ (by simp [State.takesRequests, hrun])]
      exact {}
  | event f aside =>
    rw [Taking.run]
    split
    · next hrun => exact State.preserves_event hc hrun
    · next hrun => exact State.preserves_aside hc hrun
  | power f => exact State.preserves_power hc

/-- Every step preserves every invariant, and no step moves a locked section but a curve under a closed seal. -/
theorem step_preserves (h : step s = .next t) : s.Preserves t := by
  obtain rfl | ⟨c, rest, rfl⟩ := step_cases h
  · exact {}
  · have hqueue : s.Preserves { s with pending := rest } := {}
    have hrun := State.preserves_run (s := { s with pending := rest }) c
    exact {
      hqueue.toKeepsInvariants.trans hrun.toKeepsInvariants with
      prover := hrun.prover, sealed := hrun.sealed }

end Step

/-! ### The statements -/

/-- Settles O4, by projection of what every step preserves. -/
theorem stationTotalsStayTheSumOfTheRuns : Obligations.StationTotalsStayTheSumOfTheRuns :=
  fun _ _ hs h => (step_preserves h).totals hs

/-- Settles O5, by projection of what every step preserves. -/
theorem everyBatchTotalIsTheSumOfItsRuns : Obligations.EveryBatchTotalIsTheSumOfItsRuns :=
  fun _ _ hs h => (step_preserves h).batchTotals hs

/-- Settles O6, by projection of what every step preserves. -/
theorem everyPeriodRecordHasNetAtMostGross : Obligations.EveryPeriodRecordHasNetAtMostGross :=
  fun _ _ hs h => (step_preserves h).periods hs

/-- Settles O7, by projection of what every step preserves. -/
theorem stepKeepsCapacitiesAndRanges : Obligations.StepKeepsCapacitiesAndRanges :=
  fun _ _ hcapacity hpulses h => ⟨(step_preserves h).capacity hcapacity, (step_preserves h).pulses hpulses⟩

/-- Settles O8, by projection of what every step preserves. -/
theorem stepKeepsTheProverSound : Obligations.StepKeepsTheProverSound :=
  fun _ _ hs h => (step_preserves h).prover hs

/-- Settles O9, by projection of what every step preserves. -/
theorem stepKeepsTheSamplerSound : Obligations.StepKeepsTheSamplerSound :=
  fun _ _ hs h => (step_preserves h).sampler hs

/-- Settles O10, by projection of what every step preserves. -/
theorem stepKeepsEveryGrabAccountedFor : Obligations.StepKeepsEveryGrabAccountedFor :=
  ⟨fun _ _ hs h => (step_preserves h).grabs hs, fun _ _ hs h => (step_preserves h).ids hs⟩

/-- Settles O11, by projection of what every step preserves. -/
theorem stepKeepsTheArchiveAndTheRingSound : Obligations.StepKeepsTheArchiveAndTheRingSound :=
  ⟨fun _ _ hs h => (step_preserves h).archive hs, fun _ _ hs h => (step_preserves h).audit hs⟩

/-- Settles O12, by projection of what every step preserves. -/
theorem stepKeepsTheStagingAndSealedSections : Obligations.StepKeepsTheStagingAndSealedSections :=
  fun _ _ hs h => ⟨(step_preserves h).staging hs, (step_preserves h).sealed hs⟩

/-- Settles O13, by projection of what every step preserves. -/
theorem stepKeepsQualityAlarmsInAgreement : Obligations.StepKeepsQualityAlarmsInAgreement :=
  fun _ _ hs h => (step_preserves h).quality hs

end Sys2Proof.Machine
end

section
/-! Raw changes and edges at the inputs (sections 1.3 to 1.6): what a command leaves of one run and of the time base, the
good pulse with the capture that it may complete, and the three kinds of edges that reach the decoder. -/

namespace Sys2Proof.Machine

set_option Elab.async false

/-! ### Events of a running module -/

section Events

variable {s : State} {c : Instr} {f aside : State → State}

theorem exec_of_event (hrun : s.phase = .running) (hc : Instr.taking c = .event f aside) :
    exec c s = .next (f s).settle := by
  rw [exec_eq_next_iff, hc, Taking.run, if_pos hrun]

theorem exec_of_event_settled (hrun : s.phase = .running) (hc : Instr.taking c = .event f aside)
    (hf : (f s).Settled) : exec c s = .next (f s) := by
  rw [exec_of_event hrun hc, State.settle_of_settled _ hf]

end Events

/-! ### Raw changes (R8) -/

theorem InputFilter.change_of_timed {f : InputFilter} (h : f.Timed) (level : Bool) (now : Moment) :
    f.change level now = f.after level now := by
  obtain ⟨raw, filtered, since⟩ := f
  simp only [InputFilter.Timed] at h
  unfold InputFilter.change InputFilter.after
  dsimp only
  split
  · next hraw =>
    subst hraw
    split
    · next hlevel =>
      simp only [hlevel, bne_self_eq_false, Option.isSome_eq_false_iff, Option.isNone_iff_eq_none] at h
      rw [hlevel, h]
    · rfl
  · split <;> rfl

/-! ### One run and the time base -/

/-- The machine with the time base at a moment and one run's pulse state replaced. -/
def State.withRun (s : State) (m : Moment) (r : Run) (y : RunPulse) : State :=
  { s with now := m, pulses := s.pulses.set r y }

section WithRun

variable (s : State) (m : Moment) (r : Run) (y : RunPulse)

@[simp] theorem State.withRun_pulses : (s.withRun m r y).pulses[r] = y := Vector.getElem_set_self _

@[simp] theorem State.withRun_ret : (s.withRun m r y).ret = s.ret := rfl

@[simp] theorem State.withRun_modRun (g : RunPulse → RunPulse) :
    (s.withRun m r y).modRun r g = s.withRun m r (g y) := by
  have hset : (s.pulses.set r y).set r (g y) = s.pulses.set r (g y) := Vector.set_set ..
  show { s.withRun m r y with pulses := (s.pulses.set r y).set r (g ((s.withRun m r y).pulses[r])) } = _
  rw [State.withRun_pulses, hset]
  rfl

@[simp] theorem State.withRun_now : (s.withRun m r y).now = m := rfl

theorem State.withRun_withRun (m' : Moment) (y' : RunPulse) :
    (s.withRun m r y).withRun m' r y' = s.withRun m' r y' := by
  have hset : (s.pulses.set r y).set r y' = s.pulses.set r y' := Vector.set_set ..
  simp only [State.withRun, hset]

theorem State.withRun_settled (h : s.Settled) : (s.withRun m r y).Settled := h

end WithRun

@[simp] theorem RunPulse.channel_setChannel (x : RunPulse) (ch : Channel) (f : InputFilter) :
    (x.setChannel ch f).channel ch = f := by cases ch <;> rfl

@[simp] theorem RunPulse.channel_setChannel_other (x : RunPulse) (ch : Channel) (f : InputFilter) :
    (x.setChannel ch f).channel (otherChannel ch) = x.channel (otherChannel ch) := by cases ch <;> rfl

theorem RunPulse.setChannel_frame (x : RunPulse) (ch : Channel) (f : InputFilter) :
    x.setChannel ch f = { x with chA := (x.setChannel ch f).chA, chB := (x.setChannel ch f).chB } := by
  cases ch <;> rfl

/-- The accepted level of a channel. -/
def RunPulse.acceptOn (x : RunPulse) (ch : Channel) : RunPulse :=
  x.setChannel ch ⟨(x.channel ch).raw, (x.channel ch).raw, none⟩

theorem State.acceptChannel_eq (s : State) (r : Run) (ch : Channel) (u : Moment) :
    s.acceptChannel r ch u
      = s.withRun (max s.now (u + handoverTicks s.pulses[r].settings.width)) r (s.pulses[r].acceptOn ch) := rfl

/-- Settles O15: an untimed-out raw change is a change of its filter alone, and an edge of a run out of service stops at
the filter. -/
theorem rawInputChangesAreTimed : Obligations.RawInputChangesAreTimed := by
  refine ⟨fun s level hrun hset => ⟨fun r ch ht hh => ?_, fun ht hh => ?_, fun i ht hh => ?_, fun c ht hh => ?_⟩,
    fun s r ch u hrun hset hout hu hother => ?_⟩
  · have hf : pulseInputTo r ch level s = s.modRun r (fun x => x.setChannel ch ((x.channel ch).after level s.now)) := by
      simp only [pulseInputTo, hh, Bool.false_eq_true, if_false, State.modRun, modAt,
        InputFilter.change_of_timed ht]
    rw [← hf]
    exact exec_of_event_settled hrun rfl (by rw [hf]; exact hset)
  · have hf : sealInputTo level s = { s with sealInput := s.sealInput.after level s.now } := by
      simp only [sealInputTo, hh, Bool.false_eq_true, if_false, InputFilter.change_of_timed ht]
    rw [← hf]
    exact exec_of_event_settled hrun rfl (by rw [hf]; exact hset)
  · have hf : proverInputTo i level s = { s with psq := s.psq.setInput i ((s.psq.input i).after level s.now) } := by
      simp only [proverInputTo, hh, Bool.false_eq_true, if_false, State.modPsq, InputFilter.change_of_timed ht]
    rw [← hf]
    exact exec_of_event_settled hrun rfl (by rw [hf]; exact hset)
  · have hf : canfullInputTo c level s
        = { s with smc := s.smc.setFullInput c ((s.smc.fullInput c).after level s.now) } := by
      simp only [canfullInputTo, hh, Bool.false_eq_true, if_false, State.modSmc, InputFilter.change_of_timed ht]
    rw [← hf]
    exact exec_of_event_settled hrun rfl (by rw [hf]; exact hset)
  · have hf : filterAccept r ch s
        = s.withRun (max s.now (u + handoverTicks s.pulses[r].settings.width)) r (s.pulses[r].acceptOn ch) := by
      simp only [filterAccept, hu, hother, State.acceptAlone, State.acceptChannel_eq, State.decodeEdge,
        State.withRun_ret, hout]
    rw [exec_of_event_settled hrun (c := .pulseFilterAccept r ch) rfl (by rw [hf]; exact hset), hf]
    rfl

/-! ### The good pulse and its capture (R13, R20) -/

/-- A good pulse with a stamp completes the capture that waits (R20). -/
def RunPulse.completesAt (x : RunPulse) (stamp : Stamp) : Bool := x.capture.any (fun tick => atOrAfter stamp tick)

/-- A run after a good pulse, its capture disarmed where the pulse completes it (R13, R20). -/
def RunPulse.goodStep (x : RunPulse) (stamp : Stamp) : RunPulse :=
  { x.countGood stamp with capture := if x.completesAt stamp then none else x.capture }

/-- What the machine is once a run's edge has been counted: the capture's report goes to the PSQ in the same event where
the pulse completed it (R20). -/
def State.reported (s : State) (completes : Bool) (report : CaptureReport) : State :=
  if completes then s.captureReported report else s

section GoodPulse

variable (s : State) (m : Moment) (r : Run) (y : RunPulse) (stamp : Stamp)

theorem State.withRun_goodPulse :
    (s.withRun m r y).goodPulse r stamp
      = (s.withRun m r (y.goodStep stamp)).reported (y.completesAt stamp) ⟨⟨stamp, y.goodIndex + 1⟩, false⟩ := by
  unfold State.goodPulse State.reported RunPulse.goodStep RunPulse.completesAt
  rw [State.withRun_pulses]
  cases hcap : y.capture with
  | none =>
    simp only [State.withRun_modRun, Option.any_none, Bool.false_eq_true, if_false]
    exact congrArg (s.withRun m r) (show y.countGood stamp = { y.countGood stamp with capture := none } by
      rw [← hcap]; rfl)
  | some tick =>
    simp only [State.withRun_modRun, Option.any_some, State.cancelCapture]
    split
    · rw [State.withRun_pulses]
      rfl
    · exact congrArg (s.withRun m r) (show y.countGood stamp = { y.countGood stamp with capture := some tick } by
        rw [← hcap]; rfl)

theorem RunPulse.goodStep_good {x : RunPulse} (h : x.counts.good ≤ Config.countTop) :
    (x.goodStep stamp).counts.good = min 65535 (x.counts.good + 1)
      ∧ (x.goodStep stamp).counts.saturated = (x.counts.saturated || decide (x.counts.good = 65535)) := by
  simp only [RunPulse.goodStep, RunPulse.countGood, PeriodCounts.goodPulse, Config.countTop] at h ⊢
  by_cases htop : 65535 ≤ x.counts.good
  · have heq : x.counts.good = 65535 := by omega
    simp [heq]
  · have hne : x.counts.good ≠ 65535 := by omega
    simp [hne, htop]
    omega

theorem RunPulse.goodStep_counts_frame (x : RunPulse) :
    (x.goodStep stamp).counts.reverse = x.counts.reverse
      ∧ (x.goodStep stamp).counts.phaseErrors = x.counts.phaseErrors
      ∧ (x.goodStep stamp).counts.transitionsA = x.counts.transitionsA
      ∧ (x.goodStep stamp).counts.transitionsB = x.counts.transitionsB := by
  simp only [RunPulse.goodStep, RunPulse.countGood, PeriodCounts.goodPulse]
  by_cases htop : Config.countTop ≤ x.counts.good <;> simp [htop]

/-- The machine after an event that counted an edge, from its two parts. -/
theorem State.reported_settle {t : State} (h : t.Settled) {completes : Bool} (report : CaptureReport) :
    (completes = false → (t.reported completes report).settle = t)
      ∧ (completes = true → (t.reported completes report).settle = (t.captureReported report).settle) := by
  refine ⟨?_, ?_⟩ <;> rintro rfl
  · exact State.settle_of_settled _ h
  · rfl

end GoodPulse

/-! ### The lone edge (R11, R13, R16) -/

/-- A run after the accumulator has come to `q`: at 4 a good pulse, at -4 a reverse pulse (R13). -/
def RunPulse.steppedTo (x : RunPulse) (q : Int) (stamp : Stamp) : RunPulse :=
  if q = 4 then { x with quarter := 0 }.goodStep stamp
  else if q = -4 then { x with quarter := 0 }.countReverse stamp
  else { x with quarter := q }

/-- A run after an accepted edge has moved the reference and its transition count (R11). -/
def RunPulse.edgeOn (x : RunPulse) (ch : Channel) : RunPulse :=
  { x.acceptOn ch with reference := (x.acceptOn ch).levels, counts := x.counts.transition ch }

section LoneEdge

variable {s : State} {r : Run} {ch : Channel} {u : Moment}

theorem State.withRun_quarterStep (m : Moment) (y : RunPulse) (step : Int) (stamp : Stamp) :
    (s.withRun m r y).quarterStep r step stamp
      = (s.withRun m r (y.steppedTo (y.quarter + step) stamp)).reported
          (decide (y.quarter + step = 4) && y.completesAt stamp) ⟨⟨stamp, y.goodIndex + 1⟩, false⟩ := by
  unfold State.quarterStep RunPulse.steppedTo
  simp only [State.withRun_pulses, State.withRun_modRun, State.withRun_goodPulse]
  split
  · next h => simp only [h, decide_true, Bool.true_and]; rfl
  · next h => simp only [h, decide_false, Bool.false_and]; split <;> rfl

theorem filterAccept_alone (hu : (s.pulses[r].channel ch).since = some u)
    (hother : (s.pulses[r].channel (otherChannel ch)).since = none) :
    filterAccept r ch s
      = (s.withRun (max s.now (u + handoverTicks s.pulses[r].settings.width)) r (s.pulses[r].acceptOn ch)).decodeEdge
          r ch (stampOf u) := by
  simp only [filterAccept, hu, hother, State.acceptAlone, State.acceptChannel_eq]

theorem RunPulse.acceptOn_frame (x : RunPulse) :
    (x.acceptOn ch).settings = x.settings ∧ (x.acceptOn ch).pulseState = x.pulseState
      ∧ (x.acceptOn ch).reference = x.reference ∧ (x.acceptOn ch).counts = x.counts := by
  cases ch <;> exact ⟨rfl, rfl, rfl, rfl⟩

theorem State.withRun_loneEdge (m : Moment) (x : RunPulse) (stamp : Stamp) :
    (s.withRun m r (x.acceptOn ch)).loneEdge r ch stamp
      = match x.pulseState with
        | .dualOk => (s.withRun m r (x.edgeOn ch)).quarterStep r
            (decoderStep x.reference (x.acceptOn ch).levels) stamp
        | .singleAOnly => (s.withRun m r (x.edgeOn ch)).liveEdge r ch stamp
        | .singleBOnly => (s.withRun m r (x.edgeOn ch)).liveEdge r ch stamp
        | .singleMode => s.withRun m r (x.edgeOn ch) := by
  simp only [State.loneEdge, State.withRun_pulses, State.withRun_modRun]
  cases ch <;> rfl

end LoneEdge

theorem decoderStep_table :
    (∀ p : LevelPair, (decoderStep p ⟨!p.a, p.b⟩ = 1 ∨ decoderStep p ⟨!p.a, p.b⟩ = -1)
        ∧ (decoderStep p ⟨p.a, !p.b⟩ = 1 ∨ decoderStep p ⟨p.a, !p.b⟩ = -1))
      ∧ ∀ p q : LevelPair, decoderStep p q = 1 ↔ decoderStep q p = -1 := by
  refine ⟨fun ⟨a, b⟩ => ?_, fun ⟨a, b⟩ ⟨c, d⟩ => ?_⟩
  · revert a b; decide
  · revert a b c d; decide

/-- Settles O16: the edge steps the decoder of the accepted levels, and the accumulator decides what it counts. -/
theorem loneEdgeStepsTheDecoder : Obligations.LoneEdgeStepsTheDecoder := by
  refine ⟨fun s r ch u hrun hset hin hdual hok hrange hu hother => ?_, decoderStep_table.1, rfl, rfl, rfl, rfl,
    decoderStep_table.2⟩
  obtain ⟨-, -, hgood, -⟩ := hrange
  generalize hx : s.pulses[r] = x at *
  let stamp := stampOf u
  let q := x.quarter + decoderStep x.reference (x.acceptOn ch).levels
  let y := (x.edgeOn ch).steppedTo q stamp
  let counted := s.withRun (max s.now (u + handoverTicks x.settings.width)) r y
  let completes := decide (q = 4) && x.completesAt stamp
  have hf : filterAccept r ch s = counted.reported completes ⟨⟨stamp, x.goodIndex + 1⟩, false⟩ := by
    rw [filterAccept_alone (by rw [hx]; exact hu) (by rw [hx]; exact hother), hx]
    simp only [State.decodeEdge, State.withRun_ret, hin, State.withRun_pulses, x.acceptOn_frame.1, hdual]
    simp only [State.withRun_loneEdge, hok, State.withRun_quarterStep]
    cases ch <;> rfl
  have hexec := exec_of_event hrun (c := .pulseFilterAccept r ch) rfl
  rw [hf] at hexec
  have hparts := State.reported_settle (t := counted) hset (completes := completes)
    ⟨⟨stamp, x.goodIndex + 1⟩, false⟩
  have hlevels : (x.acceptOn ch).levels = y.levels := by
    simp only [y, RunPulse.steppedTo]
    split
    · rfl
    · split <;> rfl
  refine ⟨counted, _, x, y, q, completes, hexec, rfl, by rw [← hlevels], rfl, rfl, hparts.1, hparts.2, ?_⟩
  obtain ⟨hcountGood, hsaturated⟩ := RunPulse.goodStep_good stamp (x := { x.edgeOn ch with quarter := 0 })
    (by cases ch <;> exact hgood)
  obtain ⟨hreverse, hphase, htransA, htransB⟩ :=
    RunPulse.goodStep_counts_frame stamp { x.edgeOn ch with quarter := 0 }
  have hne : (-4 : Int) ≠ 4 := by decide
  clear_value q
  by_cases h4 : q = 4
  · simp only [completes, y, h4, RunPulse.steppedTo, if_true, decide_true, Bool.true_and]
    cases ch <;>
      exact ⟨rfl, rfl, rfl, rfl, rfl, htransA, htransB, hcountGood, hsaturated, hreverse, hphase, rfl, rfl, rfl, rfl,
        rfl⟩
  · by_cases h5 : q = -4
    · simp only [completes, y, h5, hne, RunPulse.steppedTo, if_true, if_false, decide_false, Bool.false_and]
      cases ch <;>
        exact ⟨rfl, rfl, rfl, rfl, rfl, rfl, rfl, rfl, (Bool.or_false _).symm, rfl, rfl, rfl, rfl, rfl, rfl, rfl⟩
    · simp only [completes, y, h4, h5, RunPulse.steppedTo, if_false, decide_false, Bool.false_and]
      cases ch <;>
        exact ⟨rfl, rfl, rfl, rfl, rfl, rfl, rfl, rfl, (Bool.or_false _).symm, rfl, rfl, rfl, rfl, rfl, rfl, rfl⟩

/-! ### What the Prover Sequencer leaves of the runs -/

/-- Of every run, at most the capture and the pass watch differ (R20, R21). -/
def State.CapturesMoved (s t : State) : Prop :=
  ∀ r : Run, t.pulses[r] = { s.pulses[r] with capture := t.pulses[r].capture, watch := t.pulses[r].watch }

section CapturesMoved

variable {s t u : State}

theorem State.CapturesMoved.of_eq (h : t.pulses = s.pulses) : s.CapturesMoved t := by
  intro r
  rw [h]

theorem State.CapturesMoved.trans (h : s.CapturesMoved t) (k : t.CapturesMoved u) : s.CapturesMoved u := by
  intro r
  have hu := k r
  rw [h r] at hu
  exact hu

theorem State.capturesMoved_modRun (s : State) (r : Run) (c : RunPulse → Option Stamp)
    (w : RunPulse → Option PassWatch) :
    s.CapturesMoved (s.modRun r (fun x => { x with capture := c x, watch := w x })) := by
  intro q
  by_cases hq : r = q
  · subst hq
    rw [State.modRun_pulses, modAt_same]
  · rw [State.modRun_pulses, modAt_other _ _ _ _ hq]

variable (s : State)

theorem State.capturesMoved_removeWatch (r : Run) : s.CapturesMoved (s.removeWatch r) :=
  s.capturesMoved_modRun r (fun x => x.capture) (fun _ => none)

theorem State.capturesMoved_failProve (cause : ProveCause) : s.CapturesMoved (s.failProve cause) := by
  have hcancel : s.CapturesMoved (s.cancelCapture s.proveRun) :=
    s.capturesMoved_modRun s.proveRun (fun _ => none) (fun x => x.watch)
  exact (hcancel.trans (State.capturesMoved_removeWatch _ s.proveRun)).trans
    (.of_eq (by simp [State.failProve, State.dropPass]))

theorem State.applyResult_pulses (res : ProveResult) (who : AcceptedBy) : (s.applyResult res who).pulses = s.pulses := by
  unfold State.applyResult
  dsimp only
  split <;> simp

theorem State.capturesMoved_evaluateProve : s.CapturesMoved s.evaluateProve := by
  simp only [State.evaluateProve, State.succeed]
  split
  · split
    · exact .of_eq (s.applyResult_pulses _ _)
    · exact .of_eq (by simp)
  · split
    · exact s.capturesMoved_failProve _
    · exact .of_eq (by simp)

theorem State.capturesMoved_endPass (tailExpired : Bool) : s.CapturesMoved (s.endPass tailExpired) := by
  have hwatch := s.capturesMoved_removeWatch s.proveRun
  unfold State.endPass
  dsimp only
  split
  case h_1 => exact hwatch.trans (.of_eq (by simp))
  case h_2 => exact hwatch.trans (.trans (.of_eq (by rfl)) (State.capturesMoved_evaluateProve _))
  all_goals exact .of_eq rfl

theorem State.capturesMoved_captureReported (report : CaptureReport) : s.CapturesMoved (s.captureReported report) := by
  unfold State.captureReported
  dsimp only
  split
  case h_3 | h_4 => exact .trans (.of_eq (by rfl)) (State.capturesMoved_endPass _ _)
  all_goals exact .of_eq rfl

end CapturesMoved

/-! ### Counting by one channel, and edges of both (R10, R12, R16) -/

/-- A run after an edge that is a good pulse where `counted` says so. -/
def RunPulse.countIf (x : RunPulse) (counted : Bool) (stamp : Stamp) : RunPulse :=
  if counted then x.goodStep stamp else x

/-- What one edge leaves of a run, `x` before and `y` after the pulse that it may be: the fields that the pulse moves, and
no other. -/
theorem RunPulse.countIf_spec {x : RunPulse} (h : x.counts.good ≤ Config.countTop) (counted : Bool) (stamp : Stamp) :
    (x.countIf counted stamp).counts.good = (if counted then min 65535 (x.counts.good + 1) else x.counts.good)
      ∧ (x.countIf counted stamp).counts.saturated
          = (x.counts.saturated || (counted && decide (x.counts.good = 65535)))
      ∧ (x.countIf counted stamp).counts.reverse = x.counts.reverse
      ∧ (x.countIf counted stamp).counts.phaseErrors = x.counts.phaseErrors
      ∧ (x.countIf counted stamp).counts.transitionsA = x.counts.transitionsA
      ∧ (x.countIf counted stamp).counts.transitionsB = x.counts.transitionsB
      ∧ (x.countIf counted stamp).goodIndex = (if counted then x.goodIndex + 1 else x.goodIndex)
      ∧ (x.countIf counted stamp).history
          = (if counted then pushHistory x.history ⟨stamp, x.goodIndex + 1⟩ else x.history)
      ∧ (x.countIf counted stamp).capture = (if counted && x.completesAt stamp then none else x.capture)
      ∧ x.countIf counted stamp = { x with
          counts := (x.countIf counted stamp).counts, goodIndex := (x.countIf counted stamp).goodIndex
          history := (x.countIf counted stamp).history, capture := (x.countIf counted stamp).capture } := by
  cases counted with
  | false => exact ⟨rfl, (Bool.or_false _).symm, rfl, rfl, rfl, rfl, rfl, rfl, rfl, rfl⟩
  | true =>
    obtain ⟨hgood, hsaturated⟩ := RunPulse.goodStep_good stamp h
    obtain ⟨hreverse, hphase, htransA, htransB⟩ := RunPulse.goodStep_counts_frame stamp x
    exact ⟨hgood, hsaturated, hreverse, hphase, htransA, htransB, rfl, rfl, rfl, rfl⟩

section OneChannel

variable {s : State} {r : Run} {ch : Channel} {m : Moment} {y : RunPulse} {stamp : Stamp}

/-- A run's edge, a good pulse where `counted` says so, with the report of the capture that it completes (R20). -/
def State.countEdge (s : State) (m : Moment) (r : Run) (y : RunPulse) (counted : Bool) (stamp : Stamp) : State :=
  (s.withRun m r (y.countIf counted stamp)).reported (counted && y.completesAt stamp)
    ⟨⟨stamp, y.goodIndex + 1⟩, false⟩

theorem State.countEdge_true : s.countEdge m r y true stamp = (s.withRun m r y).goodPulse r stamp :=
  (s.withRun_goodPulse m r y stamp).symm

theorem State.countEdge_false : s.countEdge m r y false stamp = s.withRun m r y := rfl

theorem State.countEdge_pulseState (counted : Bool) :
    (s.countEdge m r y counted stamp).pulses[r].pulseState = y.pulseState := by
  have hy : (y.countIf counted stamp).pulseState = y.pulseState := by cases counted <;> rfl
  simp only [State.countEdge, State.reported]
  split
  · have hmoved := congrArg RunPulse.pulseState
      ((s.withRun m r (y.countIf counted stamp)).capturesMoved_captureReported ⟨⟨stamp, y.goodIndex + 1⟩, false⟩ r)
    rw [hmoved, State.withRun_pulses, hy]
  · rw [State.withRun_pulses, hy]

theorem State.liveEdge_eq_self {t : State} (h : liveChannel? t.pulses[r].pulseState ≠ some ch) :
    t.liveEdge r ch stamp = t := if_neg fun hlive => h hlive.1

theorem State.withRun_liveEdge :
    (s.withRun m r y).liveEdge r ch stamp
      = s.countEdge m r y (decide (liveChannel? y.pulseState = some ch) && (y.channel ch).filtered) stamp := by
  simp only [State.liveEdge, State.withRun_pulses]
  split
  · next h => rw [decide_eq_true h.1, h.2, Bool.and_self, State.countEdge_true]
  · next h =>
    have hc : (decide (liveChannel? y.pulseState = some ch) && (y.channel ch).filtered) = false := by
      simpa using h
    rw [hc, State.countEdge_false]

theorem State.withRun_singleEdge :
    (s.withRun m r y).singleEdge r stamp = s.countEdge m r y y.chA.filtered stamp := by
  simp only [State.singleEdge, State.withRun_pulses]
  cases y.chA.filtered
  · rfl
  · rw [State.countEdge_true]; rfl

/-- Edges of both channels in one tick are one phase error, and the live channel's rise a good pulse beside it. -/
theorem State.withRun_pairEdge :
    (s.withRun m r y).pairEdge r stamp
      = s.countEdge m r (y.countPhaseError stamp)
          (y.chA.filtered && decide (y.pulseState = .singleAOnly)
            || y.chB.filtered && decide (y.pulseState = .singleBOnly)) stamp := by
  have hstate : (y.countPhaseError stamp).pulseState = y.pulseState := rfl
  simp only [State.pairEdge, State.withRun_modRun, State.withRun_liveEdge, hstate]
  cases hs : y.pulseState with
  | singleAOnly =>
    rw [State.liveEdge_eq_self (by rw [State.countEdge_pulseState, hstate, hs]; decide)]
    simp [liveChannel?, RunPulse.channel, RunPulse.countPhaseError, RunPulse.markIntegrity]
  | singleBOnly =>
    simp [liveChannel?, RunPulse.channel, State.countEdge_false, State.withRun_liveEdge, hs,
      RunPulse.countPhaseError, RunPulse.markIntegrity]
  | dualOk | singleMode =>
    simp [liveChannel?, State.countEdge_false, State.withRun_liveEdge, hstate, hs]

theorem State.withRun_decodeEdge_singleA {x : RunPulse} (hin : s.ret.service[r] = .inService)
    (hmode : x.settings.mode = .singleA) (hstate : x.pulseState = .singleMode) :
    (s.withRun m r (x.acceptOn ch)).decodeEdge r ch stamp
      = s.countEdge m r (x.acceptOn ch)
          ((x.channel ch).raw && decide (ch = (if x.pulseState = .singleBOnly then Channel.b else Channel.a)))
          stamp := by
  simp only [State.decodeEdge, State.withRun_ret, hin, State.withRun_pulses, x.acceptOn_frame.1, hmode, hstate]
  cases ch with
  | a =>
    show (s.withRun m r (x.acceptOn .a)).singleEdge r stamp = s.countEdge m r (x.acceptOn .a) (x.chA.raw && true) stamp
    rw [State.withRun_singleEdge, Bool.and_true]
    rfl
  | b =>
    show s.withRun m r (x.acceptOn .b) = s.countEdge m r (x.acceptOn .b) (x.chB.raw && false) stamp
    rw [Bool.and_false, State.countEdge_false]

theorem State.withRun_decodeEdge_degraded {x : RunPulse} (hin : s.ret.service[r] = .inService)
    (hmode : x.settings.mode = .dual) (hdegraded : x.pulseState.degraded = true) :
    (s.withRun m r (x.acceptOn ch)).decodeEdge r ch stamp
      = s.countEdge m r (x.edgeOn ch)
          ((x.channel ch).raw && decide (ch = (if x.pulseState = .singleBOnly then Channel.b else Channel.a)))
          stamp := by
  have hlive : (s.withRun m r (x.acceptOn ch)).loneEdge r ch stamp = (s.withRun m r (x.edgeOn ch)).liveEdge r ch stamp := by
    rw [State.withRun_loneEdge]
    cases hs : x.pulseState <;> simp_all [PulseState.degraded]
  have hstate : (x.edgeOn ch).pulseState = x.pulseState := x.acceptOn_frame.2.1
  have hraw : ((x.edgeOn ch).channel ch).filtered = (x.channel ch).raw := by cases ch <;> rfl
  simp only [State.decodeEdge, State.withRun_ret, hin, State.withRun_pulses, x.acceptOn_frame.1, hmode]
  rw [hlive, State.withRun_liveEdge, hstate, hraw, Bool.and_comm]
  cases hs : x.pulseState with
  | singleAOnly | singleBOnly => cases ch <;> rfl
  | dualOk | singleMode => rw [hs] at hdegraded; cases hdegraded

end OneChannel

/-- Settles O18: with one channel counted, the edge is a good pulse where that channel rises. -/
theorem oneChannelCountsRisingEdges : Obligations.OneChannelCountsRisingEdges := by
  intro s r ch u hrun hset hin hrange hu hother hcase
  obtain ⟨-, -, hgood, -⟩ := hrange
  generalize hx : s.pulses[r] = x at *
  let stamp := stampOf u
  let dual := decide (x.settings.mode = .dual)
  let counted := (x.channel ch).raw && decide (ch = (if x.pulseState = .singleBOnly then Channel.b else Channel.a))
  let base := if dual then x.edgeOn ch else x.acceptOn ch
  let m := max s.now (u + handoverTicks x.settings.width)
  have hf : filterAccept r ch s = s.countEdge m r base counted stamp := by
    rw [filterAccept_alone (by rw [hx]; exact hu) (by rw [hx]; exact hother), hx]
    rcases hcase with ⟨hmode, hstate⟩ | ⟨hmode, hdegraded⟩
    · rw [State.withRun_decodeEdge_singleA hin hmode hstate]
      simp only [base, dual, hmode, decide_false, reduceCtorEq, Bool.false_eq_true, if_false]
      rfl
    · rw [State.withRun_decodeEdge_degraded hin hmode hdegraded]
      simp only [base, dual, hmode, decide_true, if_true]
      rfl
  have hparts := State.reported_settle (t := s.withRun m r (base.countIf counted stamp)) hset
    (completes := counted && base.completesAt stamp) ⟨⟨stamp, base.goodIndex + 1⟩, false⟩
  have hbase : base.counts.good = x.counts.good ∧ base.capture = x.capture ∧ base.goodIndex = x.goodIndex := by
    simp only [base]
    cases dual <;> cases ch <;> exact ⟨rfl, rfl, rfl⟩
  obtain ⟨hbaseGood, hbaseCapture, hbaseIndex⟩ := hbase
  obtain ⟨hgood', hsaturated, hreverse, hphase, htransA, htransB, hindex, hhistory, hcapture, hframe⟩ :=
    RunPulse.countIf_spec (x := base) (by rw [hbaseGood]; exact hgood) counted stamp
  have hcompletes : base.completesAt stamp = x.capture.any (fun tick => atOrAfter stamp tick) := by
    rw [RunPulse.completesAt, hbaseCapture]
  rw [hcompletes, hbaseIndex] at hparts
  rw [hcompletes] at hcapture
  have hexec := exec_of_event hrun (c := .pulseFilterAccept r ch) rfl
  rw [hf, State.countEdge, hcompletes, hbaseIndex] at hexec
  refine ⟨_, _, x, base.countIf counted stamp, counted, dual, _, hexec, rfl, rfl, rfl, rfl, rfl, hparts.1, hparts.2,
    hcapture.trans (by rw [hbaseCapture]), ?_⟩
  rw [hbaseGood] at hgood' hsaturated
  rw [hbaseIndex] at hindex hhistory
  generalize base.countIf counted stamp = y at *
  have hA := congrArg RunPulse.chA hframe
  have hB := congrArg RunPulse.chB hframe
  have href := congrArg RunPulse.reference hframe
  have hlevels : y.levels = base.levels := by rw [RunPulse.levels, hA, hB]; rfl
  rw [hlevels]
  clear_value dual
  cases dual <;> cases ch
  case false.a | true.a =>
    exact ⟨hA, hB, href, htransA, htransB, hgood', hsaturated, hreverse, hphase, hindex, hhistory,
      by rw [hA, hB, href]; exact hframe⟩
  case false.b | true.b =>
    exact ⟨hB, hA, href, htransA, htransB, hgood', hsaturated, hreverse, hphase, hindex, hhistory,
      by rw [hA, hB, href]; exact hframe⟩

/-! ### Edges of both channels in one tick (R12) -/

/-- The accepted levels of both channels. -/
def RunPulse.acceptBoth (x : RunPulse) : RunPulse := (x.acceptOn .a).acceptOn .b

theorem filterAccept_pair {s : State} {r : Run} {ch : Channel} {u : Moment}
    (hu : (s.pulses[r].channel ch).since = some u)
    (hother : (s.pulses[r].channel (otherChannel ch)).since = some u) :
    filterAccept r ch s
      = (s.withRun (max s.now (u + handoverTicks s.pulses[r].settings.width)) r s.pulses[r].acceptBoth).decodePair
          r (stampOf u) := by
  have hpair : (s.acceptChannel r ch u).acceptChannel r (otherChannel ch) u
      = s.withRun (max s.now (u + handoverTicks s.pulses[r].settings.width)) r s.pulses[r].acceptBoth := by
    rw [State.acceptChannel_eq, State.acceptChannel_eq, State.withRun_pulses, State.withRun_withRun,
      (RunPulse.acceptOn_frame _).1, State.withRun_now, max_eq_left (le_max_right _ _)]
    cases ch <;> rfl
  simp only [filterAccept, hu, hother, lt_irrefl, if_false, if_true, hpair]

/-- Settles O17: the pair is one phase error in DUAL, and beside it the counted channel's rise a good pulse. -/
theorem edgesInOneTickAreAPhaseError : Obligations.EdgesInOneTickAreAPhaseError := by
  intro s r ch u hrun hset hin hrange hu hother
  obtain ⟨-, -, hgood, -⟩ := hrange
  generalize hx : s.pulses[r] = x at *
  let stamp := stampOf u
  let dual := decide (x.settings.mode = .dual)
  let counted := if dual then x.chA.raw && decide (x.pulseState = .singleAOnly)
              || x.chB.raw && decide (x.pulseState = .singleBOnly)
             else x.chA.raw
  let base := if dual then x.acceptBoth.countPhaseError stamp else x.acceptBoth
  let m := max s.now (u + handoverTicks x.settings.width)
  have hf : filterAccept r ch s = s.countEdge m r base counted stamp := by
    rw [filterAccept_pair (by rw [hx]; exact hu) (by rw [hx]; exact hother), hx]
    have hsettings : x.acceptBoth.settings = x.settings := rfl
    simp only [State.decodePair, State.withRun_ret, hin, State.withRun_pulses, hsettings]
    cases hmode : x.settings.mode with
    | dual =>
      simp only [State.withRun_pairEdge, base, counted, dual, hmode, decide_true, if_true]
      rfl
    | singleA =>
      simp only [State.withRun_singleEdge, base, counted, dual, hmode, decide_false, reduceCtorEq, Bool.false_eq_true,
        if_false]
      rfl
  have hparts := State.reported_settle (t := s.withRun m r (base.countIf counted stamp)) hset
    (completes := counted && base.completesAt stamp) ⟨⟨stamp, base.goodIndex + 1⟩, false⟩
  have hbase : base.counts.good = x.counts.good ∧ base.capture = x.capture ∧ base.goodIndex = x.goodIndex := by
    simp only [base]
    cases dual <;> exact ⟨rfl, rfl, rfl⟩
  obtain ⟨hbaseGood, hbaseCapture, hbaseIndex⟩ := hbase
  obtain ⟨hgood', hsaturated, hreverse, hphase, htransA, htransB, hindex, hhistory, hcapture, hframe⟩ :=
    RunPulse.countIf_spec (x := base) (by rw [hbaseGood]; exact hgood) counted stamp
  have hcompletes : base.completesAt stamp = x.capture.any (fun tick => atOrAfter stamp tick) := by
    rw [RunPulse.completesAt, hbaseCapture]
  rw [hcompletes, hbaseIndex] at hparts
  rw [hcompletes] at hcapture
  have hexec := exec_of_event hrun (c := .pulseFilterAccept r ch) rfl
  rw [hf, State.countEdge, hcompletes, hbaseIndex] at hexec
  refine ⟨_, _, x, base.countIf counted stamp, counted, dual, _, hexec, rfl, rfl, rfl, rfl, rfl, hparts.1, hparts.2,
    hcapture.trans (by rw [hbaseCapture]), ?_⟩
  rw [hbaseGood] at hgood' hsaturated
  rw [hbaseIndex] at hindex hhistory
  generalize base.countIf counted stamp = y at *
  have hA := congrArg RunPulse.chA hframe
  have hB := congrArg RunPulse.chB hframe
  have href := congrArg RunPulse.reference hframe
  have herror := congrArg RunPulse.lastPhaseError hframe
  have hwatch := congrArg RunPulse.watch hframe
  clear_value dual counted
  cases dual <;>
    exact ⟨hA, hB, href, hphase, htransA, htransB, hgood', hsaturated, hreverse, hindex, hhistory, herror, hwatch,
      by rw [hA, hB, href, herror, hwatch]; exact hframe⟩

end Sys2Proof.Machine
end

section
/-! The period expiry (R5, R7, R14 to R18, R21): its steps as one change of the run beside four moves of alarms. -/

namespace Sys2Proof.Machine

set_option Elab.async false

/-! ### Alarms of one owner moved -/

/-- Only alarms of the list have moved, and ALARM_CHANGED is set where one has (R190, R196). -/
structure State.AlarmsMoved (as : List AlarmId) (s t : State) : Prop where
  frame : t = { s with alarms := t.alarms, flags := t.flags }
  other : ∀ a, a ∉ as → t.alarm a = s.alarm a
  flags : t.flags = { s.flags with alarmChanged := t.flags.alarmChanged }
  changed : t = s ∨ t.flags.alarmChanged = true

section AlarmsMoved

variable {s t u : State} {as bs : List AlarmId} {a : AlarmId} {f : AlarmState → AlarmState}

theorem State.AlarmsMoved.refl : s.AlarmsMoved as s := ⟨rfl, fun _ _ => rfl, rfl, .inl rfl⟩

theorem State.AlarmsMoved.trans (h : s.AlarmsMoved as t) (k : t.AlarmsMoved bs u) : s.AlarmsMoved (as ++ bs) u where
  frame := by rw [k.frame, h.frame]
  other a ha := by
    rw [List.mem_append, not_or] at ha
    rw [k.other a ha.2, h.other a ha.1]
  flags := by rw [k.flags, h.flags]
  changed := by
    rcases k.changed with rfl | hu
    · exact h.changed
    · exact .inr hu

theorem State.alarmsMoved_moveAlarm (s : State) (a : AlarmId) (f : AlarmState → AlarmState) :
    s.AlarmsMoved [a] (s.moveAlarm a f) where
  frame := State.moveAlarm_eq_with
  other b hb := s.alarm_moveAlarm_other a b f fun h => hb (by simp [h])
  flags := by unfold State.moveAlarm; split <;> rfl
  changed := by
    unfold State.moveAlarm
    split
    · exact .inl rfl
    · exact .inr rfl

theorem State.alarmsMoved_setAlarm (s : State) (a : AlarmId) (raised : Bool) :
    s.AlarmsMoved [a] (s.setAlarm a raised) := by
  rw [State.setAlarm_eq_moveAlarm]
  exact s.alarmsMoved_moveAlarm a _

theorem State.AlarmsMoved.pulses (h : s.AlarmsMoved as t) : t.pulses = s.pulses := by rw [h.frame]

theorem State.AlarmsMoved.params (h : s.AlarmsMoved as t) : t.params = s.params := by rw [h.frame]

theorem State.AlarmsMoved.now (h : s.AlarmsMoved as t) : t.now = s.now := by rw [h.frame]

theorem State.AlarmsMoved.clock (h : s.AlarmsMoved as t) : t.clock = s.clock := by rw [h.frame]

theorem State.AlarmsMoved.settled (h : s.AlarmsMoved as t) (hs : s.Settled) : t.Settled := by
  rw [h.frame]
  exact hs

theorem State.AlarmsMoved.of_alarms_ne (h : s.AlarmsMoved as t) (hne : t.alarms ≠ s.alarms) :
    t.flags.alarmChanged = true := by
  rcases h.changed with rfl | hchanged
  · exact absurd rfl hne
  · exact hchanged

theorem State.AlarmsMoved.mono (h : s.AlarmsMoved as t) (hset : s.flags.alarmChanged = true) :
    t.flags.alarmChanged = true := by
  rcases h.changed with rfl | hchanged
  · exact hset
  · exact hchanged

theorem State.alarm_eq_of_alarms_eq (h : t.alarms = s.alarms) (a : AlarmId) : t.alarm a = s.alarm a := by
  simp only [State.alarm, h]

/-- A move that does not show in its alarm is none at all. -/
theorem State.moveAlarm_of_alarm_eq (h : (s.moveAlarm a f).alarm a = s.alarm a) : s.moveAlarm a f = s := by
  have hstate := s.alarm_moveAlarm_same a f
  rw [h] at hstate
  exact State.moveAlarm_of_fixed hstate.symm

end AlarmsMoved

section Momentary

variable (s : State) (a : AlarmId)

/-- A momentary condition sets ALARM_CHANGED, whatever the alarm's state was (R191). -/
theorem State.pulseAlarm_flags : (s.pulseAlarm a).flags.alarmChanged = true := by
  have hraise : (s.raiseAlarm a).flags.alarmChanged = true ∨ s.raiseAlarm a = s ∧ s.alarmRaised a = true := by
    unfold State.raiseAlarm State.moveAlarm State.alarmRaised
    cases (s.alarm a).state <;> simp [AlarmState.raised, EventFlags.add]
  unfold State.pulseAlarm
  rcases hraise with hset | ⟨hsame, hraised⟩
  · exact (State.alarmsMoved_moveAlarm _ a .cleared).mono hset
  · rw [hsame]
    unfold State.clearAlarm State.moveAlarm
    unfold State.alarmRaised at hraised
    cases hx : (s.alarm a).state <;> simp_all [AlarmState.cleared, EventFlags.add]

theorem State.alarmsMoved_pulseAlarm : s.AlarmsMoved [a] (s.pulseAlarm a) := by
  obtain ⟨hframe, hother, hflags, hchanged⟩ :=
    (s.alarmsMoved_moveAlarm a .raised).trans (State.alarmsMoved_moveAlarm _ a .cleared)
  exact ⟨hframe, fun b hb => hother b (by simpa using hb), hflags, hchanged⟩

theorem State.alarmRaised_pulseAlarm : (s.pulseAlarm a).alarmRaised a = false := by
  have h : ((s.raiseAlarm a).setAlarm a false).alarmRaised a = false := State.alarmRaised_setAlarm _ a false
  exact h

theorem State.pulseAlarm_returned (h : s.alarmRaised a = false) :
    ((s.pulseAlarm a).alarm a).state = .returnedUnack := by
  have hstate : ((s.pulseAlarm a).alarm a).state = (s.alarm a).state.raised.cleared := by
    rw [State.pulseAlarm, State.clearAlarm, State.alarm_moveAlarm_same, State.raiseAlarm, State.alarm_moveAlarm_same]
  unfold State.alarmRaised at h
  rw [hstate]
  cases hx : (s.alarm a).state with
  | normal | returnedUnack => rfl
  | activeUnack | activeAck => rw [hx] at h; cases h

end Momentary

/-! ### The expiry of one run (R5) -/

/-- What the pulse-state tests leave of a run, and the mode change that replaces their outcome (R7, R15, R17). -/
def RunPulse.judged (x : RunPulse) (mode : PulseMode) : RunPulse :=
  if x.settings.mode = mode then
    let new := testedState x.counts x.pulseState
    if decide (x.pulseState = .dualOk) && new.degraded then { x with pulseState := new, quarter := 0 }
    else if x.pulseState.degraded && decide (new = .dualOk) then
      { x with pulseState := new, quarter := 0, reference := x.levels }
    else { x with pulseState := new }
  else
    match mode with
    | .singleA => { x with pulseState := .singleMode, quarter := 0 }
    | .dual => { x with pulseState := .dualOk, quarter := 0, reference := x.levels }

/-- What they do to PULSE_DEGRADED. -/
def RunPulse.degradedMove (x : RunPulse) (mode : PulseMode) : AlarmState → AlarmState :=
  if x.settings.mode = mode then
    let new := testedState x.counts x.pulseState
    if decide (x.pulseState = .dualOk) && new.degraded then .raised
    else if x.pulseState.degraded && decide (new = .dualOk) then .cleared
    else id
  else
    match mode with
    | .singleA => .cleared
    | .dual => id

/-- A run in the next period, with the counts at 0, the settings read and the timer started again (R5, R21). -/
def RunPulse.nextPeriod (x : RunPulse) (m : Meter) (now : Moment) : RunPulse :=
  { x with counts := .zero, settings := settingsOf m, timerFrom := some now }.markDegraded

section Expiry

variable {s : State} {r : Run}

theorem State.moveAlarm_modRun (a : AlarmId) (f : AlarmState → AlarmState) (g : RunPulse → RunPulse) :
    (s.modRun r g).moveAlarm a f = (s.moveAlarm a f).modRun r g := by
  by_cases h : f (s.alarm a).state = (s.alarm a).state
  · rw [State.moveAlarm_of_fixed h]
    exact State.moveAlarm_of_fixed h
  · rw [State.moveAlarm, State.moveAlarm, if_neg h]
    exact if_neg h

theorem State.modRun_modRun (f g : RunPulse → RunPulse) :
    (s.modRun r f).modRun r g = s.modRun r (fun x => g (f x)) := by
  have hself : (s.pulses.set r (f s.pulses[r]))[r] = f s.pulses[r] := Vector.getElem_set_self _
  have hset : (s.pulses.set r (f s.pulses[r])).set r (g (f s.pulses[r])) = s.pulses.set r (g (f s.pulses[r])) :=
    Vector.set_set ..
  show { s with pulses := (s.pulses.set r (f s.pulses[r])).set r (g (s.pulses.set r (f s.pulses[r]))[r]) } = _
  rw [hself, hset]
  rfl

theorem State.modRun_congr {f g : RunPulse → RunPulse} (h : f s.pulses[r] = g s.pulses[r]) :
    s.modRun r f = s.modRun r g := by
  unfold State.modRun modAt
  rw [h]

theorem State.pulseTests_eq :
    s.pulseTests r = (s.modRun r (fun x => x.judged x.settings.mode)).moveAlarm (.run r .pulseDegraded)
      (s.pulses[r].degradedMove s.pulses[r].settings.mode) := by
  unfold State.pulseTests RunPulse.degradedMove
  dsimp only
  rw [if_pos rfl, State.modRun_modRun, State.modRun_modRun]
  split
  · next hfall =>
    exact congrArg (State.moveAlarm · _ _) (State.modRun_congr (by simp only [RunPulse.judged, hfall, if_true]))
  · next hfall =>
    split
    · next hback =>
      exact congrArg (State.moveAlarm · _ _)
        (State.modRun_congr (by
          simp only [RunPulse.judged, hfall, hback, if_true, if_false, Bool.false_eq_true]
          rfl))
    · next hback =>
      rw [State.moveAlarm_id]
      exact State.modRun_congr (by simp only [RunPulse.judged, hfall, hback, if_true, if_false, Bool.false_eq_true])

theorem State.judgePulses_eq :
    s.judgePulses r = (s.modRun r (fun x => x.judged s.params.meter[r].mode)).moveAlarm (.run r .pulseDegraded)
      (s.pulses[r].degradedMove s.params.meter[r].mode) := by
  unfold State.judgePulses
  split
  · next hmode => rw [State.pulseTests_eq, ← hmode]; rfl
  · next hmode =>
    unfold State.changeMode RunPulse.degradedMove
    rw [if_neg hmode]
    generalize s.params.meter[r].mode = mode at hmode ⊢
    cases mode with
    | singleA =>
      have hjudged : s.pulses[r].judged .singleA = { s.pulses[r] with pulseState := .singleMode, quarter := 0 } :=
        if_neg hmode
      exact congrArg (State.moveAlarm · _ _) (State.modRun_congr hjudged.symm)
    | dual =>
      have hjudged : s.pulses[r].judged .dual
          = { s.pulses[r] with pulseState := .dualOk, quarter := 0, reference := s.pulses[r].levels } := if_neg hmode
      rw [State.moveAlarm_id]
      exact State.modRun_congr hjudged.symm

/-- The state of an expiry before its alarms move: the run in its next period, with its counts handed over. -/
def State.expired (s : State) (r : Run) (m : Moment) : State :=
  { s with
    now := m
    pulses := s.pulses.set r ((s.pulses[r].judged s.params.meter[r].mode).nextPeriod s.params.meter[r] m)
    cen := s.cen.set r { s.cen[r] with handover := some (s.handoverOf r Config.periodMs false) } }

/-- The alarms of an expiry before PULSE_DEGRADED is judged. -/
def State.periodAlarmsOf (s : State) (r : Run) (x : RunPulse) : State :=
  let s2 := (s.setAlarm (.run r .pulseError) (decide (x.settings.phaseErrorLimit < x.counts.phaseErrors))).setAlarm
    (.run r .reverseFlow) (decide (1 ≤ x.counts.reverse))
  if x.counts.saturated then s2.pulseAlarm (.run r .countOverrun) else s2

theorem State.periodAlarmsOf_modRun (x : RunPulse) (g : RunPulse → RunPulse) :
    (s.modRun r g).periodAlarmsOf r x = (s.periodAlarmsOf r x).modRun r g := by
  simp only [State.periodAlarmsOf, State.setAlarm_eq_moveAlarm, State.pulseAlarm, State.raiseAlarm, State.clearAlarm,
    State.moveAlarm_modRun]
  split <;> rfl

theorem State.alarmsMoved_periodAlarmsOf (s : State) (r : Run) (x : RunPulse) :
    s.AlarmsMoved ([.run r .pulseError] ++ [.run r .reverseFlow] ++ [.run r .countOverrun]) (s.periodAlarmsOf r x) := by
  have hsets := (s.alarmsMoved_setAlarm (.run r .pulseError)
    (decide (x.settings.phaseErrorLimit < x.counts.phaseErrors))).trans
    (State.alarmsMoved_setAlarm _ (.run r .reverseFlow) (decide (1 ≤ x.counts.reverse)))
  unfold State.periodAlarmsOf
  dsimp only
  split
  · exact hsets.trans (State.alarmsMoved_pulseAlarm _ _)
  · exact hsets.trans .refl

theorem periodExpiry_eq {u : Moment} (ht : s.pulses[r].timerFrom = some u) (hh : s.cen[r].handover = none)
    (hc : s.cen[r].computed = none) :
    periodExpiry r s
      = ((s.expired r (max s.now (u + 10000000))).periodAlarmsOf r s.pulses[r]).moveAlarm (.run r .pulseDegraded)
          (s.pulses[r].degradedMove s.params.meter[r].mode) := by
  let s2 := (s.atMoment (u + 10000000)).modCen r
    (fun x => { x with handover := some (s.handoverOf r Config.periodMs false) })
  let s3 := s2.periodAlarmsOf r s.pulses[r]
  have hmoved : s2.AlarmsMoved _ s3 := s2.alarmsMoved_periodAlarmsOf r s.pulses[r]
  have hpulses := hmoved.pulses
  have hparams := hmoved.params
  have hnow := hmoved.now
  have hsteps : periodExpiry r s = (s3.judgePulses r).nextPeriod r := by
    unfold periodExpiry
    rw [ht]
    dsimp only
    rw [State.finishSteps_of_none (s := s.atMoment _) hh hc]
    rfl
  have hjudge := s3.judgePulses_eq (r := r)
  rw [hpulses, hparams] at hjudge
  have hnext (s4 : State) (hp : s4.params = s2.params) (hn : s4.now = s2.now) :
      s4.nextPeriod r = s4.modRun r (fun x => x.nextPeriod s.params.meter[r] (max s.now (u + 10000000))) := by
    unfold State.nextPeriod
    rw [hp, hn]
    rfl
  rw [hsteps, hjudge, hnext _ (by simp [hparams]) (by simp [hnow]), ← State.moveAlarm_modRun, State.modRun_modRun,
    ← State.periodAlarmsOf_modRun]
  rfl

end Expiry

/-! ### The run after the expiry -/

section NextPeriod

variable (x : RunPulse) (mode : PulseMode) (m : Meter) (now : Moment)

/-- What the pulse-state tests leave of a run as it was. -/
theorem RunPulse.judged_frame :
    (x.judged mode).flow = x.flow ∧ (x.judged mode).goodIndex = x.goodIndex ∧ (x.judged mode).history = x.history
      ∧ (x.judged mode).capture = x.capture ∧ (x.judged mode).chA = x.chA ∧ (x.judged mode).chB = x.chB
      ∧ (x.judged mode).lastPhaseError = x.lastPhaseError ∧ (x.judged mode).lastReverse = x.lastReverse
      ∧ (x.judged mode).watch = x.watch := by
  unfold RunPulse.judged
  dsimp only
  repeat' split
  all_goals exact ⟨rfl, rfl, rfl, rfl, rfl, rfl, rfl, rfl, rfl⟩

theorem RunPulse.nextPeriod_frame :
    (x.nextPeriod m now).counts = .zero ∧ (x.nextPeriod m now).timerFrom = some now
      ∧ (x.nextPeriod m now).settings = settingsOf m ∧ (x.nextPeriod m now).pulseState = x.pulseState
      ∧ (x.nextPeriod m now).quarter = x.quarter ∧ (x.nextPeriod m now).reference = x.reference
      ∧ (x.nextPeriod m now).flow = x.flow ∧ (x.nextPeriod m now).goodIndex = x.goodIndex
      ∧ (x.nextPeriod m now).history = x.history ∧ (x.nextPeriod m now).capture = x.capture
      ∧ (x.nextPeriod m now).chA = x.chA ∧ (x.nextPeriod m now).chB = x.chB
      ∧ (x.nextPeriod m now).lastPhaseError = x.lastPhaseError
      ∧ (x.nextPeriod m now).lastReverse = x.lastReverse := by
  unfold RunPulse.nextPeriod RunPulse.markDegraded
  split <;> exact ⟨rfl, rfl, rfl, rfl, rfl, rfl, rfl, rfl, rfl, rfl, rfl, rfl, rfl, rfl⟩

theorem RunPulse.nextPeriod_watch :
    (x.nextPeriod m now).watch
      = (if m.mode = PulseMode.dual ∧ x.pulseState ≠ .dualOk
        then x.watch.map (fun w => { w with integrity := true }) else x.watch) := by
  unfold RunPulse.nextPeriod RunPulse.markDegraded
  split
  · next h => exact (if_pos h).symm
  · next h => exact (if_neg h).symm

theorem testedState_dualOk (c : PeriodCounts) :
    testedState c .dualOk = .dualOk ∨ (testedState c .dualOk).degraded = true := by
  simp only [testedState]
  repeat' split
  all_goals simp [PulseState.degraded]

variable {x} {mode}

/-- The tests of the pulse state without a mode change: a fall from DUAL_OK, a return to it, or neither (R15, R17). -/
theorem RunPulse.judged_of_mode_eq (h : x.settings.mode = mode) :
    (x.judged mode).pulseState = testedState x.counts x.pulseState
      ∧ (x.pulseState = .dualOk → (x.judged mode).pulseState ≠ .dualOk →
          (x.judged mode).quarter = 0 ∧ (x.judged mode).reference = x.reference ∧ x.degradedMove mode = .raised)
      ∧ (x.pulseState.degraded = true → (x.judged mode).pulseState = .dualOk →
          (x.judged mode).quarter = 0 ∧ (x.judged mode).reference = x.levels ∧ x.degradedMove mode = .cleared)
      ∧ ((x.pulseState = .dualOk ↔ (x.judged mode).pulseState = .dualOk) →
          (x.judged mode).quarter = x.quarter ∧ (x.judged mode).reference = x.reference ∧ x.degradedMove mode = id) := by
  have htested := testedState_dualOk x.counts
  unfold RunPulse.judged RunPulse.degradedMove
  dsimp only
  rw [if_pos h, if_pos h]
  by_cases hfall : (decide (x.pulseState = .dualOk) && (testedState x.counts x.pulseState).degraded) = true
  · rw [if_pos hfall, if_pos hfall]
    simp only [Bool.and_eq_true, decide_eq_true_eq] at hfall
    obtain ⟨hok, hdegraded⟩ := hfall
    have hne : testedState x.counts x.pulseState ≠ .dualOk := by
      intro heq
      rw [heq] at hdegraded
      cases hdegraded
    exact ⟨rfl, fun _ _ => ⟨rfl, rfl, rfl⟩, fun hd => absurd hd (by rw [hok]; decide),
      fun hiff => absurd (hiff.mp hok) hne⟩
  · rw [if_neg hfall, if_neg hfall]
    by_cases hback : (x.pulseState.degraded && decide (testedState x.counts x.pulseState = .dualOk)) = true
    · rw [if_pos hback, if_pos hback]
      simp only [Bool.and_eq_true, decide_eq_true_eq] at hback
      obtain ⟨hdegraded, hok⟩ := hback
      have hne : x.pulseState ≠ .dualOk := by
        intro heq
        rw [heq] at hdegraded
        cases hdegraded
      exact ⟨rfl, fun heq => absurd heq hne, fun _ _ => ⟨rfl, rfl, rfl⟩, fun hiff => absurd (hiff.mpr hok) hne⟩
    · rw [if_neg hback, if_neg hback]
      simp only [Bool.and_eq_true, decide_eq_true_eq, not_and] at hfall hback
      refine ⟨rfl, fun hok hne => ?_, fun hd heq => absurd heq (hback hd), fun _ => ⟨rfl, rfl, rfl⟩⟩
      have hnot := hfall hok
      rw [hok] at hnot hne
      exact (htested.elim hne hnot).elim

theorem RunPulse.judged_of_mode_ne (h : x.settings.mode ≠ mode) :
    (mode = .singleA → (x.judged mode).pulseState = .singleMode ∧ (x.judged mode).quarter = 0
        ∧ (x.judged mode).reference = x.reference ∧ x.degradedMove mode = .cleared)
      ∧ (mode = .dual → (x.judged mode).pulseState = .dualOk ∧ (x.judged mode).quarter = 0
        ∧ (x.judged mode).reference = x.levels ∧ x.degradedMove mode = id) := by
  unfold RunPulse.judged RunPulse.degradedMove
  rw [if_neg h, if_neg h]
  refine ⟨?_, ?_⟩ <;> rintro rfl <;> exact ⟨rfl, rfl, rfl, rfl⟩

end NextPeriod

/-- The rows of the pulse-state tests (R15, R17). -/
theorem testedState_table (c : PeriodCounts) :
      (testedState c .dualOk = .singleAOnly ↔ 16 ≤ c.transitionsA ∧ c.transitionsB = 0)
      ∧ (testedState c .dualOk = .singleBOnly ↔ 16 ≤ c.transitionsB ∧ c.transitionsA = 0)
      ∧ (∀ p : PulseState, p.degraded = true →
          (testedState c p = .dualOk ↔ 16 ≤ c.transitionsA ∧ 16 ≤ c.transitionsB ∧ c.phaseErrors = 0))
      ∧ (testedState c .singleAOnly = .singleBOnly ↔ c.transitionsA = 0 ∧ 16 ≤ c.transitionsB)
      ∧ (testedState c .singleBOnly = .singleAOnly ↔ c.transitionsB = 0 ∧ 16 ≤ c.transitionsA)
      ∧ testedState c .singleMode = .singleMode ∧ ∀ p : PulseState, p ≠ .singleMode → testedState c p ≠ .singleMode := by
  have hactive (n : Nat) : activeChannel n = decide (16 ≤ n) := rfl
  refine ⟨?_, ?_, fun p hp => ?_, ?_, ?_, rfl, fun p hp => ?_⟩
  case refine_3 => cases p <;> grind [testedState, PulseState.degraded]
  case refine_6 => cases p <;> grind [testedState]
  all_goals grind [testedState]

/-! ### The alarms of the expiry -/

section PeriodAlarms

variable (s : State) (r : Run) (x : RunPulse)

theorem State.alarm_pulseAlarm (a : AlarmId) :
    (s.pulseAlarm a).alarm a = ((s.alarm a).moved s.clock .raised).moved s.clock .cleared := by
  rw [State.pulseAlarm, State.clearAlarm, State.alarm_moveAlarm, State.raiseAlarm, State.alarm_moveAlarm,
    (s.alarmsMoved_moveAlarm a .raised).clock]

theorem State.periodAlarmsOf_raised :
    (s.periodAlarmsOf r x).alarmRaised (.run r .pulseError)
        = decide (x.settings.phaseErrorLimit < x.counts.phaseErrors)
      ∧ (s.periodAlarmsOf r x).alarmRaised (.run r .reverseFlow) = decide (1 ≤ x.counts.reverse) := by
  have hoverrun (t : State) : t.AlarmsMoved [.run r .countOverrun]
      (if x.counts.saturated then t.pulseAlarm (.run r .countOverrun) else t) := by
    split
    · exact t.alarmsMoved_pulseAlarm _
    · exact .refl
  unfold State.periodAlarmsOf
  dsimp only
  refine ⟨?_, ?_⟩
  · rw [State.alarmRaised_congr ((hoverrun _).other _ (by simp)),
      State.alarmRaised_congr (State.alarm_setAlarm_other _ _ _ (by simp)), State.alarmRaised_setAlarm]
  · rw [State.alarmRaised_congr ((hoverrun _).other _ (by simp)), State.alarmRaised_setAlarm]

theorem State.periodAlarmsOf_saturated (h : x.counts.saturated = true) :
    (s.periodAlarmsOf r x).alarm (.run r .countOverrun) = (s.pulseAlarm (.run r .countOverrun)).alarm (.run r .countOverrun)
      ∧ (s.periodAlarmsOf r x).flags.alarmChanged = true := by
  have hsets := (s.alarmsMoved_setAlarm (.run r .pulseError)
    (decide (x.settings.phaseErrorLimit < x.counts.phaseErrors))).trans
    (State.alarmsMoved_setAlarm _ (.run r .reverseFlow) (decide (1 ≤ x.counts.reverse)))
  unfold State.periodAlarmsOf
  dsimp only
  rw [if_pos h]
  refine ⟨?_, State.pulseAlarm_flags _ _⟩
  rw [State.alarm_pulseAlarm, State.alarm_pulseAlarm, hsets.other _ (by simp), hsets.clock]

/-- Moves of different alarms that show in none of them are no moves. -/
theorem State.periodAlarmsOf_of_alarms_eq {a : AlarmId} {f : AlarmState → AlarmState}
    (hsat : x.counts.saturated = false) (ha : a = .run r .pulseDegraded)
    (h : ((s.periodAlarmsOf r x).moveAlarm a f).alarms = s.alarms) : (s.periodAlarmsOf r x).moveAlarm a f = s := by
  subst ha
  have hall := State.alarm_eq_of_alarms_eq h
  unfold State.periodAlarmsOf at hall ⊢
  simp only [hsat, Bool.false_eq_true, if_false, State.setAlarm_eq_moveAlarm] at hall ⊢
  have herror := hall (.run r .pulseError)
  rw [State.alarm_moveAlarm_other _ _ _ _ (by simp), State.alarm_moveAlarm_other _ _ _ _ (by simp)] at herror
  rw [State.moveAlarm_of_alarm_eq herror] at hall ⊢
  have hreverse := hall (.run r .reverseFlow)
  rw [State.alarm_moveAlarm_other _ _ _ _ (by simp)] at hreverse
  rw [State.moveAlarm_of_alarm_eq hreverse] at hall ⊢
  exact State.moveAlarm_of_alarm_eq (hall _)

end PeriodAlarms

/-- Settles O19: an expiry is the run's next period, its counts handed over, and moves of its four alarms. -/
theorem expiryHandsThePeriodOver : Obligations.ExpiryHandsThePeriodOver := by
  refine ⟨fun s r u hrun hset ht hh hc => ?_, testedState_table⟩
  generalize hx : s.pulses[r] = x at *
  let m := max s.now (u + 10000000)
  let meter := s.params.meter[r]
  let z := x.judged meter.mode
  let y := z.nextPeriod meter m
  let base := s.expired r m
  let mid := base.periodAlarmsOf r x
  let t := mid.moveAlarm (.run r .pulseDegraded) (x.degradedMove meter.mode)
  have hmid : base.AlarmsMoved _ mid := base.alarmsMoved_periodAlarmsOf r x
  have hmoved : base.AlarmsMoved _ t := hmid.trans (mid.alarmsMoved_moveAlarm _ _)
  have hlast : mid.AlarmsMoved _ t := mid.alarmsMoved_moveAlarm _ _
  have hf : periodExpiry r s = t := by rw [periodExpiry_eq (by rw [hx]; exact ht) hh hc, hx]
  have hexec : exec (.periodExpiry r) s = .next t := by
    rw [← hf]
    exact exec_of_event_settled hrun rfl (by rw [hf]; exact hmoved.settled hset)
  have hbase : base = { s with
      now := m, pulses := s.pulses.set r y
      cen := s.cen.set r { s.cen[r] with
        handover := some ⟨x.counts.good, x.counts.reverse, x.counts.phaseErrors, x.pulseState, x.counts.saturated,
          1000, false, s.clock⟩ } } := by
    simp only [base, State.expired, State.handoverOf, hx]
    rfl
  have hy : y = t.pulses[r] := by
    rw [hmoved.pulses, hbase]
    exact (Vector.getElem_set_self _).symm
  obtain ⟨hflow, hindex, hhistory, hcapture, hA, hB, herror, hreverse, hwatch⟩ := x.judged_frame meter.mode
  obtain ⟨ycounts, ytimer, ysettings, ystate, yquarter, yref, yflow, yindex, yhistory, ycapture, yA, yB, yerror,
    yreverse⟩ := z.nextPeriod_frame meter m
  have hnow : t.now = m := by rw [hmoved.now, hbase]
  have hdegraded : t.alarm (.run r .pulseDegraded)
      = (s.alarm (.run r .pulseDegraded)).moved s.clock (x.degradedMove meter.mode) := by
    show (mid.moveAlarm _ _).alarm _ = _
    rw [State.alarm_moveAlarm, hmid.clock, hmid.other _ (by simp), hbase]
    rfl
  have hoverrun : t.alarm (.run r .countOverrun) = mid.alarm (.run r .countOverrun) := hlast.other _ (by simp)
  refine ⟨t, x, y, hexec, rfl, hy, ?frame, hnow, ?cen, ycounts, by rw [hnow]; exact ytimer, ysettings, yflow.trans hflow,
    yindex.trans hindex, yhistory.trans hhistory, ycapture.trans hcapture, yA.trans hA, yB.trans hB,
    yerror.trans herror, yreverse.trans hreverse, ?same, ?single, ?dual, ?watch, ?saturated, ?unsaturated, ?changed,
    ?flags, ?pulseError, ?reverseFlow, ?others⟩
  case frame => rw [hmoved.frame, hbase]
  case cen => rw [hmoved.frame, hbase]
  case same =>
    intro hmode
    obtain ⟨hstate, hfall, hback, hstay⟩ := RunPulse.judged_of_mode_eq hmode
    rw [ystate, yquarter, yref]
    refine ⟨hstate, fun hok hne => ?_, fun hd hok => ?_, fun hiff => ?_⟩
    · obtain ⟨hq, hr, hm⟩ := hfall hok hne
      exact ⟨hq, hr, by rw [hdegraded, hm, State.raiseAlarm, State.alarm_moveAlarm]⟩
    · obtain ⟨hq, hr, hm⟩ := hback hd hok
      exact ⟨hq, hr, by rw [hdegraded, hm, State.clearAlarm, State.alarm_moveAlarm]⟩
    · obtain ⟨hq, hr, hm⟩ := hstay hiff
      exact ⟨hq, hr, by rw [hdegraded, hm, Alarm.moved_id]⟩
  case single =>
    intro hmode hsingle
    obtain ⟨hs, hq, hr, hm⟩ := (RunPulse.judged_of_mode_ne (x := x) (by rw [hmode, hsingle]; decide)).1 hsingle
    rw [ystate, yquarter, yref]
    exact ⟨hs, hq, hr, State.alarmRaised_of_cleared (by rw [hdegraded, hm])⟩
  case dual =>
    intro hmode hdual
    obtain ⟨hs, hq, hr, hm⟩ := (RunPulse.judged_of_mode_ne (x := x) (by rw [hmode, hdual]; decide)).2 hdual
    rw [ystate, yquarter, yref]
    exact ⟨hs, hq, hr, by rw [hdegraded, hm, Alarm.moved_id]⟩
  case watch => rw [ystate, ← hwatch]; exact z.nextPeriod_watch meter m
  case saturated =>
    intro hsat
    obtain ⟨halarm, hflag⟩ := base.periodAlarmsOf_saturated r x hsat
    have hs : t.alarm (.run r .countOverrun) = (s.pulseAlarm (.run r .countOverrun)).alarm (.run r .countOverrun) := by
      rw [hoverrun, halarm, State.alarm_pulseAlarm, State.alarm_pulseAlarm, hbase]
      rfl
    refine ⟨hs, ?_, fun hnot => ?_, hlast.mono hflag⟩
    · rw [State.alarmRaised_congr hs, State.alarmRaised_pulseAlarm]
    · rw [hs]
      exact s.pulseAlarm_returned _ hnot
  case unsaturated =>
    intro hsat
    refine ⟨?_, fun heq => ?_⟩
    · rw [hoverrun]
      simp only [mid, State.periodAlarmsOf, hsat, Bool.false_eq_true, if_false]
      rw [State.alarm_setAlarm_other _ _ _ (by simp), State.alarm_setAlarm_other _ _ _ (by simp), hbase]
      rfl
    · have hself : t = base := base.periodAlarmsOf_of_alarms_eq r x hsat rfl (heq.trans (by rw [hbase]))
      rw [hself, hbase]
  case changed => exact fun hne => hmoved.of_alarms_ne (by rw [hbase]; exact hne)
  case flags => rw [hmoved.flags, hbase]
  case pulseError =>
    rw [State.alarmRaised_congr (hlast.other _ (by simp))]
    exact (base.periodAlarmsOf_raised r x).1
  case reverseFlow =>
    rw [State.alarmRaised_congr (hlast.other _ (by simp))]
    exact (base.periodAlarmsOf_raised r x).2
  case others =>
    intro a he hr hd ho
    rw [hmoved.other a (by simp [he, hr, hd, ho]), hbase]
    rfl

end Sys2Proof.Machine
end

section
/-! Stops, the beginning of a start (R97, R101), and the requests on the batch queue (R105 to R109). -/

namespace Sys2Proof.Machine

set_option Elab.async false

/-! ### Requests -/

section Requests

variable {s t : State} {c : Instr} {f : Owner} {reply : Reply} {st : Status}

theorem exec_of_request (hr : s.Ready) (hc : Instr.taking c = .request f) :
    exec c s = .next { (f s).1.settle with reply := some (f s).2 } := by
  obtain ⟨hrun, hmark, -⟩ := hr
  rw [exec_eq_next_iff, hc, Taking.run, State.request_taken _ _ hrun hmark]

theorem exec_of_request_refused (hr : s.Ready) (hc : Instr.taking c = .request f) (hf : f s = refuse s st) :
    exec c s = .next { s with reply := some ⟨st, []⟩ } := by
  rw [exec_eq_next_iff, hc, Taking.run, State.request_refused hr hf]

theorem exec_of_request_settled (hr : s.Ready) (hc : Instr.taking c = .request f) (hf : f s = (t, reply))
    (ht : t.Settled) : exec c s = .next { t with reply := some reply } := by
  rw [exec_eq_next_iff, hc, Taking.run, State.request_of_ready hr hf ht]

theorem exec_of_request_answer (hr : s.Ready) (hc : Instr.taking c = .request f) (hf : f s = (t, reply)) :
    exec c s = .next { t.settle with reply := some reply } := by
  rw [exec_of_request hr hc, hf]

theorem exec_of_request_modRet {g : Retained → Retained} (hr : s.Ready) (hc : Instr.taking c = .request f)
    (hf : f s = (s.modRet g, reply)) (hg : g s.ret ≠ s.ret) :
    exec c s = .next { (s.modRet g).retainedUpdate with reply := some reply } := by
  rw [exec_eq_next_iff, hc, Taking.run, State.request_of_ready_modRet hr hf hg]

end Requests

/-! ### RESTART (R101) -/

/-- Settles O36: RESTART marks the link, and the end of its reply stops the module with the banks prepared. -/
theorem restartStopsAfterItsReply : Obligations.RestartStopsAfterItsReply := by
  intro s
  refine ⟨fun hr => ⟨fun kind hkind => ?_, fun hclosed => ?_⟩, fun hrun hset => ⟨fun hmark => ?_, fun hmark => ?_⟩⟩
  · have hf : takeRestart kind s = (s.markRestart kind, .justOk) := by
      cases kind with
      | warm => rfl
      | cold =>
        have hopen : s.seal = .opened := hkind.resolve_left (by decide)
        simp only [takeRestart, hopen]
    exact exec_of_request_settled hr rfl hf hr.2.2
  · exact exec_of_request_refused hr rfl (by simp only [takeRestart, hclosed])
  · have hf : transmissionComplete s = s.restart .cold := by simp only [transmissionComplete, hmark]
    have hsettled : (s.restart .cold).Settled := by
      show s.ret = (s.restart .cold).currentBank.content
      rw [hset]
      cases hcur : s.current <;> simp [State.restart, State.currentBank, hcur]
    rw [exec_of_event_settled hrun (c := .transmissionComplete) rfl (by rw [hf]; exact hsettled), hf]
    rfl
  · have hf : transmissionComplete s = s.restart .warm := by simp only [transmissionComplete, hmark]
    let s1 : State := { s with
      link := { s.link with restartMark := none, sending := none }, ret := { s.ret with lastSeen := s.clock } }
    obtain ⟨hcurrent, hother, -, -, hframe⟩ := s1.retainedUpdate_of_current
    have hwarm : s.restart .warm = { s1.retainedUpdate with phase := .starting .warm .request } := rfl
    have hbank : (s.restart .warm).currentBank = ⟨s1.ret, s1.currentBank.generation + 1, true⟩ := by
      rw [hwarm, ← hcurrent]
      rfl
    have hret : (s.restart .warm).ret = s1.ret := by
      rw [hwarm, hframe]
    have hsettled : (s.restart .warm).Settled := by
      show (s.restart .warm).ret = (s.restart .warm).currentBank.content
      rw [hbank, hret]
    refine ⟨s.restart .warm, ?_, hsettled, hret, ?_, by rw [hbank], ?_⟩
    · rw [exec_of_event_settled hrun (c := .transmissionComplete) rfl (by rw [hf]; exact hsettled), hf]
    · exact hother
    · rw [hwarm, hframe]

/-! ### Stops and the beginning of a start (R97) -/

theorem State.chosenBank?_of_startsFrom {s : State} {id : BankId} (h : s.startsFrom id) : s.chosenBank? = some id := by
  unfold State.chosenBank?
  cases id with
  | a =>
    obtain ⟨ha, hb⟩ := h
    rcases hb with hb | hb
    · rw [ha, hb]
    · cases hB : s.bankB.intact <;> simp [ha, hb]
  | b =>
    obtain ⟨hb, ha⟩ := h
    rcases ha with ha | ha
    · rw [ha, hb]
    · cases hA : s.bankA.intact <;> simp [ha, hb]

theorem State.beginStart_of_startsFrom {s : State} {id : BankId} (h : s.startsFrom id) :
    s.beginStart = { s with current := id, ret := s.bankContent id, phase := .starting .warm .reset } := by
  simp only [State.beginStart, State.chosenBank?_of_startsFrom h]

theorem State.beginStart_of_invalid {s : State} (ha : s.bankA.intact = false) (hb : s.bankB.intact = false) :
    s.beginStart = { s with phase := .starting .cold .retainedInvalid } := by
  simp only [State.beginStart, State.chosenBank?, ha, hb]

theorem State.halted_of_not_stopped {s : State} (h : s.phase ≠ .stopped) (strike : Strike) :
    s.halted strike = { s.struck strike with phase := .stopped } := by
  unfold State.halted
  split
  · next hs => exact absurd hs h
  · rfl
  · rfl

theorem State.halted_of_stopped {s : State} (h : s.phase = .stopped) (strike : Strike) : s.halted strike = s := by
  simp only [State.halted, h]

/-- The stops of O37: what the two inputs do to the module, and what each strike leaves. -/
theorem stops (s : State) (strike : Strike) :
    (s.powered = true → s.phase ≠ .stopped →
        exec (.powerFail strike) s = .next { s.struck strike with phase := .stopped, powered := false })
      ∧ (s.powered = false → exec (.powerFail strike) s = .next s)
      ∧ (s.resetActive = false → s.phase ≠ .stopped →
        exec (.resetNAssert strike) s = .next { s.struck strike with phase := .stopped, resetActive := true })
      ∧ (s.resetActive = true → exec (.resetNAssert strike) s = .next s)
      ∧ (s.phase = .stopped →
        (s.powered = true → exec (.powerFail strike) s = .next { s with powered := false })
        ∧ (s.resetActive = false → exec (.resetNAssert strike) s = .next { s with resetActive := true })) := by
  refine ⟨fun hp hs => ?_, fun hp => ?_, fun hn hs => ?_, fun hn => ?_, fun hs => ⟨fun hp => ?_, fun hn => ?_⟩⟩ <;>
    refine exec_eq_next_iff.mpr ?_
  · show powerFail strike s = _
    rw [powerFail, if_pos hp, State.halted_of_not_stopped hs]
  · show powerFail strike s = s
    rw [powerFail, if_neg (by simp [hp])]
  · show resetAssert strike s = _
    rw [resetAssert, if_neg (by simp [hn]), State.halted_of_not_stopped hs]
  · show resetAssert strike s = s
    rw [resetAssert, if_pos hn]
  · show powerFail strike s = _
    rw [powerFail, if_pos hp, State.halted_of_stopped hs]
  · show resetAssert strike s = _
    rw [resetAssert, if_neg (by simp [hn]), State.halted_of_stopped hs]

theorem struck_retainedUpdate (s : State) :
    s.struck .retainedUpdate = { s with
          bankA := (if s.current = .a then s.bankA else { s.bankA with intact := false })
          bankB := (if s.current = .b then s.bankB else { s.bankB with intact := false }) } := by
  cases hcur : s.current <;> simp [State.struck, hcur]

theorem struck_auditAppend (s : State) :
    ∃ ring : AuditRing, s.struck .auditAppend = { s with audit := ring }
      ∧ ring.torn = some (s.auditNext.toNat % 256)
      ∧ ∀ e : AuditEntry, e ∈ ring.entries ↔ e ∈ s.audit.entries ∧ e.seq.toNat % 256 ≠ s.auditNext.toNat % 256 :=
  ⟨_, rfl, rfl, fun _ => List.mem_filter.trans (and_congr_right fun _ => decide_eq_true_iff)⟩

theorem struck_writeAfterValid {s : State} {w : WriteInFlight} {p : PendingTicket} {ps : List PendingTicket}
    (hw : s.write = some w) (hp : s.ret.pendingTickets = p :: ps) :
    ∃ a : Archive, s.struck .writeAfterValid = { s with archive := a }
      ∧ a.slot (w.sector, w.slot) = .valid p.ticket
      ∧ (∀ ij : Sector × Sector, ij ≠ (w.sector, w.slot) → a.slot ij = s.archive.slot ij)
      ∧ ∀ i : Sector, a.sectors[i].state = s.archive.sectors[i].state := by
  let a := s.archive.modSector w.sector (fun x => x.setSlot w.slot (.valid p.ticket))
  have hsame : a.sectors[w.sector] = s.archive.sectors[w.sector].setSlot w.slot (.valid p.ticket) :=
    Archive.modSector_sectors_same ..
  have hother (i : Sector) (h : w.sector ≠ i) : a.sectors[i] = s.archive.sectors[i] :=
    Archive.modSector_sectors_other h
  have hstruck : s.struck .writeAfterValid
      = s.modArchive (fun a => a.modSector w.sector (fun x => x.setSlot w.slot (.valid p.ticket))) := by
    simp only [State.struck, hw, hp]
  refine ⟨a, hstruck, ?_, fun ij hij => ?_, fun i => ?_⟩
  · show a.sectors[w.sector].slots[w.slot] = _
    rw [hsame]
    exact Vector.getElem_set_self _
  · obtain ⟨i, j⟩ := ij
    show a.sectors[i].slots[j] = s.archive.sectors[i].slots[j]
    by_cases hi : w.sector = i
    · subst hi
      have hj : w.slot.val ≠ j.val := fun h => hij (by rw [Fin.ext h])
      rw [hsame]
      exact Vector.getElem_set_ne w.slot.isLt j.isLt hj
    · rw [hother i hi]
  · by_cases hi : w.sector = i
    · subst hi
      rw [hsame]
      rfl
    · rw [hother i hi]

/-- The beginnings of a start of O37, on power-up and on the release of RESET_N. -/
theorem starts (s : State) :
    (s.powered = false → s.resetActive = false →
        (∀ id : BankId, s.startsFrom id →
          exec (.powerUp true) s = .next { s with
            powered := true, current := id, ret := s.bankContent id, phase := .starting .warm .reset })
        ∧ (s.bankA.intact = false → s.bankB.intact = false →
          exec (.powerUp true) s = .next { s with powered := true, phase := .starting .cold .retainedInvalid })
        ∧ exec (.powerUp false) s = .next { s with
            powered := true
            bankA := { s.bankA with intact := false }
            bankB := { s.bankB with intact := false }
            phase := .starting .cold .retainedInvalid })
      ∧ (s.powered = false → s.resetActive = true → exec (.powerUp true) s = .next { s with powered := true })
      ∧ (s.powered = true → ∀ held : Bool, exec (.powerUp held) s = .next s)
      ∧ (s.powered = true → s.resetActive = true →
        (∀ id : BankId, s.startsFrom id →
          exec .resetNRelease s = .next { s with
            resetActive := false, current := id, ret := s.bankContent id, phase := .starting .warm .reset })
        ∧ (s.bankA.intact = false → s.bankB.intact = false →
          exec .resetNRelease s = .next { s with resetActive := false, phase := .starting .cold .retainedInvalid }))
      ∧ (s.powered = false → s.resetActive = true → exec .resetNRelease s = .next { s with resetActive := false })
      ∧ (s.resetActive = false → exec .resetNRelease s = .next s) := by
  have hpower (held : Bool) (hp : s.powered = false) (hn : s.resetActive = false) :
      powerUp held s = (s.withPower held).beginStart := by
    unfold powerUp State.withPower
    cases held <;> simp [hp, hn]
  have hrelease (hn : s.resetActive = true) : resetRelease s
      = if s.powered then { s with resetActive := false }.beginStart else { s with resetActive := false } := if_pos hn
  refine ⟨fun hp hn => ⟨fun id hid => ?_, fun ha hb => ?_, ?_⟩, fun hp hn => ?_, fun hp held => ?_,
    fun hp hn => ⟨fun id hid => ?_, fun ha hb => ?_⟩, fun hp hn => ?_, fun hn => ?_⟩ <;> refine exec_eq_next_iff.mpr ?_
  · refine (hpower true hp hn).trans ?_
    rw [State.beginStart_of_startsFrom (s := s.withPower true) (id := id) hid]
    cases id <;> rfl
  · exact (hpower true hp hn).trans (State.beginStart_of_invalid (s := s.withPower true) ha hb)
  · exact (hpower false hp hn).trans (State.beginStart_of_invalid (s := s.withPower false) rfl rfl)
  · show powerUp true s = _
    simp [powerUp, hp, hn]
  · exact if_pos hp
  · refine (hrelease hn).trans ((if_pos hp).trans ?_)
    rw [State.beginStart_of_startsFrom (s := { s with resetActive := false }) (id := id) hid]
    cases id <;> rfl
  · exact (hrelease hn).trans ((if_pos hp).trans (State.beginStart_of_invalid (s := { s with resetActive := false }) ha hb))
  · exact (hrelease hn).trans (if_neg (by simp [hp]))
  · exact if_neg (by simp [hn])

/-- Settles O37, from what a stop does, what each strike leaves, and what a start goes on from. -/
theorem stopsAndStarts : Obligations.StopsAndStarts := by
  refine ⟨fun s strike => ?_, starts⟩
  obtain ⟨hfail, hfailed, hassert, hasserted, hstopped⟩ := stops s strike
  exact ⟨hfail, hfailed, hassert, hasserted, hstopped, rfl, struck_retainedUpdate s, struck_auditAppend s,
    fun h => if_neg h, fun w p ps hw hp => struck_writeAfterValid hw hp⟩

/-! ### The batch queue (R105, R107) -/

/-- Settles O40: the checks in their order, and the tail that an accepted record joins. -/
theorem queueAddJoinsTheTail : Obligations.QueueAddJoinsTheTail := by
  intro s rec hr
  refine ⟨fun hinvalid => ?_, fun hvalid => ⟨fun hheld => ?_, fun hfree => ⟨fun hfull => ?_, fun hroom =>
    ⟨fun hnone => ?_, fun hsome => ?_⟩⟩⟩⟩
  · exact exec_of_request_refused hr rfl (by simp [takeBatchQueueAdd, hinvalid])
  · exact exec_of_request_refused hr rfl (by simp [takeBatchQueueAdd, hvalid, hheld])
  · exact exec_of_request_refused hr rfl (by simp [takeBatchQueueAdd, hvalid, hfree, Config.queueLimit, hfull])
  · exact exec_of_request_refused hr rfl
      (by simp [takeBatchQueueAdd, hvalid, hfree, Config.queueLimit, Nat.not_le.mpr hroom, hnone])
  · refine exec_of_request_modRet hr rfl (g := fun ret => { ret with queue := ret.queue ++ [rec] }) ?_ fun h => ?_
    · have hmapped : (mapSlot? s.params.productMap rec.code).isNone = false := by
        simpa [← Option.isNone_iff_eq_none] using hsome
      simp [takeBatchQueueAdd, hvalid, hfree, Config.queueLimit, Nat.not_le.mpr hroom, hmapped, Reply.okWith]
    · have hlength := congrArg (fun ret => ret.queue.length) h
      simp at hlength

theorem State.resolveCan_eq (s : State) (rec : BatchRecord) :
    s.resolveCan rec = (if rec.can = some 1 then .can1 else if rec.can = some 2 then .can2 else s.ret.selectedCan) := by
  unfold State.resolveCan
  cases hcan : rec.can with
  | none => rfl
  | some n =>
    by_cases h1 : n = 1
    · subst h1; rfl
    · by_cases h2 : n = 2
      · subst h2; rfl
      · have hnone : canOfNumber? n = none := by unfold canOfNumber?; split <;> simp_all
        simp [hnone, h1, h2]

/-- Settles O42: the head of the queue starts where its code maps to a slot. -/
theorem batchStartActivatesTheHead : Obligations.BatchStartActivatesTheHead := by
  intro s hr
  refine ⟨fun hactive => ?_, fun hactive => ⟨fun hempty => ?_, fun rec rest hqueue => ⟨fun hnone => ?_,
    fun slot can hslot hcan => ?_⟩⟩⟩
  · refine exec_of_request_refused hr rfl (if_pos ?_)
    exact Option.isSome_iff_ne_none.mpr hactive
  · exact exec_of_request_refused hr rfl (by simp [takeBatchStart, hactive, State.startable?, hempty])
  · exact exec_of_request_refused hr rfl (by simp [takeBatchStart, hactive, State.startable?, hqueue, hnone])
  · rw [← State.resolveCan_eq] at hcan
    have hf : takeBatchStart s = (s.activate rec slot, .okWith (startReply rec slot (s.resolveCan rec))) := by
      simp [takeBatchStart, hactive, State.startable?, hqueue, hslot]
    rw [exec_of_request_answer hr rfl hf, hcan]
    simp only [State.activate, State.modRet, hqueue, List.tail_cons]
    rfl

/-! ### The end moment (R108, R109) -/

section EndMoment

variable {s : State}

theorem State.closeTest_of_not_ready {b : Batch} (h : s.readyToClose b = false) : s.closeTest b = s := by
  simp [State.closeTest, h]

theorem foldl_closeTest_of_not_ready {bs : List Batch} (h : ∀ b ∈ bs, s.readyToClose b = false) :
    bs.foldl State.closeTest s = s := by
  induction bs with
  | nil => rfl
  | cons b bs ih =>
    rw [List.foldl_cons, State.closeTest_of_not_ready (h b (by simp))]
    exact ih fun x hx => h x (by simp [hx])

/-- Where no ENDING batch is ready, the close tests change nothing (R119). -/
theorem State.closeTests_of_not_ready (h : ∀ b ∈ s.ret.ending, s.readyToClose b = false) : s.closeTests = s :=
  foldl_closeTest_of_not_ready h

theorem State.readyToClose_eq_false_iff (b : Batch) :
    s.readyToClose b = false ↔ (∃ r : Run, b.owing[r] = true) ∨ s.queuedGrabs b.record.id ≠ 0 := by
  have hempty : (runsOf b.owing).isEmpty = true ↔ ∀ r : Run, b.owing[r] = false := by
    have hmem (r : Run) : r ∈ allRuns := by revert r; decide
    simp only [runsOf, List.isEmpty_iff, List.filter_eq_nil_iff, Bool.not_eq_true]
    exact ⟨fun h r => h r (hmem r), fun h r _ => h r⟩
  rw [State.readyToClose, Bool.and_eq_false_iff, ← Bool.not_eq_true, hempty, decide_eq_false_iff_not]
  simp

theorem State.runsInService_getElem (r : Run) :
    s.runsInService[r] = decide (s.ret.service[r] = .inService) := forRuns_getElem _ _

/-- The end moment where neither an older batch nor the ACTIVE one, ended so, is ready to close. -/
theorem State.closeTests_endActive {b : Batch} {reason : EndReason}
    (hold : ∀ x ∈ s.ret.ending, s.readyToClose x = false)
    (howed : (∃ r : Run, s.ret.service[r] = .inService) ∨ s.queuedGrabs b.record.id ≠ 0) :
    (s.endActive b reason none).closeTests = s.endActive b reason none := by
  refine State.closeTests_of_not_ready fun x hx => ?_
  rcases List.mem_append.mp hx with hx | hx
  · exact hold x hx
  · rw [List.mem_singleton.mp hx, State.readyToClose_eq_false_iff]
    refine howed.imp (fun ⟨r, hr⟩ => ⟨r, ?_⟩) id
    exact s.runsInService_getElem r ▸ decide_eq_true hr

end EndMoment

/-- Settles O43: the end moment of the ACTIVE batch, and in BATCH CHANGE the activation of the head after it. -/
theorem batchEndAndChangeMakeTheEndMoment : Obligations.BatchEndAndChangeMakeTheEndMoment := by
  intro s hr
  refine ⟨fun hnone => ⟨?_, ?_⟩, fun b hb => ⟨fun hfull => ⟨?_, ?_⟩, fun hroom => ⟨fun hstart => ?_,
    fun hold howed => ⟨?_, fun rec slot hstart => ?_⟩⟩⟩⟩
  · exact exec_of_request_refused hr rfl (by simp only [takeBatchEnd, hnone])
  · exact exec_of_request_refused hr rfl (by simp only [takeBatchChange, hnone])
  · exact exec_of_request_refused hr rfl (by simp [takeBatchEnd, hb, Config.endingLimit, hfull])
  · exact exec_of_request_refused hr rfl (by simp [takeBatchChange, hb, Config.endingLimit, hfull])
  · exact exec_of_request_refused hr rfl
      (by simp [takeBatchChange, hb, Config.endingLimit, Nat.not_le.mpr hroom, hstart])
  · have hf : takeBatchEnd s = (s.endActive b .request none, .okWith (s.endReply b)) := by
      simp [takeBatchEnd, hb, Config.endingLimit, Nat.not_le.mpr hroom, State.closeTests_endActive hold howed]
    refine exec_of_request_modRet hr rfl hf fun h => ?_
    have hactive := congrArg Retained.active h
    rw [hb] at hactive
    cases hactive
  · have hf : takeBatchChange s = ((s.endActive b .change none).activate rec slot,
        .okWith (s.endReply b ++ startReply rec slot (s.resolveCan rec))) := by
      simp [takeBatchChange, hb, Config.endingLimit, Nat.not_le.mpr hroom, State.closeTests_endActive hold howed, hstart]
    rw [exec_of_request_answer hr rfl hf]
    rfl

end Sys2Proof.Machine
end

section
/-! Ageing, clamping and overrides of a value (R29 to R38), and the staging, its commit and the seal (R53 to R61). -/

namespace Sys2Proof.Machine

set_option Elab.async false

/-! ### One value changed by its owner -/

/-- A value in another state, with its quality alarm brought to the quality in force (R39). -/
def State.changeValue (s : State) (v : ValueId) (f : LiveValue → LiveValue) : State := (s.modValue v f).syncQualityAlarm v

section ChangeValue

variable (s : State) (v : ValueId) (f : LiveValue → LiveValue)

theorem State.changeValue_value : (s.changeValue v f).value v = f (s.value v) := by
  rw [State.changeValue, State.syncQualityAlarm_eq, State.value_moveAlarm, State.value_modValue_same]

theorem State.changeValue_alarmRaised : (s.changeValue v f).alarmRaised (qualityAlarm v) = (f (s.value v)).notFresh := by
  have h := State.alarmRaised_setAlarm (s.modValue v f) (qualityAlarm v) ((s.modValue v f).value v).notFresh
  exact h.trans (congrArg LiveValue.notFresh (s.value_modValue_same v f))

theorem State.changeValue_frame :
    s.changeValue v f = { s with
      values := s.values.set (valueIndex v) ((s.changeValue v f).value v)
      alarms := (s.changeValue v f).alarms, flags := (s.changeValue v f).flags } := by
  rw [State.changeValue_value]
  exact ((s.modValue v f).alarmsMoved_setAlarm (qualityAlarm v) _).frame

theorem State.changeValue_settled (h : s.Settled) : (s.changeValue v f).Settled := by
  rw [State.changeValue_frame]
  exact h

end ChangeValue

theorem LiveValue.notFresh_of_held {lv : LiveValue} (h : lv.ladder = .held ∨ lv.ladder = .substituted) :
    lv.notFresh = lv.manual.isNone := by
  unfold LiveValue.notFresh LiveValue.quality
  rcases h with h | h <;> cases lv.manual <;> simp [h, Ladder.toQuality]

/-! ### Ageing and clamping (R29, R31, R32) -/

theorem State.arrived_of_outOfRange (s : State) {v : ValueId} {x : Int} (h : valueInRange v x = false) (lv : LiveValue) :
    s.arrived v (entryFor (v, .ok, x)) lv
      = { s.restartTimers lv with
          lastGood := some (if x < valueLow v then valueLow v else valueHigh v), ladder := .liveClamped
          clampRaised := (clampAlarm? v).isSome } := by
  have hclamp : clampInt (valueLow v) (valueHigh v) x = if x < valueLow v then valueLow v else valueHigh v := by
    simp only [valueInRange, decide_eq_false_iff_not] at h
    unfold clampInt
    split
    · rfl
    · next hlow => exact if_pos (by omega)
  simp [State.arrived, entryFor, h, hclamp]

theorem clampMove_of_outOfRange {v : ValueId} {x : Int} (h : valueInRange v x = false) :
    clampMove v (entryFor (v, .ok, x)) = .raised := by
  simp [clampMove, entryFor, h]

/-- Settles O24: each timer ages its value, and an entry out of range is an arrival at the nearer limit. -/
theorem ageingAndClampingOfAValue : Obligations.AgeingAndClampingOfAValue := by
  refine ⟨fun s v d hrun hset => ⟨fun hstale hladder => ?stale, fun hhold => ?hold⟩, fun s v x hr hout => ?clamped⟩
  case stale =>
    let f : LiveValue → LiveValue := fun lv => { lv.toHeld with stale := none }
    have hf : staleExpiry v s = (s.atMoment d).changeValue v f := by simp only [staleExpiry, hstale]; rfl
    have hvalue : f (s.value v) = { s.value v with ladder := .held, stale := none } := by
      simp only [f, LiveValue.toHeld_of_live hladder]
    refine ⟨(s.atMoment d).changeValue v f, ?_, ?_, ?_, (s.atMoment d).changeValue_frame v f⟩
    · rw [← hf]
      exact exec_of_event_settled hrun rfl (by rw [hf]; exact State.changeValue_settled _ _ _ hset)
    · exact (State.changeValue_value _ _ _).trans hvalue
    · refine (State.changeValue_alarmRaised _ _ _).trans ?_
      exact (congrArg LiveValue.notFresh hvalue).trans (LiveValue.notFresh_of_held (.inl rfl))
  case hold =>
    let f : LiveValue → LiveValue := fun lv => { lv with ladder := .substituted, stale := none, hold := none }
    have hf : holdExpiry v s = (s.atMoment d).changeValue v f := by simp only [holdExpiry, hhold]; rfl
    refine ⟨(s.atMoment d).changeValue v f, ?_, State.changeValue_value _ _ _, ?_, (s.atMoment d).changeValue_frame v f⟩
    · rw [← hf]
      exact exec_of_event_settled hrun rfl (by rw [hf]; exact State.changeValue_settled _ _ _ hset)
    · exact (State.changeValue_alarmRaised _ _ _).trans (LiveValue.notFresh_of_held (.inr rfl))
  case clamped =>
    let e := entryFor (v, .ok, x)
    have hvalue := (s.applyEntry_value_same v e).trans (s.arrived_of_outOfRange hout _)
    refine ⟨_, exec_liveValues_one (v, .ok, x) hr, hvalue, ?clamp, ?raised, fun w hw => s.applyEntry_value_other e hw,
      fun a hc hq => s.applyEntry_alarm_other e hc hq, (s.valuesMoved_applyEntry v e).with_reply _⟩
    case clamp =>
      intro a ha
      have halarm := s.applyEntry_clampAlarm e ha
      rw [clampMove_of_outOfRange hout] at halarm
      show (s.applyEntry v e).alarmRaised a = true
      unfold State.alarmRaised
      rw [halarm, Alarm.moved_state]
      cases (s.alarm a).state <;> rfl
    case raised =>
      have hquality := s.applyEntry_qualityAlarm v e
      rw [s.arrived_of_outOfRange hout, LiveValue.qualityMove_of_live (.inr rfl)] at hquality
      exact State.alarmRaised_of_cleared hquality

/-! ### Overrides (R37, R38) -/

theorem valueOfIndex?_eq_none {n : Nat} (h : 11 < n) : valueOfIndex? n = none := List.getElem?_eq_none h

theorem State.changeValue_auditContext (s : State) (v : ValueId) (f : LiveValue → LiveValue) :
    (s.changeValue v f).auditContext = s.auditContext := by
  rw [State.changeValue_frame]
  rfl

/-- The frame of an override: the value, its alarm and one audit entry, whose body is given. -/
theorem State.with_audit_reply {s u : State} {values : Vector LiveValue 12} {alarms : Vector Alarm 54}
    {flags : EventFlags} (h : u = { s with values := values, alarms := alarms, flags := flags }) (body : AuditBody)
    (reply : Reply) :
    { u.appendAudit body with reply := some reply } = { s with
      values := values, alarms := alarms, flags := flags, audit := s.audit.write ⟨s.auditNext, s.clock, body⟩
      auditNext := s.auditNext + 1, reply := some reply } := by
  rw [h]
  rfl

/-- Settles O25: an override is a change of its value with one audit entry. -/
theorem overridesSetAndRelease : Obligations.OverridesSetAndRelease := by
  intro s v x hr
  refine ⟨fun hin => ?set, fun hout => ?refused, fun hmanual => ?release, fun hnone => ?absent, fun n hn => ⟨?_, ?_⟩⟩
  case set =>
    let u := s.changeValue v (fun lv => { lv with manual := some x })
    have hf : takeOverrideSet (valueIndex v).val x s
        = (u.appendAudit (.overrideSet (valueIndex v).val (s.valueInForce s.auditContext v) x), .justOk) := by
      simp only [takeOverrideSet, valueOfIndex?_valueIndex, hin, if_true]
      rfl
    have hvalue : u.value v = { s.value v with manual := some x } := s.changeValue_value v _
    have hraised : u.alarmRaised (qualityAlarm v) = false := s.changeValue_alarmRaised v _
    have hframe : u = { s with
        values := s.values.set (valueIndex v) (u.value v), alarms := u.alarms, flags := u.flags } :=
      s.changeValue_frame v _
    have hsettled : u.Settled := s.changeValue_settled v _ hr.2.2
    have hforce (ctx : SubstituteContext) : u.valueInForce ctx v = ⟨x, .overridden⟩ := by
      simp only [State.valueInForce, hvalue]
    clear_value u
    exact ⟨_, exec_of_request_settled hr rfl hf hsettled, hvalue, hraised, hforce, State.with_audit_reply hframe _ _⟩
  case refused => exact exec_of_request_refused hr rfl (by simp [takeOverrideSet, valueOfIndex?_valueIndex, hout])
  case release =>
    let u := s.changeValue v (fun lv => { lv with manual := none })
    have hcontext : u.auditContext = s.auditContext := s.changeValue_auditContext v _
    have hf : takeOverrideRelease (valueIndex v).val s
        = (u.appendAudit (.overrideRelease (valueIndex v).val x (u.valueInForce s.auditContext v)), .justOk) := by
      rw [← hcontext]
      simp only [takeOverrideRelease, valueOfIndex?_valueIndex, hmanual]
      rfl
    have hvalue : u.value v = { s.value v with manual := none } := s.changeValue_value v _
    have hraised : u.alarmRaised (qualityAlarm v) = (u.value v).notFresh :=
      (s.changeValue_alarmRaised v _).trans (congrArg LiveValue.notFresh hvalue.symm)
    have hframe : u = { s with
        values := s.values.set (valueIndex v) (u.value v), alarms := u.alarms, flags := u.flags } :=
      s.changeValue_frame v _
    have hsettled : u.Settled := s.changeValue_settled v _ hr.2.2
    clear_value u
    exact ⟨_, exec_of_request_settled hr rfl hf hsettled, hvalue, hraised, State.with_audit_reply hframe _ _⟩
  case absent =>
    exact exec_of_request_refused hr rfl (by simp only [takeOverrideRelease, valueOfIndex?_valueIndex, hnone])
  · exact exec_of_request_refused hr rfl (by simp only [takeOverrideSet, valueOfIndex?_eq_none hn])
  · exact exec_of_request_refused hr rfl (by simp only [takeOverrideRelease, valueOfIndex?_eq_none hn])

/-! ### Staging (R53 to R56) -/

/-- Settles O26: a staging opens, takes the items of its kind, expires, and is cancelled. -/
theorem stagingTakesItsItems : Obligations.StagingTakesItsItems := by
  refine ⟨fun s hr => ⟨fun kind runs n => ⟨fun hfits hlo hhi => ?_, fun hbad => ?_⟩, fun body => ⟨fun hnone => ?_,
    fun st hst => ⟨fun hitem => ?_, fun item hitem => ⟨fun hroom => ?_, fun hfull => ?_⟩⟩⟩⟩,
    fun s hrun hset => ⟨fun st hst => ?_, fun hnone => ?_⟩, fun s hr => ⟨fun hsome => ?_, fun hnone => ?_⟩⟩
  · have hf : takeStageOpen kind runs n s
        = ({ s with staging := some ⟨kind, runs, n, [], s.now + Config.stagingTime⟩ }, .justOk) :=
      if_pos (by simp [hfits, hlo, hhi])
    exact exec_of_request_settled (c := .stageOpen kind runs n) hr rfl hf hr.2.2
  · refine exec_of_request_refused hr rfl (if_neg ?_)
    rcases hbad with hbad | rfl | hbad
    · simp [hbad]
    · simp
    · simp [Nat.not_le.mpr hbad]
  · exact exec_of_request_refused hr rfl (by simp only [takeStageItem, hnone])
  · exact exec_of_request_refused hr rfl (by simp only [takeStageItem, hst, hitem])
  · have hf : takeStageItem body s
        = ({ s with staging := some { st with items := st.items ++ [item], deadline := s.now + Config.stagingTime } },
          .okWith [.u16 (st.items.length + 1)]) := by
      simp only [takeStageItem, hst, hitem, Nat.not_le.mpr hroom, if_false]
    exact exec_of_request_settled (c := .stageItem body) hr rfl hf hr.2.2
  · have hf : takeStageItem body s = ({ s with staging := none }, ⟨.stageError, []⟩) := by
      simp only [takeStageItem, hst, hitem, hfull, if_true]
    exact exec_of_request_settled (c := .stageItem body) hr rfl hf hr.2.2
  · have hf : stagingExpiry s = { s.atMoment st.deadline with staging := none }.addFlag .stagingAbandoned := by
      simp only [stagingExpiry, hst]
    rw [exec_of_event_settled hrun (c := .stagingInactivityExpiry) rfl (by rw [hf]; exact hset), hf]
    rfl
  · have hf : stagingExpiry s = s := by simp only [stagingExpiry, hnone]
    rw [exec_of_event_settled hrun (c := .stagingInactivityExpiry) rfl (by rw [hf]; exact hset), hf]
  · obtain ⟨st, hst⟩ := Option.ne_none_iff_exists'.mp hsome
    exact exec_of_request_settled hr rfl (t := { s with staging := none }) (by simp only [takeStageCancel, hst]; rfl)
      hr.2.2
  · exact exec_of_request_refused hr rfl (by simp only [takeStageCancel, hnone])

/-! ### STAGE COMMIT (R57, R58) -/

/-- The entries of a commit: one for each section, numbered on from the next audit number. -/
theorem State.auditCommit_eq (old : Params) (refs : List SectionRef) (s : State) (n : Counter) (k : Nat)
    (hn : s.auditNext = n + BitVec.ofNat 32 k) :
    s.auditCommit old refs = { s with
      audit := (refs.zipIdx k).foldl (fun ring x => ring.write
        ⟨n + BitVec.ofNat 32 x.2, s.clock,
          .sectionCommit x.1.number.val (sectionDigest old x.1) (sectionDigest s.params x.1)⟩) s.audit
      auditNext := n + BitVec.ofNat 32 (k + refs.length) } := by
  induction refs generalizing s k with
  | nil =>
    show s = { s with audit := s.audit, auditNext := n + BitVec.ofNat 32 k }
    rw [← hn]
  | cons ref refs ih =>
    have hnext : n + BitVec.ofNat 32 k + 1 = n + BitVec.ofNat 32 (k + 1) := by
      rw [BitVec.ofNat_add, BitVec.add_assoc]
      rfl
    have hlength : k + (ref :: refs).length = k + 1 + refs.length := by simp only [List.length_cons]; omega
    rw [State.auditCommit, ih _ (k + 1) (by rw [← hnext, ← hn]; rfl), hlength, List.zipIdx_cons, List.foldl_cons, ← hn]
    rfl

/-- Settles O27: the checks of a commit in their order, and the sections and entries of a success. -/
theorem commitReplacesTheSectionsOrRefuses : Obligations.CommitReplacesTheSectionsOrRefuses := by
  intro s hr
  have hclosed : { s with staging := none }.Settled := hr.2.2
  refine ⟨fun hnone => ?_, fun st targets hst htargets => ⟨fun hfew => ?_, fun hall => ⟨fun hsealed hlocked => ?_,
    fun hopen => ⟨fun hheld => ?_, fun hfree => ⟨fun hbad => ?_, fun new hnew => ?_⟩⟩⟩⟩⟩
  · exact exec_of_request_refused hr rfl (by simp only [takeStageCommit, hnone])
  all_goals subst htargets
  · exact exec_of_request_settled hr rfl (by simp only [takeStageCommit, hst, hfew, if_true]) hclosed
  · refine exec_of_request_settled hr rfl ?_ hclosed
    simp [takeStageCommit, hst, Nat.not_lt.mpr hall, hsealed, hlocked]
  all_goals
    have hpass : (decide (s.seal = .closed) && (targetSections st.kind st.runs).any s.locked) = false := by
      rcases hopen with hopen | hopen <;> simp [hopen]
  · refine exec_of_request_settled hr rfl ?_ hclosed
    simp only [takeStageCommit, hst, Nat.not_lt.mpr hall, hpass, hheld, if_false, if_true, Bool.false_eq_true]
  · refine exec_of_request_settled hr rfl ?_ hclosed
    simp only [takeStageCommit, hst, Nat.not_lt.mpr hall, hpass, hfree, hbad, if_false, Bool.false_eq_true]
  · let u : State := { s with params := new, staging := none }
    have hf : takeStageCommit s = (u.auditCommit s.params (targetSections st.kind st.runs),
        .okWith (listField (targetSections st.kind st.runs)
          (fun ref => [.u8 ref.number.val, .u16 (sectionDigest new ref).toNat]))) := by
      simp only [takeStageCommit, hst, Nat.not_lt.mpr hall, hpass, hfree, hnew, if_false, Bool.false_eq_true]
      rfl
    have haudit := u.auditCommit_eq s.params (targetSections st.kind st.runs) s.auditNext 0 (by simp [u])
    rw [Nat.zero_add] at haudit
    rw [haudit] at hf
    rw [exec_of_request_settled hr rfl hf hr.2.2]
    rfl

/-! ### The seal (R61) -/

/-- Settles O29: the accepted level is recorded and audited, and SEAL_OPEN follows it. -/
theorem sealChangeIsAudited : Obligations.SealChangeIsAudited := by
  intro s u hrun hset hu
  let s1 : State := { s.atMoment (u + 500000) with sealInput := s.sealInput.accept }
  let s2 : State := { s1.appendAudit (.sealChange s.seal s1.seal false) with recordedSeal := s1.seal }
  let t := s2.setAlarm (.station .sealOpen) (decide (s2.seal = .opened))
  have hf : sealAccept s = t := by simp only [sealAccept, hu]; rfl
  have hmoved : s2.AlarmsMoved _ t := s2.alarmsMoved_setAlarm _ _
  have hseal : t.seal = s1.seal := by rw [hmoved.frame]; rfl
  refine ⟨t, ?_, hseal, ?_, ?_, ?_, fun a ha => hmoved.other a (by simpa using ha), ?_⟩
  · rw [← hf]
    exact exec_of_event_settled hrun rfl (by rw [hf]; exact hmoved.settled hset)
  · rw [hseal, hmoved.frame]
  · rw [hmoved.frame]
    rfl
  · rw [hseal]
    exact State.alarmRaised_setAlarm s2 _ _
  · rw [hseal, hmoved.frame]
    rfl

end Sys2Proof.Machine
end

section
/-! The computation of a period (R67 to R85): its record, its floor divisions, and the meter factor of a curve (R71). -/

namespace Sys2Proof.Machine

set_option Elab.async false

/-! ### Floor divisions (R69, R77 to R80) -/

/-- Settles O31: each stage is a division whose remainder is carried out. -/
theorem stageDivisionsLoseNothing : Obligations.StageDivisionsLoseNothing := by
  intro s t r h c hrun hh ht hc
  obtain rfl := computed_of_exec_periodComputation hrun hh ht hc
  refine ⟨⟨?_, fun hkx => Nat.mod_lt _ hkx⟩, ⟨?_, Nat.mod_lt _ (by decide)⟩, ⟨?_, Nat.mod_lt _ (by decide)⟩,
    ⟨?_, Nat.mod_lt _ (by decide)⟩, ?_, Nat.mod_lt _ (by decide)⟩
  all_goals exact Nat.div_add_mod' _ _

/-! ### Interpolation (R71) -/

section Interpolation

theorem roundHalfUp_le {n d k : Nat} (hd : 0 < d) (h : n ≤ k * d) : roundHalfUp n d ≤ k := by
  obtain ⟨hlo, -⟩ := roundHalfUp_spec n d hd
  by_contra hgt
  have hstep : 2 * d * (k + 1) ≤ 2 * d * roundHalfUp n d := Nat.mul_le_mul_left _ (by omega)
  have hexpand : 2 * d * (k + 1) = 2 * (k * d) + 2 * d := by ring
  omega

theorem roundHalfAway_nonneg {n : Int} {d : Nat} (h : 0 ≤ n) : 0 ≤ roundHalfAway n d := by
  rw [roundHalfAway, if_pos h]
  exact Int.natCast_nonneg _

/-- A quotient between 0 and a figure rounds to one between them. -/
theorem roundHalfAway_le {n : Int} {d k : Nat} (hd : 0 < d) (h0 : 0 ≤ n) (h : n ≤ (k : Int) * d) :
    roundHalfAway n d ≤ k := by
  rw [roundHalfAway, if_pos h0]
  have hn : n.toNat ≤ k * d := by zify; omega
  exact_mod_cast roundHalfUp_le hd hn

theorem roundHalfUp_zero (d : Nat) : roundHalfUp 0 d = 0 := by
  rcases Nat.eq_zero_or_pos d with rfl | hd
  · rfl
  · exact Nat.div_eq_of_lt (by omega)

theorem roundHalfAway_neg (n : Int) (d : Nat) : roundHalfAway (-n) d = -roundHalfAway n d := by
  unfold roundHalfAway
  rcases lt_trichotomy n 0 with h | rfl | h
  · rw [if_pos (by omega), if_neg (by omega), neg_neg]
  · rw [neg_zero, if_pos le_rfl, Int.toNat_zero, roundHalfUp_zero]
    rfl
  · rw [if_neg (by omega), if_pos (by omega), neg_neg]

variable {p₁ p₂ : CurvePoint} {q : Nat}

/-- The line between two points keeps between their factors. -/
theorem interpolate_between (hlo : p₁.rate < q) (hhi : q < p₂.rate) :
    min p₁.mf p₂.mf ≤ interpolate p₁ p₂ q ∧ interpolate p₁ p₂ q ≤ max p₁.mf p₂.mf := by
  have hd : 0 < p₂.rate - p₁.rate := by omega
  have hcast : ((p₂.rate - p₁.rate : Nat) : Int) = (p₂.rate : Int) - p₁.rate := by omega
  have hx0 : 0 ≤ (q : Int) - p₁.rate := by omega
  have hx1 : (q : Int) - p₁.rate ≤ (p₂.rate : Int) - p₁.rate := by omega
  unfold interpolate
  rcases le_total p₁.mf p₂.mf with h | h
  · obtain ⟨k, hk⟩ := Nat.exists_eq_add_of_le h
    have hdiff : (p₂.mf : Int) - p₁.mf = k := by omega
    have h0 : 0 ≤ (k : Int) * ((q : Int) - p₁.rate) := by positivity
    have h1 : (k : Int) * ((q : Int) - p₁.rate) ≤ k * ((p₂.rate - p₁.rate : Nat) : Int) := by
      rw [hcast]
      exact mul_le_mul_of_nonneg_left hx1 (by positivity)
    rw [hdiff]
    have hlow := roundHalfAway_nonneg (d := p₂.rate - p₁.rate) h0
    have hhigh := roundHalfAway_le hd h0 h1
    omega
  · obtain ⟨k, hk⟩ := Nat.exists_eq_add_of_le h
    have hdiff : (p₂.mf : Int) - p₁.mf = -k := by omega
    have h0 : 0 ≤ (k : Int) * ((q : Int) - p₁.rate) := by positivity
    have h1 : (k : Int) * ((q : Int) - p₁.rate) ≤ k * ((p₂.rate - p₁.rate : Nat) : Int) := by
      rw [hcast]
      exact mul_le_mul_of_nonneg_left hx1 (by positivity)
    rw [hdiff, neg_mul, roundHalfAway_neg]
    have hlow := roundHalfAway_nonneg (d := p₂.rate - p₁.rate) h0
    have hhigh := roundHalfAway_le hd h0 h1
    omega

end Interpolation

section Curves

variable {p p₁ p₂ : CurvePoint} {before after : Curve} {q : Nat}

theorem ratesRise_cons {ps : Curve} (h : ratesRise (p :: ps) = true) : ratesRise ps = true := by
  cases ps with
  | nil => rfl
  | cons x xs =>
    rw [ratesRise, Bool.and_eq_true] at h
    exact h.2

/-- Of a rising curve every later point has a greater rate than the first. -/
theorem ratesRise_lt {ps : Curve} (h : ratesRise (p :: ps) = true) : ∀ x ∈ ps, p.rate < x.rate := by
  induction ps generalizing p with
  | nil => simp
  | cons y ys ih =>
    rw [ratesRise, Bool.and_eq_true, decide_eq_true_eq] at h
    obtain ⟨hlt, hrise⟩ := h
    intro x hx
    rcases List.mem_cons.mp hx with rfl | hx
    · exact hlt
    · exact hlt.trans (ih hrise x hx)

/-- At or above a point's rate the points before it make no difference. -/
theorem curveFrom_append {ps : Curve} (h : ratesRise (p :: (before ++ p₁ :: ps)) = true) (hq : p₁.rate ≤ q) :
    curveFrom p (before ++ p₁ :: ps) q = curveFrom p₁ ps q := by
  induction before generalizing p with
  | nil => simp [curveFrom, hq]
  | cons b bs ih =>
    have hrise := ratesRise_cons h
    have hb : b.rate ≤ q := (ratesRise_lt hrise p₁ (by simp)).le.trans hq
    rw [List.cons_append, curveFrom, if_pos hb]
    exact ih hrise

theorem meterFactor_append {ps : Curve} (h : ratesRise (before ++ p₁ :: ps) = true) (hq : p₁.rate ≤ q) :
    meterFactor (before ++ p₁ :: ps) q = curveFrom p₁ ps q := by
  cases before with
  | nil => rfl
  | cons b bs => exact curveFrom_append h hq

theorem ratesRise_of_append {ps : Curve} (h : ratesRise (before ++ ps) = true) : ratesRise ps = true := by
  induction before with
  | nil => exact h
  | cons b bs ih => exact ih (ratesRise_cons h)

/-- At a point's own rate the factor is the point's. -/
theorem meterFactor_at_point (h : ratesRise (before ++ p :: after) = true) :
    meterFactor (before ++ p :: after) p.rate = p.mf := by
  rw [meterFactor_append h le_rfl]
  have hrise := ratesRise_of_append h
  cases after with
  | nil => rfl
  | cons x xs =>
    have hlt := ratesRise_lt hrise x (by simp)
    rw [curveFrom, if_neg (by omega), if_pos le_rfl]

end Curves

/-- Settles O34: up to the point before the rate a curve is that point and those after it. -/
theorem curveFactorLiesBetweenItsPoints : Obligations.CurveFactorLiesBetweenItsPoints := by
  rintro c p₁ p₂ before after hrise rfl
  have hassoc : before ++ p₁ :: p₂ :: after = (before ++ [p₁]) ++ p₂ :: after := by simp
  have hlt : p₁.rate < p₂.rate := ratesRise_lt (ratesRise_of_append hrise) p₂ (by simp)
  have hfirst := meterFactor_at_point hrise
  have hsecond : meterFactor (before ++ p₁ :: p₂ :: after) p₂.rate = p₂.mf := by
    rw [hassoc] at hrise ⊢
    exact meterFactor_at_point hrise
  refine ⟨hfirst, hsecond, fun q hlo hhi => ?_, ?_, ?_⟩
  · rcases hlo.eq_or_lt with rfl | hlo
    · rw [hfirst]
      omega
    rcases hhi.eq_or_lt with rfl | hhi
    · rw [hsecond]
      omega
    rw [meterFactor_append hrise hlo.le, curveFrom, if_neg (by omega), if_neg (by omega)]
    exact interpolate_between hlo hhi
  · rintro q rfl hq
    show curveFrom p₁ (p₂ :: after) q = p₁.mf
    rw [curveFrom, if_neg (by omega), if_pos hq]
  · rintro q rfl hq
    rw [hassoc] at hrise ⊢
    rw [meterFactor_append hrise hq]
    rfl

/-! ### The record (R67 to R85) -/

section Record

variable {s : State} {r : Run}

theorem State.alarmsMoved_computationAlarms (rec : PeriodRecord) :
    s.AlarmsMoved ([.run r .mfUndefined] ++ [.run r .highRate]) (s.computationAlarms r rec) := by
  unfold State.computationAlarms
  split
  · exact (s.alarmsMoved_moveAlarm _ _).trans (State.alarmsMoved_moveAlarm _ _ _)
  · exact (s.alarmsMoved_setAlarm _ _).trans (State.alarmsMoved_setAlarm _ _ _)

theorem State.computationAlarms_mfUndefined (rec : PeriodRecord) :
    (s.computationAlarms r rec).alarmRaised (.run r .mfUndefined) = (rec.flags.mfDefault && !rec.final) := by
  unfold State.computationAlarms
  split
  · next hfinal =>
    have h := (s.setAlarm (.run r .mfUndefined) false).alarm_setAlarm_other (.run r .highRate) false
      (b := .run r .mfUndefined) (by simp)
    rw [hfinal, Bool.not_true, Bool.and_false]
    exact (State.alarmRaised_congr h).trans (State.alarmRaised_setAlarm _ _ _)
  · next hfinal =>
    rw [State.alarmRaised_congr (State.alarm_setAlarm_other _ _ _ (by simp)), State.alarmRaised_setAlarm]
    simp [hfinal]

theorem anyQuality_eq_true {q : Quality} {a b c d : ValueUsed} :
    anyQuality q [a, b, c, d] = true ↔ ∃ v ∈ [a, b, d, c], v.quality = q := by
  simp only [anyQuality, List.any_eq_true, decide_eq_true_eq, List.mem_cons, List.not_mem_nil, or_false,
    exists_eq_or_imp, exists_eq_left]
  tauto

end Record

/-- Settles O30: the record is the model's computation of the handover, and the alarms that follow it are the run's two. -/
theorem computationYieldsTheRecord : Obligations.ComputationYieldsTheRecord := by
  intro s r h hrun hset hh
  let c := s.computedPeriod r h
  let base := s.modCen r (·.compute c)
  let t := base.computationAlarms r c.record
  have hmoved : base.AlarmsMoved _ t := base.alarmsMoved_computationAlarms c.record
  have hexec : exec (.periodComputation r) s = .next t := by
    rw [exec_periodComputation hrun hh]
    exact congrArg _ (State.settle_of_settled _ (hmoved.settled hset))
  refine ⟨t, c, hexec, by rw [hmoved.frame]; rfl, rfl, rfl, rfl, rfl, rfl, rfl, rfl, rfl, rfl, rfl, rfl, rfl, rfl, rfl, rfl,
    fun hlen => ?_, fun hlen => ?_, rfl, rfl, ?_, ?_, fun used hused => ?_, ?_, fun a hm hh => ?_, ?_⟩
  · exact if_pos hlen
  · exact if_neg (by omega)
  · show decide (h.pulseState = .singleAOnly ∨ h.pulseState = .singleBOnly) = h.pulseState.degraded
    cases h.pulseState <;> rfl
  · show s.params.curves[r][c.record.slot].isEmpty = _
    cases s.params.curves[r][c.record.slot] <;> simp
  · subst hused
    exact ⟨anyQuality_eq_true, anyQuality_eq_true, anyQuality_eq_true, anyQuality_eq_true⟩
  · exact base.computationAlarms_mfUndefined c.record
  · exact hmoved.other a (by simp [hm, hh])
  · rw [hmoved.frame]
    rfl

end Sys2Proof.Machine
end

section
/-! The completion, the failure and the launch of a prove (R131, R132, R150, R153), and the requests, inputs and timers
that bring them (R130 to R138, R148, R152). -/

namespace Sys2Proof.Machine

set_option Elab.async false

/-! ### Completion and failure (R150, R153) -/

/-- Retained content after a prove has completed with an outcome: the last result of the marker's run, and no marker. -/
def Retained.proveEnded (x : Retained) (time : Seconds) (attempts : Nat) (outcome : ProveOutcome) : Retained :=
  match x.marker with
  | none => x
  | some m =>
    { x with
      lastProve := x.lastProve.set m.run (some (lastProveOf m time attempts outcome))
      marker := none }

/-- A run without a capture and without a pass watch (R150, R152). -/
def RunPulse.withoutPass (x : RunPulse) : RunPulse := { x with capture := none, watch := none }

section Completion

variable (s : State)

theorem Retained.proveEnded_of_marker {x : Retained} {m : ProveMarker} (h : x.marker = some m) (time : Seconds)
    (attempts : Nat) (outcome : ProveOutcome) :
    x.proveEnded time attempts outcome = { x with
      marker := none
      lastProve := x.lastProve.set m.run (some ⟨time, m.startTime, m.slot, attempts, outcome⟩) } := by
  simp only [Retained.proveEnded, h]
  rfl

theorem Retained.proveEnded_marker (x : Retained) (time : Seconds) (attempts : Nat) (outcome : ProveOutcome) :
    (x.proveEnded time attempts outcome).marker = none := by
  unfold Retained.proveEnded
  split
  · assumption
  · rfl

theorem State.completeProve_eq (outcome : ProveOutcome) :
    s.completeProve outcome = { s with
      psq := s.psq.toIdle, flags := { s.flags with proveFinished := true }
      ret := s.ret.proveEnded s.clock s.psq.attempts outcome } := by
  cases hm : s.ret.marker <;>
    simp only [State.completeProve, State.recordOutcome, Retained.proveEnded, hm] <;> rfl

theorem State.dropPass_eq :
    s.dropPass = { s with pulses := s.pulses.set s.proveRun s.pulses[s.proveRun].withoutPass } := by
  simp only [State.dropPass, State.cancelCapture, State.removeWatch, State.modRun_modRun]
  rfl

/-- What a failed prove leaves (R150). -/
structure State.ProveFailed (cause : ProveCause) (s t : State) : Prop where
  psq : t.psq = s.psq.toIdle
  ret : t.ret = s.ret.proveEnded s.clock s.psq.attempts (.failed cause)
  pulses : t.pulses = s.pulses.set s.proveRun s.pulses[s.proveRun].withoutPass
  finished : t.flags.proveFinished = true
  raised : t.alarmRaised (.station .proveFailed) = true
  other : ∀ a : AlarmId, a ≠ .station .proveFailed → t.alarm a = s.alarm a
  frame : t = { s with ret := t.ret, pulses := t.pulses, psq := t.psq, alarms := t.alarms, flags := t.flags }

theorem State.failProve_failed (cause : ProveCause) : State.ProveFailed cause s (s.failProve cause) := by
  let u := s.dropPass.raiseAlarm (.station .proveFailed)
  have hmoved : s.dropPass.AlarmsMoved _ u := s.dropPass.alarmsMoved_moveAlarm _ _
  have hframe : u = { s with
      pulses := s.pulses.set s.proveRun s.pulses[s.proveRun].withoutPass, alarms := u.alarms, flags := u.flags } := by
    have hbase := hmoved.frame
    rw [State.dropPass_eq] at hbase
    exact hbase
  have hraised : u.alarmRaised (.station .proveFailed) = true :=
    State.alarmRaised_setAlarm s.dropPass (.station .proveFailed) true
  have hother (a : AlarmId) (ha : a ≠ .station .proveFailed) : u.alarm a = s.alarm a :=
    (hmoved.other a (by simpa using ha)).trans (by rw [State.dropPass_eq]; rfl)
  have hfail : s.failProve cause = { u with
      psq := u.psq.toIdle, flags := { u.flags with proveFinished := true }
      ret := u.ret.proveEnded u.clock u.psq.attempts (.failed cause) } := u.completeProve_eq (.failed cause)
  rw [hfail]
  clear_value u
  exact {
    psq := by rw [hframe]
    ret := by rw [hframe]
    pulses := by rw [hframe]
    finished := rfl
    raised := hraised
    other := hother
    frame := by rw [hframe] }

end Completion

section ProveFailed

variable {s t : State} {cause : ProveCause}

theorem State.ProveFailed.capture (h : State.ProveFailed cause s t) :
    t.pulses[s.proveRun].capture = none ∧ t.pulses[s.proveRun].watch = none := by
  have hself : (s.pulses.set s.proveRun s.pulses[s.proveRun].withoutPass)[s.proveRun]
      = s.pulses[s.proveRun].withoutPass := Vector.getElem_set_self _
  rw [h.pulses, hself]
  exact ⟨rfl, rfl⟩

end ProveFailed

/-- `State.settle_frame` as one equation of states. -/
theorem State.settle_eq_with (s : State) :
    s.settle = { s with bankA := s.settle.bankA, bankB := s.settle.bankB, current := s.settle.current } := by
  unfold State.settle
  split
  · rfl
  · obtain ⟨-, -, -, -, hframe⟩ := s.retainedUpdate_of_current
    exact hframe

/-! ### Routing and launching (R131, R132) -/

/-- The machine in a LAUNCH state, or past it where the valve stands already (R132). -/
theorem State.enterLaunch_fwd (s : State) :
    s.enterLaunch false = { s with psq := { s.psq with
      state := (if s.psq.fwdReady then .fwdTravel else .fwdLaunch)
      dirReverse := false
      pass := .none
      valveTimer := (if s.psq.fwdReady then none else some s.valveDeadline)
      passTimer := (if s.psq.fwdReady then some (s.now + s.params.prover.passTimeout * 10000000)
        else s.psq.passTimer) } } := by
  have hready (x : ProverState) (d : Option Moment) :
      ProverSeq.fwdReady { s.psq with state := x, dirReverse := false, pass := .none, valveTimer := d }
        = s.psq.fwdReady := rfl
  simp only [State.enterLaunch, State.tryLaunch, State.modPsq, Bool.false_eq_true, if_false, hready]
  cases s.psq.fwdReady <;> rfl

theorem State.enterLaunch_rev (s : State) :
    s.enterLaunch true = { s with psq := { s.psq with
      state := (if s.psq.revReady then .revTravel else .revLaunch)
      dirReverse := true
      pass := .none
      valveTimer := (if s.psq.revReady then none else some s.valveDeadline)
      passTimer := (if s.psq.revReady then some (s.now + s.params.prover.passTimeout * 10000000)
        else s.psq.passTimer) } } := by
  have hready (x : ProverState) (d : Option Moment) :
      ProverSeq.revReady { s.psq with state := x, dirReverse := true, pass := .none, valveTimer := d }
        = s.psq.revReady := rfl
  simp only [State.enterLaunch, State.tryLaunch, State.modPsq, if_true, hready]
  cases s.psq.revReady <;> rfl

theorem State.tryRoute_of_routing {s : State} (h : s.psq.state = .routing) :
    s.tryRoute = if s.psq.routeOk.filtered then s.enterLaunch false else s := by
  simp only [State.tryRoute, h]

theorem State.tryRoute_of_not_routing {s : State} (h : s.psq.state ≠ .routing) : s.tryRoute = s := by
  unfold State.tryRoute
  split
  · next hr => exact absurd hr h
  all_goals rfl

theorem State.tryLaunch_eq (s : State) :
    s.tryLaunch =
      if s.psq.state = .fwdLaunch ∧ s.psq.fwdReady = true then s.completeLaunch .fwdTravel
      else if s.psq.state = .revLaunch ∧ s.psq.revReady = true then s.completeLaunch .revTravel
      else s := by
  unfold State.tryLaunch
  cases hs : s.psq.state <;> simp

/-! ### PROVE START (R130) -/

theorem runOfNumber?_number (r : Run) : runOfNumber? (r.val + 1) = some r := by revert r; decide

theorem runOfNumber?_eq_none {n : Nat} (h : n = 0 ∨ 4 < n) : runOfNumber? n = none := by
  exact dif_neg (by omega)

/-- The Prover Sequencer as an accepted PROVE START leaves it, before the inputs move it on (R130). -/
def State.startedPsq (s : State) (r : Run) : ProverSeq :=
  { s.psq with
    state := .routing, run := some r, slot := some (s.productInForce r), qstart := some (s.latestQ r), attempts := 0
    pass := .none, fwd := none, samples := [], trips := [], result := none, route := noRuns.set r true
    valveTimer := some s.valveDeadline }

theorem State.beginProve_spec (s : State) (r : Run) :
    ∃ (alarms : Vector Alarm 54) (flags : EventFlags), s.beginProve r = { s with
        psq := s.startedPsq r, ret := { s.ret with marker := some ⟨r, s.productInForce r, s.clock, 0, none⟩ }
        alarms := alarms, flags := flags }
      ∧ (s.beginProve r).alarmRaised (.station .proveFailed) = false := by
  let base : State := { s with
    psq := s.startedPsq r, ret := { s.ret with marker := some ⟨r, s.productInForce r, s.clock, 0, none⟩ } }
  have hmoved : base.AlarmsMoved _ (s.beginProve r) := base.alarmsMoved_moveAlarm (.station .proveFailed) .cleared
  exact ⟨_, _, hmoved.frame, State.alarmRaised_setAlarm base (.station .proveFailed) false⟩

theorem State.mayProve_eq_true_iff (s : State) (r : Run) :
    s.mayProve r = true ↔ s.ret.service[r] = .inService ∧ s.pulses[r].flow = some .flowing
      ∧ (s.pulses[r].settings.mode = .singleA ∨ s.pulses[r].pulseState = .dualOk) := by
  have hmode : ¬ s.pulses[r].settings.mode = .dual ↔ s.pulses[r].settings.mode = .singleA := by
    cases s.pulses[r].settings.mode <;> simp
  rw [State.mayProve, Bool.and_eq_true, decide_eq_true_iff, decide_eq_true_iff, not_and_or, hmode, not_not, and_assoc]

/-- The sequencer of an accepted PROVE START, moved on as far as ROUTE_OK and the valve allow. -/
theorem State.startedPsq_routed (s : State) (r : Run) :
    ∃ x : ProverSeq,
      x = (if s.psq.routeOk.filtered then
            { s.startedPsq r with
              state := (if s.psq.fwdReady then .fwdTravel else .fwdLaunch), dirReverse := false, pass := .none
              valveTimer := (if s.psq.fwdReady then none else some s.valveDeadline)
              passTimer := (if s.psq.fwdReady then some (s.now + s.params.prover.passTimeout * 10000000)
                else s.psq.passTimer) }
          else s.startedPsq r)
        ∧ (x.run = some r ∧ x.slot = some (s.productInForce r) ∧ x.qstart = some (s.latestQ r)
          ∧ x.attempts = 0 ∧ x.trips = [] ∧ x.result = none ∧ x.route = noRuns.set r true)
        ∧ (s.psq.routeOk.filtered = false → x.state = .routing ∧ x.dirReverse = s.psq.dirReverse
            ∧ x.valveTimer = some (s.now + s.params.prover.valveTimeout * 10000000))
        ∧ (s.psq.routeOk.filtered = true → x.dirReverse = false
            ∧ (s.psq.fwdReady = false → x.state = .fwdLaunch
                ∧ x.valveTimer = some (s.now + s.params.prover.valveTimeout * 10000000))
            ∧ (s.psq.fwdReady = true → x.state = .fwdTravel ∧ x.valveTimer = none
                ∧ x.passTimer = some (s.now + s.params.prover.passTimeout * 10000000))) := by
  refine ⟨_, rfl, ?_⟩
  cases s.psq.routeOk.filtered <;> cases s.psq.fwdReady <;> simp [State.startedPsq] <;> rfl

/-- Settles O46: the checks in their order, and the sequencer from ROUTING as far as the inputs take it. -/
theorem proveStartRoutesTheRun : Obligations.ProveStartRoutesTheRun := by
  intro s hr
  refine ⟨fun n hn => ?_, fun r => ⟨fun hbusy => ?_, fun hidle => ⟨fun hnot => ?_, fun hin hflow hstate => ?_⟩⟩⟩
  · exact exec_of_request_refused hr rfl (by simp only [takeProveStart, runOfNumber?_eq_none hn])
  · exact exec_of_request_refused hr rfl (by simp only [takeProveStart, runOfNumber?_number, if_pos hbusy])
  · have hmay : s.mayProve r = false := by
      rw [← Bool.not_eq_true, State.mayProve_eq_true_iff]
      rintro ⟨hin, hflow, hstate⟩
      rcases hnot with h | h | ⟨h, h'⟩
      · rw [h] at hin; cases hin
      · exact h hflow
      · exact hstate.elim (fun hs => by rw [h] at hs; cases hs) h'
    exact exec_of_request_refused hr rfl (by simp [takeProveStart, runOfNumber?_number, hidle, hmay])
  · have hmay : s.mayProve r = true := (s.mayProve_eq_true_iff r).mpr ⟨hin, hflow, hstate⟩
    have hf : takeProveStart (r.val + 1) s
        = ((s.beginProve r).tryRoute, .okWith [.u64 (s.latestQ r), .u8 (s.productInForce r).val]) := by
      simp [takeProveStart, runOfNumber?_number, hidle, hmay]
    obtain ⟨alarms, flags, hbegin, hcleared⟩ := s.beginProve_spec r
    have hrouting : (s.beginProve r).psq.state = .routing := by rw [hbegin]; rfl
    obtain ⟨x, hx, hfields, hwaits, hmoves⟩ := s.startedPsq_routed r
    have hu : (s.beginProve r).tryRoute = { s with
        psq := x, ret := { s.ret with marker := some ⟨r, s.productInForce r, s.clock, 0, none⟩ }
        alarms := alarms, flags := flags } := by
      have hok : (s.beginProve r).psq.routeOk = s.psq.routeOk := by rw [hbegin]; rfl
      have hfwd : (s.beginProve r).psq.fwdReady = s.psq.fwdReady := by rw [hbegin]; rfl
      rw [State.tryRoute_of_routing hrouting, State.enterLaunch_fwd, hok, hfwd, hbegin, hx]
      cases s.psq.routeOk.filtered <;> rfl
    have hraised : (s.beginProve r).tryRoute.alarmRaised (.station .proveFailed) = false := by
      rw [hu]
      rw [hbegin] at hcleared
      exact hcleared
    obtain ⟨hrun, hslot, hqstart, hattempts, htrips, hresult, hroute⟩ := hfields
    generalize (s.beginProve r).tryRoute = u at *
    have hpsq : u.psq = x := by rw [hu]
    refine ⟨_, exec_of_request_answer hr rfl hf, State.settled_settle, rfl, ?_⟩
    have hraised' : u.settle.alarmRaised (.station .proveFailed) = false :=
      (State.alarmRaised_congr (u.alarm_settle _)).trans hraised
    have hret : u.settle.ret = { s.ret with marker := some ⟨r, s.productInForce r, s.clock, 0, none⟩ } := by
      rw [u.settle_eq_with, hu]
    have hpsq' : u.settle.psq = x := by rw [u.settle_eq_with, ← hpsq]
    have hframe : { u.settle with reply := some (Reply.okWith [.u64 (s.latestQ r), .u8 (s.productInForce r).val]) }
        = { s with
          ret := u.settle.ret, bankA := u.settle.bankA, bankB := u.settle.bankB, current := u.settle.current
          psq := u.settle.psq, alarms := u.settle.alarms, flags := u.settle.flags
          reply := some (Reply.okWith [.u64 (s.latestQ r), .u8 (s.productInForce r).val]) } := by
      rw [u.settle_eq_with, hu]
    generalize u.settle = v at *
    subst hpsq'
    exact ⟨hret, hraised', hrun, hslot, hqstart, hattempts, htrips, hresult, hroute, hwaits, hmoves, hframe⟩

end Sys2Proof.Machine
end

section
/-! The inputs and the timers of a prove (R127, R131 to R133, R135, R150), and the requests that end one (R148, R149,
R152). -/

namespace Sys2Proof.Machine

set_option Elab.async false

/-! ### An event that fails the prove (R150) -/

/-- What an event leaves in which the prove fails. -/
structure State.FailedSettled (cause : ProveCause) (s t : State) : Prop where
  settled : t.Settled
  psq : t.psq = s.psq.toIdle
  ret : t.ret = s.ret.proveEnded s.clock s.psq.attempts (.failed cause)
  pulses : t.pulses = s.pulses.set s.proveRun s.pulses[s.proveRun].withoutPass
  finished : t.flags.proveFinished = true
  raised : t.alarmRaised (.station .proveFailed) = true
  other : ∀ a : AlarmId, a ≠ .station .proveFailed → t.alarm a = s.alarm a
  frame : t = { s with
    ret := t.ret, bankA := t.bankA, bankB := t.bankB, current := t.current, pulses := t.pulses, psq := t.psq
    alarms := t.alarms, flags := t.flags }

theorem State.failProve_settled (s : State) (cause : ProveCause) :
    State.FailedSettled cause s (s.failProve cause).settle := by
  have hfailed := s.failProve_failed cause
  have hsettle := (s.failProve cause).settle_eq_with
  have hraised := (State.alarmRaised_congr ((s.failProve cause).alarm_settle (.station .proveFailed))).trans hfailed.raised
  have hother (a : AlarmId) (ha : a ≠ .station .proveFailed) : (s.failProve cause).settle.alarm a = s.alarm a :=
    ((s.failProve cause).alarm_settle a).trans (hfailed.other a ha)
  have hsettled : (s.failProve cause).settle.Settled := State.settled_settle
  generalize (s.failProve cause).settle = t at *
  generalize s.failProve cause = u at *
  exact {
    settled := hsettled
    psq := by rw [hsettle]; exact hfailed.psq
    ret := by rw [hsettle]; exact hfailed.ret
    pulses := by rw [hsettle]; exact hfailed.pulses
    finished := by rw [hsettle]; exact hfailed.finished
    raised := hraised
    other := hother
    frame := by rw [hsettle, hfailed.frame] }

section FailedSettled

variable {s t : State} {cause : ProveCause}

theorem State.FailedSettled.idle (h : State.FailedSettled cause s t) :
    t.psq.state = .idle ∧ t.psq.route = noRuns ∧ t.psq.dirReverse = s.psq.dirReverse ∧ t.psq.trips = s.psq.trips := by
  rw [h.psq]
  exact ⟨rfl, rfl, rfl, rfl⟩

theorem State.FailedSettled.dropped (h : State.FailedSettled cause s t) :
    t.pulses[s.proveRun].capture = none ∧ t.pulses[s.proveRun].watch = none := by
  have hself : (s.pulses.set s.proveRun s.pulses[s.proveRun].withoutPass)[s.proveRun]
      = s.pulses[s.proveRun].withoutPass := Vector.getElem_set_self _
  rw [h.pulses, hself]
  exact ⟨rfl, rfl⟩

theorem State.FailedSettled.ret_of_marker (h : State.FailedSettled cause s t) {m : ProveMarker}
    (hm : s.ret.marker = some m) :
    t.ret = { s.ret with
      marker := none
      lastProve := s.ret.lastProve.set m.run
        (some ⟨s.clock, m.startTime, m.slot, s.psq.attempts, .failed cause⟩) } :=
  h.ret.trans (Retained.proveEnded_of_marker hm _ _ _)

end FailedSettled

/-- Outside IDLE a running module has the prove marker (R129). -/
theorem State.ProverSound.marker {s : State} (h : s.ProverSound) (hrun : s.phase = .running)
    (hstate : s.psq.state ≠ .idle) : ∃ m : ProveMarker, s.ret.marker = some m := by
  obtain ⟨-, hmarker⟩ := h
  refine Option.isSome_iff_exists.mp ?_
  rw [hmarker hrun, decide_eq_true hstate]

/-! ### ROUTE_OK and the valve switches (R131 to R133) -/

theorem ProverState.ne_idle_of_afterRouting {x : ProverState} (h : x.afterRouting = true) : x ≠ .idle := by
  rintro rfl
  cases h

theorem ProverState.ne_routing_of_afterRouting {x : ProverState} (h : x.afterRouting = true) : x ≠ .routing := by
  rintro rfl
  cases h

section Inputs

variable {s : State} {u : Moment}

theorem routeOkAccept_eq (hu : s.psq.routeOk.since = some u) :
    routeOkAccept s =
      let s1 : State := { s with
        now := max s.now (u + 500000)
        psq := { s.psq with routeOk := ⟨s.psq.routeOk.raw, s.psq.routeOk.raw, none⟩ } }
      if s.psq.routeOk.raw then s1.tryRoute
      else if s.psq.state.afterRouting then s1.failProve .routeLost else s1 := by
  simp only [routeOkAccept, hu]
  rfl

theorem valveAccept_eq {v : ValveSwitch} (hu : (s.psq.input (valveInput v)).since = some u) :
    valveAccept v s = State.tryLaunch { s with
      now := max s.now (u + 500000)
      psq := s.psq.setInput (valveInput v)
        ⟨(s.psq.input (valveInput v)).raw, (s.psq.input (valveInput v)).raw, none⟩ } := by
  simp only [valveAccept, hu]
  cases v <;> rfl

end Inputs

/-- Settles O47: ROUTE_OK ends ROUTING or fails the prove, and the valve completes a launch. -/
theorem routeAndValveInputsMoveTheProve : Obligations.RouteAndValveInputsMoveTheProve := by
  intro s u now' hrun hset hsound hnow
  subst hnow
  refine ⟨fun hu => ⟨fun hraw hstate => ?_, fun hraw hstate => ?_, fun hcase => ?_⟩, fun v x hv hx => ?_⟩
  · let s1 : State := { s with
      now := max s.now (u + 500000)
      psq := { s.psq with routeOk := ⟨s.psq.routeOk.raw, s.psq.routeOk.raw, none⟩ } }
    have hok : s1.psq.routeOk.filtered = true := hraw
    have hroute : s1.psq.state = .routing := hstate
    have hf : routeOkAccept s = s1.enterLaunch false := by
      rw [routeOkAccept_eq hu, if_pos hraw]
      exact (State.tryRoute_of_routing hroute).trans (if_pos hok)
    rw [State.enterLaunch_fwd] at hf
    refine ⟨_, (exec_of_event_settled hrun (c := .routeOkChange) rfl (by rw [hf]; exact hset)).trans (by rw [hf]),
      rfl, ?_, rfl, rfl⟩
    show InputFilter.mk s.psq.routeOk.raw s.psq.routeOk.raw none = _
    rw [hraw]
  · let s1 : State := { s with
      now := max s.now (u + 500000)
      psq := { s.psq with routeOk := ⟨s.psq.routeOk.raw, s.psq.routeOk.raw, none⟩ } }
    have hf : routeOkAccept s = s1.failProve .routeLost := by
      rw [routeOkAccept_eq hu, if_neg (by simp [hraw]), if_pos hstate]
    obtain ⟨m, hm⟩ := hsound.marker hrun (ProverState.ne_idle_of_afterRouting hstate)
    have hfailed := s1.failProve_settled .routeLost
    obtain ⟨hidle, hroute, hdir, -⟩ := hfailed.idle
    exact ⟨_, m, (exec_of_event hrun (c := .routeOkChange) rfl).trans (by rw [hf]), hm, hidle, hroute, hdir,
      hfailed.raised, hfailed.finished, hfailed.settled, hfailed.ret_of_marker hm⟩
  · have hf : routeOkAccept s = { s with
        now := max s.now (u + 500000)
        psq := { s.psq with routeOk := ⟨s.psq.routeOk.raw, s.psq.routeOk.raw, none⟩ } } := by
      rw [routeOkAccept_eq hu]
      rcases hcase with ⟨hraw, hstate⟩ | ⟨hraw, hstate⟩
      · exact (if_pos hraw).trans (State.tryRoute_of_not_routing hstate)
      · exact (if_neg (by simp [hraw])).trans (if_neg (by simp [hstate]))
    rw [← hf]
    exact exec_of_event_settled hrun rfl (by rw [hf]; exact hset)
  · have hstate : x.state = s.psq.state := by rw [hx]; cases v <;> rfl
    have hf := valveAccept_eq hv
    rw [← hx, State.tryLaunch_eq] at hf
    simp only [hstate] at hf
    have hsettled : (valveAccept v s).Settled := by
      rw [hf]
      split
      · exact hset
      · split <;> exact hset
    rw [exec_of_event_settled hrun (c := .valveInputChange v) rfl hsettled, hf]
    split
    · rfl
    · split <;> rfl

/-! ### PROVE ACCEPT, PROVE REJECT and PROVE ABORT (R148, R149, R152) -/

section HeldBatch

variable {s t : State} {id j : Nat} {f : Batch → Batch} {b : Batch} {r : Run}

theorem State.heldBatch?_congr (hactive : t.ret.active = s.ret.active) (hending : t.ret.ending = s.ret.ending) :
    t.heldBatch? j = s.heldBatch? j := by
  simp only [State.heldBatch?, hactive, hending]

/-- A change of the batch under one id, seen under any id. -/
theorem State.heldBatch?_modBatch (h : KeepsBatch f) :
    (s.modBatch id f).heldBatch? j = (s.heldBatch? j).map (Batch.changedAt id f) := by
  have hfind (bs : List Batch) : (bs.map (Batch.changedAt id f)).find? (fun b => decide (b.record.id = j))
      = (bs.find? (fun b => decide (b.record.id = j))).map (Batch.changedAt id f) := by
    rw [List.find?_map]
    simp only [Function.comp_def, h.changedAt_id]
  cases hactive : s.ret.active with
  | none => simp only [State.heldBatch?, State.modBatch, State.modRet, hactive, Option.map_none, hfind]
  | some a =>
    simp only [State.heldBatch?, State.modBatch, State.modRet, hactive, Option.map_some, hfind, h.changedAt_id]
    split <;> rfl

theorem State.BatchIdsDistinct.ret (h : s.BatchIdsDistinct) : s.ret.BatchIdsDistinct := h s.ret (by simp [State.copies])

theorem Retained.BatchIdsDistinct.live (h : s.ret.BatchIdsDistinct) :
    (s.liveBatches.map (fun b => b.record.id)).Nodup := by
  unfold Retained.BatchIdsDistinct at h
  rw [List.append_assoc] at h
  rw [State.liveBatches, List.map_append]
  exact h.of_append_right

theorem State.heldBatch?_of_mem (h : s.ret.BatchIdsDistinct) (hb : b ∈ s.liveBatches) :
    s.heldBatch? b.record.id = some b := by
  obtain ⟨b', hb'⟩ := Option.isSome_iff_exists.mp (State.heldBatch?_isSome hb)
  obtain ⟨hmem, hid⟩ := State.heldBatch?_spec hb'
  rw [hb', List.inj_on_of_nodup_map h.live hmem hb hid]

theorem State.batchInForce?_mem (h : s.batchInForce? r = some b) : b ∈ s.liveBatches := by
  unfold State.batchInForce? at h
  unfold State.liveBatches
  split at h
  · next a ha =>
    obtain rfl := Option.some.inj h
    exact List.mem_append_right _ (List.mem_of_find?_eq_some ha)
  · rw [h]
    simp

end HeldBatch

/-- Retained content with one more MF change of the batch in force for a run (R103, R149). -/
def State.countedChange (s : State) (r : Run) : Retained :=
  match s.batchInForce? r with
  | some b => (s.modBatch b.record.id Batch.countMFChange).ret
  | none => s.ret

/-- The audit body of an applied result. -/
def State.appliedBody (s : State) (r : Run) (slot : Slot) (res : ProveResult) : AuditBody :=
  .proveAccepted r slot (replacedPoint? s.params.curves[r][slot] res.rate) ⟨res.rate, res.newMF⟩

/-- The parameters with a result applied. -/
def State.appliedParams (s : State) (r : Run) (slot : Slot) (res : ProveResult) : Params :=
  { s.params with
    curves := s.params.curves.set r
      (s.params.curves[r].set slot (newCurveOf s.params.curves[r][slot] ⟨res.rate, res.newMF⟩)) }

section Apply

variable {s : State} {r : Run} {slot : Slot}

theorem State.countedChange_frame (s : State) (r : Run) :
    s.countedChange r = { s.ret with active := (s.countedChange r).active, ending := (s.countedChange r).ending } := by
  unfold State.countedChange
  split <;> rfl

theorem State.countedChange_of_none (h : s.batchInForce? r = none) :
    (s.countedChange r).active = s.ret.active ∧ (s.countedChange r).ending = s.ret.ending := by
  simp only [State.countedChange, h, and_self]

theorem State.countedChange_of_some {t : State} {b : Batch} (hids : s.BatchIdsDistinct) (h : s.batchInForce? r = some b)
    (hactive : t.ret.active = (s.countedChange r).active) (hending : t.ret.ending = (s.countedChange r).ending) :
    t.heldBatch? b.record.id = some { b with mfChanges := min 65535 (b.mfChanges + 1) }
      ∧ ∀ id : Nat, id ≠ b.record.id → t.heldBatch? id = s.heldBatch? id := by
  have hcount : s.countedChange r = (s.modBatch b.record.id Batch.countMFChange).ret := by
    simp only [State.countedChange, h]
  rw [hcount] at hactive hending
  have hheld (j : Nat) : t.heldBatch? j = (s.heldBatch? j).map (Batch.changedAt b.record.id Batch.countMFChange) :=
    (State.heldBatch?_congr hactive hending).trans (State.heldBatch?_modBatch {})
  refine ⟨?_, fun id hid => ?_⟩
  · rw [hheld, State.heldBatch?_of_mem hids.ret (State.batchInForce?_mem h), Option.map_some, Batch.changedAt, if_pos rfl]
    rfl
  · rw [hheld]
    cases hx : s.heldBatch? id with
    | none => rfl
    | some x =>
      obtain ⟨-, hxid⟩ := State.heldBatch?_spec hx
      rw [Option.map_some, Batch.changedAt, if_neg (hxid ▸ hid)]

theorem State.applyResult_eq (hrun : s.psq.run = some r) (hslot : s.psq.slot = some slot) (res : ProveResult)
    (who : AcceptedBy) :
    s.applyResult res who = { s with
      params := s.appliedParams r slot res
      ret := (s.countedChange r).proveEnded s.clock s.psq.attempts (.accepted who res)
      psq := s.psq.toIdle
      flags := { s.flags with proveFinished := true }
      audit := s.audit.write ⟨s.auditNext, s.clock, s.appliedBody r slot res⟩
      auditNext := s.auditNext + 1 } := by
  have hr : s.proveRun = r := by rw [State.proveRun, hrun]; rfl
  have hs : s.proveSlot = slot := by rw [State.proveSlot, hslot]; rfl
  have hforce (p : Params) (body : AuditBody) :
      State.batchInForce? (State.appendAudit { s with params := p } body) r = s.batchInForce? r := rfl
  simp only [State.applyResult, hr, hs, hforce, State.completeProve_eq, State.countedChange]
  cases s.batchInForce? r <;> rfl

end Apply

/-- Settles O50: the refusals, the accepted and the rejected result, and the abort. -/
theorem proveRequestsCompleteTheProve : Obligations.ProveRequestsCompleteTheProve := by
  refine ⟨fun s hr => ⟨fun hstate => ⟨?_, ?_⟩, fun hstate => ?_⟩,
    fun s r slot m hr hsound hrun hslot hm => ⟨fun res hstate hres => ⟨?_, ?_⟩, fun hproving => ?_⟩⟩
  · refine exec_of_request_refused hr rfl ?_
    unfold takeProveAccept
    split
    · next h _ => exact absurd h hstate
    · rfl
  · refine exec_of_request_refused hr rfl ?_
    unfold takeProveReject
    split
    · next h _ => exact absurd h hstate
    · rfl
  · refine exec_of_request_refused hr rfl (if_neg ?_)
    rcases hstate with h | h <;> simp [h, ProverState.proving]
  · have hf : takeProveAccept s
        = (s.applyResult res .request, .okWith [.u32 res.newMF, .u32 res.rate, .u32 res.rate, .u32 res.newMF]) := by
      simp only [takeProveAccept, hstate, hres]
    have hexec := exec_of_request_answer (c := .proveAccept) hr rfl hf
    have hsettle := (s.applyResult res .request).settle_eq_with
    have hsettled : (s.applyResult res .request).settle.Settled := State.settled_settle
    rw [State.applyResult_eq hrun hslot, Retained.proveEnded_of_marker (m := m)
      (by rw [State.countedChange_frame]; exact hm)] at hexec hsettle hsettled
    generalize State.settle _ = v at hexec hsettle hsettled
    have hret : v.ret = { s.ret with
        active := (s.countedChange r).active
        ending := (s.countedChange r).ending
        marker := none
        lastProve := s.ret.lastProve.set m.run
          (some ⟨s.clock, m.startTime, m.slot, s.psq.attempts, .accepted .request res⟩) } := by
      rw [hsettle, State.countedChange_frame]
    have hactive : v.ret.active = (s.countedChange r).active := by rw [hret]
    have hending : v.ret.ending = (s.countedChange r).ending := by rw [hret]
    refine ⟨_, hexec, hsettled, rfl, ?_, ?_, fun hnone => ?_, fun hids b hb => ?_, ?_, ?_, ?_, ?_⟩
    · rw [hsettle]; rfl
    · rw [hactive, hending]; exact hret
    · obtain ⟨ha, he⟩ := State.countedChange_of_none hnone
      exact ⟨hactive.trans ha, hending.trans he⟩
    · exact State.countedChange_of_some hids hb hactive hending
    · rw [hsettle]; rfl
    · rw [hsettle]
    · rw [hsettle]; rfl
    · rw [hsettle]
  · have hf : takeProveReject s
        = ((s.appendAudit (.proveRejected s.proveRun s.proveSlot res.newMF res.rate)).completeProve (.rejected res),
          .justOk) := by
      simp only [takeProveReject, hstate, hres]
    have hexec := exec_of_request_answer (c := .proveReject) hr rfl hf
    have hrr : s.proveRun = r := by rw [State.proveRun, hrun]; rfl
    have hss : s.proveSlot = slot := by rw [State.proveSlot, hslot]; rfl
    have hu := State.completeProve_eq (s.appendAudit (.proveRejected r slot res.newMF res.rate)) (.rejected res)
    rw [Retained.proveEnded_of_marker (m := m) (by exact hm)] at hu
    rw [hrr, hss] at hexec
    generalize State.completeProve _ _ = w at hexec hu
    have hsettle := w.settle_eq_with
    have hsettled : w.settle.Settled := State.settled_settle
    generalize w.settle = v at hexec hsettle hsettled
    subst hu
    exact ⟨_, hexec, hsettled, rfl, by rw [hsettle]; rfl, by rw [hsettle]; rfl, by rw [hsettle]; rfl⟩
  · have hf : takeProveAbort s = (s.dropPass.completeProve (.aborted false), .justOk) := if_pos hproving
    have hexec := exec_of_request_answer (c := .proveAbort) hr rfl hf
    have hrr : s.proveRun = r := by rw [State.proveRun, hrun]; rfl
    have hdrop : s.dropPass = { s with pulses := s.pulses.set r s.pulses[r].withoutPass } := by
      subst hrr
      exact s.dropPass_eq
    have hu := s.dropPass.completeProve_eq (.aborted false)
    rw [hdrop, Retained.proveEnded_of_marker (m := m) (by exact hm)] at hu
    rw [hdrop] at hexec
    generalize State.completeProve _ _ = w at hexec hu
    have hsettle := w.settle_eq_with
    have hsettled : w.settle.Settled := State.settled_settle
    generalize w.settle = v at hexec hsettle hsettled
    subst hu
    have hself : (s.pulses.set r s.pulses[r].withoutPass)[r] = s.pulses[r].withoutPass := Vector.getElem_set_self _
    have hpsq : v.psq = s.psq.toIdle := by rw [hsettle]
    have hpulses : v.pulses = s.pulses.set r s.pulses[r].withoutPass := by rw [hsettle]
    refine ⟨_, hexec, hsettled, rfl, ?_, ?_, ?_, ?_, ?_, ?_, ?_, ?_, by rw [hsettle], by rw [hsettle]⟩
    · exact (congrArg ProverSeq.state hpsq).trans rfl
    · exact (congrArg ProverSeq.route hpsq).trans rfl
    · exact (congrArg ProverSeq.dirReverse hpsq).trans rfl
    · exact (congrArg ProverSeq.valveTimer hpsq).trans rfl
    · exact (congrArg ProverSeq.passTimer hpsq).trans rfl
    · exact (congrArg ProverSeq.tailTimer hpsq).trans rfl
    · show v.pulses[r].capture = none
      rw [hpulses, hself]
      rfl
    · show v.pulses[r].watch = none
      rw [hpulses, hself]
      rfl

end Sys2Proof.Machine
end

section
/-! The timers of a prove (R131, R132, R135, R138), and the completion of a round trip (R141 to R144). -/

namespace Sys2Proof.Machine

set_option Elab.async false

/-! ### The judgement of a round trip (R141 to R143) -/

theorem distance_eq_natAbs (a b : Nat) : distance a b = ((a : Int) - b).natAbs := by
  unfold distance
  omega

theorem clampInt_nonneg {lo hi : Int} (hlo : 0 ≤ lo) (hhi : 0 ≤ hi) (v : Int) : 0 ≤ clampInt lo hi v := by
  unfold clampInt
  split
  · exact hlo
  · split <;> omega

theorem all_allLive_eq_true {samples : List ValueSample} :
    samples.all ValueSample.allLive = true ↔ ∀ x ∈ samples, x.t.quality = .live ∧ x.p.quality = .live
      ∧ x.tp.quality = .live ∧ x.pp.quality = .live := by
  simp [ValueSample.allLive]

theorem unstable_eq_true (qrun qstart limit : Nat) :
    unstable qrun qstart limit = true ↔ limit * qstart < ((qrun : Int) - qstart).natAbs * 1000 ∨ 99999 < qrun := by
  rw [unstable, Bool.or_eq_true, decide_eq_true_iff, decide_eq_true_iff, distance_eq_natAbs]
  rfl

section Judge

variable {s : State}

theorem State.judgeTrip_fwd_invalid (why : PassReason) (rev : PassResult) :
    s.judgeTrip (.invalid why) rev = (some (.pass why), none) := rfl

theorem State.judgeTrip_rev_invalid (fwd : PassResult) (why : PassReason) :
    (s.judgeTrip fwd (.invalid why)).2 = none
      ∧ ∀ ni ticks : Nat, fwd = .valid ni ticks → (s.judgeTrip fwd (.invalid why)).1 = some (.pass why) := by
  cases fwd with
  | valid ni ticks => exact ⟨rfl, fun _ _ _ => rfl⟩
  | invalid w => exact ⟨rfl, fun _ _ h => by cases h⟩

variable {samples : List ValueSample} {qstart limit : Nat} {f : TripFigures}

theorem judgeFigures_not_live (h : ∃ x ∈ samples, x.t.quality ≠ .live ∨ x.p.quality ≠ .live ∨ x.tp.quality ≠ .live
    ∨ x.pp.quality ≠ .live) : judgeFigures samples qstart limit f = (some .liveQuality, none) := by
  refine if_pos ?_
  rw [Bool.not_eq_true', ← Bool.not_eq_true, all_allLive_eq_true]
  obtain ⟨x, hx, hq⟩ := h
  intro hall
  obtain ⟨ht, hp, htp, hpp⟩ := hall x hx
  rcases hq with h | h | h | h
  exacts [h ht, h hp, h htp, h hpp]

theorem judgeFigures_of_live (h : ∀ x ∈ samples, x.t.quality = .live ∧ x.p.quality = .live ∧ x.tp.quality = .live
    ∧ x.pp.quality = .live) : judgeFigures samples qstart limit f =
      if unstable f.qrun qstart limit then (some .flowUnstable, none)
      else if outsideMFRange f.imf then (some .mfRange, none) else (none, some f) := by
  refine if_neg ?_
  rw [all_allLive_eq_true.mpr h]
  decide

theorem ctsOf_cast (gamma : Nat) (tref t : Int) :
    (ctsOf gamma tref t : Int)
      = clampInt 990000 1010000 (1000000 + roundHalfAway ((gamma : Int) * (t - tref)) 1000) :=
  Int.toNat_of_nonneg (clampInt_nonneg (by decide) (by decide) _)

end Judge

/-- The record of a round trip that completes (R144). -/
def State.tripOf (s : State) (fwd rev : PassResult) : RoundTrip :=
  ⟨s.psq.attempts + 1, (s.judgeTrip fwd rev).1, fwd.count?, rev.count?, (s.judgeTrip fwd rev).2⟩

/-- The machine with a completed round trip's record, before the prove is evaluated (R141). -/
def State.withTrip (s : State) (fwd rev : PassResult) : State :=
  { s with
    psq := { s.psq with
      attempts := (s.tripOf fwd rev).number, trips := s.psq.trips ++ [s.tripOf fwd rev], pass := .none, fwd := none
      samples := [] }
    ret := { s.ret with
      marker := s.ret.marker.map (fun m => { m with attempts := (s.tripOf fwd rev).number }) } }

theorem State.completeTrip_eq (s : State) (fwd rev : PassResult) :
    s.completeTrip fwd rev = (s.withTrip fwd rev).evaluateProve := rfl

/-- The completion of a round trip: the second half of O49. -/
theorem State.completeTrip_spec (s : State) (r : Run) (slot : Slot) (fwd rev : PassResult) (hrun : s.psq.run = some r)
    (hslot : s.psq.slot = some slot) :
    ∃ trip : RoundTrip, trip.number = s.psq.attempts + 1
        ∧ s.completeTrip fwd rev
          = State.evaluateProve { s with
              psq := { s.psq with
                attempts := trip.number, trips := s.psq.trips ++ [trip], pass := .none, fwd := none, samples := [] }
              ret := { s.ret with marker := s.ret.marker.map (fun m => { m with attempts := trip.number }) } }
        ∧ (∀ why : PassReason, fwd = .invalid why →
            trip.reason = some (.pass why) ∧ trip.figures = none ∧ trip.niFwd = none)
        ∧ (∀ why : PassReason, rev = .invalid why → trip.figures = none ∧ trip.niRev = none
            ∧ ∀ ni ticks : Nat, fwd = .valid ni ticks → trip.reason = some (.pass why))
        ∧ (∀ ni ticks : Nat, fwd = .valid ni ticks → trip.niFwd = some ni)
        ∧ (∀ ni ticks : Nat, rev = .valid ni ticks → trip.niRev = some ni)
        ∧ (∀ niF niR ticksF ticksR : Nat, fwd = .valid niF ticksF → rev = .valid niR ticksR →
          ((∃ x ∈ s.psq.samples, x.t.quality ≠ .live ∨ x.p.quality ≠ .live ∨ x.tp.quality ≠ .live
              ∨ x.pp.quality ≠ .live) → trip.reason = some .liveQuality ∧ trip.figures = none)
          ∧ ((∀ x ∈ s.psq.samples, x.t.quality = .live ∧ x.p.quality = .live ∧ x.tp.quality = .live
              ∧ x.pp.quality = .live) →
            ∀ (ni kx ticks qrun qstart : Nat), ni = niF + niR → kx = s.params.meter[r].kx → ticks = ticksF + ticksR →
              qrun = (2 * (ni * 36 * 1000000000) + kx * ticks) / (2 * (kx * ticks)) →
              qstart = s.psq.qstart.getD 0 →
              ((s.params.prover.stabilityLimit * qstart < ((qrun : Int) - qstart).natAbs * 1000 ∨ 99999 < qrun) →
                trip.reason = some .flowUnstable ∧ trip.figures = none)
              ∧ (((qrun : Int) - qstart).natAbs * 1000 ≤ s.params.prover.stabilityLimit * qstart → qrun ≤ 99999 →
                ∃ (f : TripFigures) (above below : Nat), f.qrun = qrun
                  ∧ f.meanT = roundHalfAway (s.psq.samples.map (fun x => x.t.value)).sum 4
                  ∧ f.meanP = roundHalfAway (s.psq.samples.map (fun x => x.p.value)).sum 4
                  ∧ f.meanTP = roundHalfAway (s.psq.samples.map (fun x => x.tp.value)).sum 4
                  ∧ f.meanPP = roundHalfAway (s.psq.samples.map (fun x => x.pp.value)).sum 4
                  ∧ (∀ pr : Product, pr = s.params.products[slot] →
                      f.ctlM = ctlOf pr.tb pr.alpha pr.beta f.meanT ∧ f.cplM = cplOf pr.f f.meanP
                        ∧ f.ctlP = ctlOf pr.tb pr.alpha pr.beta f.meanTP ∧ f.cplP = cplOf pr.f f.meanPP)
                  ∧ (f.ctsP : Int) = clampInt 990000 1010000 (1000000 + roundHalfAway
                      ((s.params.prover.gamma : Int) * (f.meanTP - s.params.prover.tref)) 1000)
                  ∧ above = s.params.prover.bpv * f.ctsP * f.ctlP * f.cplP * kx
                  ∧ below = ni * f.ctlM * f.cplM * 100000 ∧ f.imf = (2 * above + below) / (2 * below)
                  ∧ ((f.imf < 950000 ∨ 1050000 < f.imf) → trip.reason = some .mfRange ∧ trip.figures = none)
                  ∧ (950000 ≤ f.imf → f.imf ≤ 1050000 → trip.reason = none ∧ trip.figures = some f)))) := by
  have hr : s.proveRun = r := by rw [State.proveRun, hrun]; rfl
  have hs : s.proveSlot = slot := by rw [State.proveSlot, hslot]; rfl
  subst hr hs
  refine ⟨s.tripOf fwd rev, rfl, rfl, fun why hw => ?_, fun why hw => ?_, fun ni ticks h => ?_, fun ni ticks h => ?_,
    fun niF niR ticksF ticksR hf hv => ?_⟩
  · subst hw
    exact ⟨rfl, rfl, rfl⟩
  · subst hw
    obtain ⟨hfigures, hreason⟩ := s.judgeTrip_rev_invalid fwd why
    exact ⟨hfigures, rfl, hreason⟩
  · subst h; rfl
  · subst h; rfl
  · subst hf hv
    let f := tripFigures (niF + niR) (ticksF + ticksR) s.psq.samples s.params.meter[s.proveRun]
      s.params.products[s.proveSlot] s.params.prover
    have hjudge : s.judgeTrip (.valid niF ticksF) (.valid niR ticksR)
        = judgeFigures s.psq.samples (s.psq.qstart.getD 0) s.params.prover.stabilityLimit f := rfl
    have htrip (x : Option TripReason × Option TripFigures)
        (h : judgeFigures s.psq.samples (s.psq.qstart.getD 0) s.params.prover.stabilityLimit f = x) :
        (s.tripOf (.valid niF ticksF) (.valid niR ticksR)).reason = x.1
          ∧ (s.tripOf (.valid niF ticksF) (.valid niR ticksR)).figures = x.2 :=
      ⟨congrArg Prod.fst (hjudge.trans h), congrArg Prod.snd (hjudge.trans h)⟩
    refine ⟨fun hnot => htrip _ (judgeFigures_not_live hnot), ?_⟩
    rintro hlive ni kx ticks qrun qstart rfl rfl rfl hq rfl
    have hqrun : f.qrun = qrun := hq.symm
    refine ⟨fun hunstable => ?_, fun hstable hrate => ?_⟩
    · refine htrip _ ((judgeFigures_of_live hlive).trans (if_pos ?_))
      rw [hqrun]
      exact (unstable_eq_true _ _ _).mpr hunstable
    · have hsteady : ¬ unstable f.qrun (s.psq.qstart.getD 0) s.params.prover.stabilityLimit = true := by
        rw [hqrun, unstable_eq_true]
        omega
      have hrange := (judgeFigures_of_live (f := f) hlive).trans (if_neg hsteady)
      refine ⟨f, _, _, hqrun, rfl, rfl, rfl, rfl, ?_, ctsOf_cast _ _ _, rfl, rfl, rfl, fun hout => ?_,
        fun hlo hhi => ?_⟩
      · rintro pr rfl
        exact ⟨rfl, rfl, rfl, rfl⟩
      · exact htrip _ (hrange.trans (if_pos (decide_eq_true hout)))
      · exact htrip _ (hrange.trans (if_neg (by simp [outsideMFRange]; omega)))

/-! ### The evaluation leaves the record of the prove (R145) -/

/-- What the evaluation of a prove leaves: the time, the trips, and a run without a capture and a watch. -/
structure State.Evaluated (s t : State) : Prop where
  now : t.now = s.now
  trips : t.psq.trips = s.psq.trips
  attempts : t.psq.attempts = s.psq.attempts
  pulses : t.pulses = s.pulses ∨ t.pulses = s.pulses.set s.proveRun s.pulses[s.proveRun].withoutPass

theorem State.applyResult_kept (s : State) (res : ProveResult) (who : AcceptedBy) :
    (s.applyResult res who).now = s.now ∧ (s.applyResult res who).psq = s.psq.toIdle := by
  unfold State.applyResult
  dsimp only
  rw [State.completeProve_eq]
  split <;> exact ⟨rfl, rfl⟩

theorem State.evaluateProve_evaluated (s : State) : State.Evaluated s s.evaluateProve := by
  simp only [State.evaluateProve, State.succeed]
  split
  · split
    · obtain ⟨hnow, hpsq⟩ := s.applyResult_kept
        (resultOf (windowOf s.params.prover.k s.psq.trips) s.params.curves[s.proveRun][s.proveSlot]
          s.params.prover.deviationLimit) .auto
      exact ⟨hnow, by rw [hpsq]; rfl, by rw [hpsq]; rfl, .inl (s.applyResult_pulses _ _)⟩
    · exact ⟨rfl, rfl, rfl, .inl rfl⟩
  · split
    · have hfailed := s.failProve_failed .noRepeat
      exact ⟨by simp, by rw [hfailed.psq]; rfl, by rw [hfailed.psq]; rfl, .inr hfailed.pulses⟩
    · rw [State.enterLaunch_fwd]
      exact ⟨rfl, rfl, rfl, .inl rfl⟩

/-- A run whose pass was dropped before the evaluation has none after it. -/
theorem State.Evaluated.dropped {s t : State} (h : State.Evaluated s t) (hcapture : s.pulses[s.proveRun].capture = none)
    (hwatch : s.pulses[s.proveRun].watch = none) :
    t.pulses[s.proveRun].capture = none ∧ t.pulses[s.proveRun].watch = none := by
  rcases h.pulses with hp | hp
  · rw [hp]
    exact ⟨hcapture, hwatch⟩
  · have hself : (s.pulses.set s.proveRun s.pulses[s.proveRun].withoutPass)[s.proveRun]
        = s.pulses[s.proveRun].withoutPass := Vector.getElem_set_self _
    rw [hp, hself]
    exact ⟨rfl, rfl⟩

/-! ### The end of a pass (R138) -/

section EndPass

variable {s : State}

/-- The machine at the end of a pass, its watch closed and its timer stopped. -/
def State.passEnded (s : State) : State :=
  { s with
    pulses := s.pulses.set s.proveRun { s.pulses[s.proveRun] with watch := none }
    psq := { s.psq with tailTimer := none } }

theorem State.endPass_fwdTail (h : s.psq.state = .fwdTail) (expired : Bool) :
    s.endPass expired = State.enterLaunch { s.passEnded with psq := { s.passEnded.psq with
      fwd := some (judgePass s.psq.pass (s.watchMarks s.proveRun) expired) } } true := by
  simp only [State.endPass, h]
  rfl

theorem State.endPass_revTail (h : s.psq.state = .revTail) (expired : Bool) :
    s.endPass expired = s.passEnded.completeTrip (s.psq.fwd.getD (.invalid .insufficientPulses))
      (judgePass s.psq.pass (s.watchMarks s.proveRun) expired) := by
  simp only [State.endPass, h]
  rfl

end EndPass

theorem State.FailedSettled.dropped_at {t u : State} {cause : ProveCause} {r : Run} (h : State.FailedSettled cause u t)
    (hr : u.proveRun = r) : t.pulses[r].capture = none ∧ t.pulses[r].watch = none := by
  subst hr
  exact h.dropped

/-! ### The timers (R131, R132, R135, R138) -/

/-- The machine at the expiry of the tail timer, the capture and the watch of the run gone. -/
def State.tailExpired (s : State) (d : Moment) : State :=
  { s with
    now := max s.now d
    pulses := s.pulses.set s.proveRun s.pulses[s.proveRun].withoutPass
    psq := { s.psq with tailTimer := none } }

section Timers

variable {s : State} {d : Moment}

theorem State.tailExpired_dropped :
    (s.tailExpired d).pulses[s.proveRun].capture = none ∧ (s.tailExpired d).pulses[s.proveRun].watch = none := by
  have hself : (s.pulses.set s.proveRun s.pulses[s.proveRun].withoutPass)[s.proveRun]
      = s.pulses[s.proveRun].withoutPass := Vector.getElem_set_self _
  show (s.pulses.set s.proveRun s.pulses[s.proveRun].withoutPass)[s.proveRun].capture = none
    ∧ (s.pulses.set s.proveRun s.pulses[s.proveRun].withoutPass)[s.proveRun].watch = none
  rw [hself]
  exact ⟨rfl, rfl⟩

theorem passEnded_cancelCapture : (((s.atMoment d).cancelCapture s.proveRun)).passEnded = s.tailExpired d := by
  have hpass : (((s.atMoment d).cancelCapture s.proveRun)).passEnded = { (s.atMoment d).dropPass with
      psq := { s.psq with tailTimer := none } } := rfl
  rw [hpass, State.dropPass_eq]
  rfl

theorem tailExpiry_fwdTail (hd : s.psq.tailTimer = some d) (h : s.psq.state = .fwdTail) :
    tailExpiry s = State.enterLaunch { s.tailExpired d with psq := { (s.tailExpired d).psq with
      fwd := some (.invalid .noTailPulse) } } true := by
  simp only [tailExpiry, hd]
  rw [State.endPass_fwdTail (by exact h), passEnded_cancelCapture]
  rfl

theorem tailExpiry_revTail (hd : s.psq.tailTimer = some d) (h : s.psq.state = .revTail) :
    tailExpiry s = (s.tailExpired d).completeTrip (s.psq.fwd.getD (.invalid .insufficientPulses))
      (.invalid .noTailPulse) := by
  simp only [tailExpiry, hd]
  rw [State.endPass_revTail (by exact h), passEnded_cancelCapture]
  rfl

theorem expiry_fails {cmd : Instr} {cause : ProveCause}
    (h : cmd = .valveTimerExpiry ∧ cause = .valveTimeout ∧ s.psq.valveTimer = some d
      ∨ cmd = .passTimerExpiry ∧ cause = .sphereTimeout ∧ s.psq.passTimer = some d) (hrun : s.phase = .running) :
    ∃ x : ProverSeq, x.toIdle = s.psq.toIdle ∧ x.run = s.psq.run ∧ x.attempts = s.psq.attempts
      ∧ x.trips = s.psq.trips ∧ x.dirReverse = s.psq.dirReverse
      ∧ exec cmd s = .next (State.failProve { s with now := max s.now d, psq := x } cause).settle := by
  rcases h with ⟨rfl, rfl, hd⟩ | ⟨rfl, rfl, hd⟩
  · have hf : valveExpiry s = State.failProve { s with
        now := max s.now d, psq := { s.psq with valveTimer := none } } .valveTimeout := by
      simp only [valveExpiry, hd]
      rfl
    refine ⟨{ s.psq with valveTimer := none }, rfl, rfl, rfl, rfl, rfl, ?_⟩
    rw [← hf]
    exact exec_of_event hrun rfl
  · have hf : passExpiry s = State.failProve { s with
        now := max s.now d, psq := { s.psq with passTimer := none } } .sphereTimeout := by
      simp only [passExpiry, hd]
      rfl
    refine ⟨{ s.psq with passTimer := none }, rfl, rfl, rfl, rfl, rfl, ?_⟩
    rw [← hf]
    exact exec_of_event hrun rfl

theorem expiry_not_idle {cmd : Instr} {cause : ProveCause} (hsound : s.psq.Sound)
    (h : cmd = .valveTimerExpiry ∧ cause = .valveTimeout ∧ s.psq.valveTimer = some d
      ∨ cmd = .passTimerExpiry ∧ cause = .sphereTimeout ∧ s.psq.passTimer = some d) : s.psq.state ≠ .idle := by
  obtain ⟨-, -, -, hvalve, hpass, -⟩ := hsound
  intro hidle
  rcases h with ⟨-, -, hd⟩ | ⟨-, -, hd⟩
  · rw [hd, hidle] at hvalve
    cases hvalve
  · rw [hd, hidle] at hpass
    cases hpass

end Timers

/-- Settles O49: the timers that fail the prove, the tail timer, and the record of a round trip. -/
theorem proverTimersEndTheWait : Obligations.ProverTimersEndTheWait := by
  refine ⟨fun s d hrun hset hsound => ⟨fun cmd cause hcmd => ?_, fun hd => ?_⟩, State.completeTrip_spec⟩
  · obtain ⟨m, hm⟩ := hsound.marker hrun (expiry_not_idle hsound.1 hcmd)
    obtain ⟨x, hidle, hxrun, hattempts, htrips, hdir, hexec⟩ := expiry_fails hcmd hrun
    let u : State := { s with now := max s.now d, psq := x }
    have hfailed : State.FailedSettled cause u (u.failProve cause).settle := u.failProve_settled cause
    obtain ⟨hstate, hroute, hdir', htrips'⟩ := hfailed.idle
    obtain ⟨hcapture, hwatch⟩ := hfailed.dropped_at (r := s.proveRun) (congrArg (fun o => o.getD 0) hxrun)
    have hret := hfailed.ret_of_marker (m := m) hm
    have hframe := hfailed.frame
    have hnow : (u.failProve cause).settle.now = max s.now d := congrArg State.now hframe
    have hold : u.psq.attempts = s.psq.attempts := hattempts
    rw [hold] at hret
    refine ⟨_, m, hexec, hm, hfailed.settled, hnow, hstate, hroute, htrips'.trans htrips, hdir'.trans hdir, hcapture,
      hwatch, hfailed.raised, hfailed.finished, hfailed.other, hret, ?_⟩
    exact hframe.trans (by rw [hnow])
  · obtain ⟨-, -, -, -, -, htail⟩ := hsound.1
    have hwaits : s.psq.state = .fwdTail ∨ s.psq.state = .revTail := by
      rw [hd] at htail
      exact of_decide_eq_true htail.symm
    obtain ⟨hcapture, hwatch⟩ := s.tailExpired_dropped (d := d)
    rcases hwaits with hstate | hstate
    · have hf := tailExpiry_fwdTail hd hstate
      rw [State.enterLaunch_rev] at hf
      have hexec := exec_of_event_settled hrun (c := .tailTimerExpiry) (f := tailExpiry) rfl (by rw [hf]; exact hset)
      rw [hf] at hexec
      refine ⟨_, hexec, rfl, hcapture, hwatch, fun _ => ⟨rfl, rfl, rfl, rfl, rfl⟩, fun h => ?_, fun _ h => ?_⟩
      · rw [hstate] at h
        cases h
      · rw [hstate] at h
        cases h
    · have hf := tailExpiry_revTail hd hstate
      let u := s.tailExpired d
      let fwd := s.psq.fwd.getD (.invalid .insufficientPulses)
      have heval : State.Evaluated (u.withTrip fwd (.invalid .noTailPulse)) (tailExpiry s) := by
        rw [hf]
        exact State.evaluateProve_evaluated _
      obtain ⟨hcapture', hwatch'⟩ := heval.dropped hcapture hwatch
      have hsettle := (tailExpiry s).settle_eq_with
      have hpulses : (tailExpiry s).settle.pulses = (tailExpiry s).pulses := by rw [hsettle]
      have hpsq : (tailExpiry s).settle.psq = (tailExpiry s).psq := by rw [hsettle]
      refine ⟨_, exec_of_event hrun (c := .tailTimerExpiry) rfl, ?_, ?_, ?_, fun h => ?_, fun _ => ⟨?_, ?_⟩,
        fun fwd' _ hfwd => ?_⟩
      · rw [hsettle]
        exact heval.now
      · rw [hpulses]
        exact hcapture'
      · rw [hpulses]
        exact hwatch'
      · rw [hstate] at h
        cases h
      · rw [hpsq]
        exact heval.attempts
      · obtain ⟨hfigures, hreason⟩ := u.judgeTrip_rev_invalid fwd .noTailPulse
        refine ⟨u.tripOf fwd (.invalid .noTailPulse), by rw [hpsq]; exact heval.trips, rfl, hfigures,
          fun ni ticks hfwd => ?_, fun why hfwd => ?_⟩
        · have hvalid : fwd = .valid ni ticks := by simp only [fwd, hfwd, Option.getD_some]
          exact ⟨hreason ni ticks hvalid, by rw [hvalid]; rfl⟩
        · have hinvalid : fwd = .invalid why := by simp only [fwd, hfwd, Option.getD_some]
          rw [hinvalid]
          rfl
      · rw [hf, hfwd]
        rfl

end Sys2Proof.Machine
end

section
/-! Detector events (R127, R134, R136, R137), the report of a capture, and the judgement of a pass (R138, R139). -/

namespace Sys2Proof.Machine

set_option Elab.async false

/-! ### The lockout timers (R127) -/

/-- The time base and the lockout timers stand. -/
def State.LockoutsKept (s t : State) : Prop := t.now = s.now ∧ ∀ d : Detector, t.psq.lockout d = s.psq.lockout d

section Lockouts

variable {s t u : State}

theorem State.LockoutsKept.trans (h : s.LockoutsKept t) (k : t.LockoutsKept u) : s.LockoutsKept u :=
  ⟨k.1.trans h.1, fun d => (k.2 d).trans (h.2 d)⟩

theorem State.LockoutsKept.of_psq (hnow : t.now = s.now) (h1 : t.psq.lockout1 = s.psq.lockout1)
    (h2 : t.psq.lockout2 = s.psq.lockout2) : s.LockoutsKept t :=
  ⟨hnow, fun d => by cases d <;> assumption⟩

variable (s)

theorem State.lockoutsKept_failProve (cause : ProveCause) : s.LockoutsKept (s.failProve cause) := by
  have hpsq := (s.failProve_failed cause).psq
  exact .of_psq (by simp) (by rw [hpsq]; rfl) (by rw [hpsq]; rfl)

theorem State.lockoutsKept_enterLaunch (reverse : Bool) : s.LockoutsKept (s.enterLaunch reverse) := by
  cases reverse
  · rw [State.enterLaunch_fwd]
    exact .of_psq rfl rfl rfl
  · rw [State.enterLaunch_rev]
    exact .of_psq rfl rfl rfl

theorem State.lockoutsKept_applyResult (res : ProveResult) (who : AcceptedBy) :
    s.LockoutsKept (s.applyResult res who) := by
  obtain ⟨hnow, hpsq⟩ := s.applyResult_kept res who
  exact .of_psq hnow (by rw [hpsq]; rfl) (by rw [hpsq]; rfl)

theorem State.lockoutsKept_evaluateProve : s.LockoutsKept s.evaluateProve := by
  simp only [State.evaluateProve, State.succeed]
  split
  · split
    · exact s.lockoutsKept_applyResult _ _
    · exact .of_psq rfl rfl rfl
  · split
    · exact s.lockoutsKept_failProve _
    · exact s.lockoutsKept_enterLaunch _

theorem State.lockoutsKept_endPass (expired : Bool) : s.LockoutsKept (s.endPass expired) := by
  unfold State.endPass
  dsimp only
  split
  case h_1 => exact .trans (.of_psq (by rfl) (by rfl) (by rfl)) (State.lockoutsKept_enterLaunch _ _)
  case h_2 => exact .trans (.of_psq (by rfl) (by rfl) (by rfl)) (State.lockoutsKept_evaluateProve _)
  all_goals exact .of_psq rfl rfl rfl

theorem State.lockoutsKept_captureReported (rep : CaptureReport) : s.LockoutsKept (s.captureReported rep) := by
  unfold State.captureReported
  dsimp only
  split
  case h_3 | h_4 => exact .trans (.of_psq (by rfl) (by rfl) (by rfl)) (State.lockoutsKept_endPass _ _)
  all_goals exact .of_psq rfl rfl rfl

theorem State.armAndReport_eq (r : Run) (t : Stamp) :
    s.armAndReport r t =
      match searchHistory t false s.pulses[r].history with
      | some rep => State.captureReported { s with
          pulses := s.pulses.set r { s.pulses[r] with capture := none } } rep
      | none => { s with pulses := s.pulses.set r { s.pulses[r] with capture := some t } } := by
  unfold State.armAndReport State.armCapture
  cases searchHistory t false s.pulses[r].history <;> rfl

theorem State.lockoutsKept_armAndReport (r : Run) (t : Stamp) : s.LockoutsKept (s.armAndReport r t) := by
  rw [State.armAndReport_eq]
  split
  · exact .trans (.of_psq (by rfl) (by rfl) (by rfl)) (State.lockoutsKept_captureReported _ _)
  · exact .of_psq rfl rfl rfl

theorem State.lockoutsKept_actOnDetector (d : Detector) (stamp : Stamp) :
    s.LockoutsKept (s.actOnDetector d stamp) := by
  unfold State.actOnDetector
  split
  case h_1 | h_3 | h_6 | h_8 => exact .trans (.of_psq (by rfl) (by rfl) (by rfl)) (State.lockoutsKept_armAndReport _ _ _)
  case h_2 | h_4 | h_5 | h_7 => exact s.lockoutsKept_failProve _
  all_goals exact .of_psq rfl rfl rfl

end Lockouts

/-! ### The detectors of a pass (R136, R137) -/

/-- The current pass as the first detector opens it, with the report of a capture that completes at once (R136). -/
def openedPass (history : List HistoryEntry) (td1 : Stamp) : CurrentPass :=
  match searchHistory td1 false history with
  | some rep => { CurrentPass.none with td1 := some td1, tp1 := some rep.entry, short := rep.short }
  | none => { CurrentPass.none with td1 := some td1 }

/-- The capture that waits where the history holds no pulse at or after the tick (R20). -/
def waitingCapture (history : List HistoryEntry) (t : Stamp) : Option Stamp :=
  match searchHistory t false history with
  | some _ => none
  | none => some t

section Detectors

variable {s : State}

theorem State.openPass_eq {count : ProverState} (hcount : count = .fwdCount ∨ count = .revCount) (td1 : Stamp) :
    s.openPass count td1 = { s with
      psq := { s.psq with
        state := count
        pass := openedPass s.pulses[s.proveRun].history td1
        samples := s.psq.samples ++ [s.takeSample] }
      pulses := s.pulses.set s.proveRun { s.pulses[s.proveRun] with
        watch := some (s.pulses[s.proveRun].openingMarks td1)
        capture := waitingCapture s.pulses[s.proveRun].history td1 } } := by
  let y : RunPulse := { s.pulses[s.proveRun] with watch := some (s.pulses[s.proveRun].openingMarks td1) }
  have hself : (s.pulses.set s.proveRun y)[s.proveRun] = y := Vector.getElem_set_self _
  have hset (z : RunPulse) : (s.pulses.set s.proveRun y).set s.proveRun z = s.pulses.set s.proveRun z :=
    Vector.set_set ..
  have hopen : s.openPass count td1 = State.armAndReport { s with
      psq := { s.psq with
        state := count
        pass := { CurrentPass.none with td1 := some td1 }
        samples := s.psq.samples ++ [s.takeSample] }
      pulses := s.pulses.set s.proveRun y } s.proveRun td1 := rfl
  rw [hopen, State.armAndReport_eq]
  simp only [hself, hset, openedPass, waitingCapture]
  show (match searchHistory td1 false s.pulses[s.proveRun].history with
    | some rep => _
    | none => _) = _
  cases searchHistory td1 false s.pulses[s.proveRun].history with
  | none => rfl
  | some rep => rcases hcount with rfl | rfl <;> rfl

theorem State.closeCount_eq (tail : ProverState) (td2 : Stamp) :
    s.closeCount tail td2 =
      let closing : ProverSeq := { s.psq with
        state := tail
        passTimer := none
        tailTimer := some (s.now + 20000000)
        pass := { s.psq.pass with td2 := some td2 }
        samples := s.psq.samples ++ [s.takeSample] }
      match searchHistory td2 false s.pulses[s.proveRun].history with
      | some rep => State.captureReported { s with
          psq := closing
          pulses := s.pulses.set s.proveRun { s.pulses[s.proveRun] with capture := none } } rep
      | none => { s with
          psq := closing
          pulses := s.pulses.set s.proveRun { s.pulses[s.proveRun] with capture := some td2 } } := by
  let y : RunPulse := { s.pulses[s.proveRun] with capture := none }
  have hself : (s.pulses.set s.proveRun y)[s.proveRun] = y := Vector.getElem_set_self _
  have hset (z : RunPulse) : (s.pulses.set s.proveRun y).set s.proveRun z = s.pulses.set s.proveRun z :=
    Vector.set_set ..
  have hclose : s.closeCount tail td2 = State.armAndReport { s with
      psq := { s.psq with
        state := tail
        passTimer := none
        tailTimer := some (s.now + 20000000)
        pass := { s.psq.pass with td2 := some td2 }
        samples := s.psq.samples ++ [s.takeSample] }
      pulses := s.pulses.set s.proveRun y } s.proveRun td2 := rfl
  rw [hclose, State.armAndReport_eq]
  simp only [hself, hset]
  rfl

theorem openedPass_spec (history : List HistoryEntry) (td1 : Stamp) :
    (openedPass history td1).td1 = some td1 ∧ (openedPass history td1).td2 = none
      ∧ (openedPass history td1).tp2 = none
      ∧ ((openedPass history td1).tp1 = none ↔ waitingCapture history td1 = some td1)
      ∧ (∀ (older newer : List HistoryEntry) (e : HistoryEntry), history = older ++ e :: newer →
          (∀ x ∈ older, atOrAfter x.stamp td1 = false) → atOrAfter e.stamp td1 = true →
          (openedPass history td1).tp1 = some e ∧ (openedPass history td1).short = decide (older = [])
            ∧ waitingCapture history td1 = none)
      ∧ ((∀ x ∈ history, atOrAfter x.stamp td1 = false) →
          (openedPass history td1).tp1 = none ∧ (openedPass history td1).short = false) := by
  refine ⟨?_, ?_, ?_, ?_, fun older newer e hsplit hbefore he => ?_, fun hbefore => ?_⟩
  · unfold openedPass; split <;> rfl
  · unfold openedPass; split <;> rfl
  · unfold openedPass; split <;> rfl
  · unfold openedPass waitingCapture
    cases searchHistory td1 false history <;> simp [CurrentPass.none]
  · have hsearch : searchHistory td1 false history = some ⟨e, decide (older = [])⟩ := by
      rw [hsplit, searchHistory_append hbefore he]
      simp
    simp only [openedPass, waitingCapture, hsearch, and_self]
  · have hsearch : searchHistory td1 false history = none := (searchHistory_eq_none false).mpr hbefore
    simp only [openedPass, hsearch]
    exact ⟨rfl, rfl⟩

end Detectors

/-! ### Detector events (R127, R134) -/

/-- The machine as a detector event leaves it before the PSQ acts on it: the filtered level is active and the lockout
timer runs (R127). -/
def State.detected (s : State) (d : Detector) (u : Moment) : State :=
  { s with
    now := max s.now (u + 50000)
    psq := (s.psq.setInput (detectorInput d) ⟨true, true, none⟩).setLockout d
      (some (max s.now (u + 50000) + 20000000)) }

theorem State.acceptInput_detector (s : State) (d : Detector) (u : Moment) :
    s.acceptInput (detectorInput d) u = { s with
      now := max s.now (u + 50000)
      psq := s.psq.setInput (detectorInput d) ⟨(s.psq.input (detectorInput d)).raw,
        (s.psq.input (detectorInput d)).raw, none⟩ } := by
  cases d <;> rfl

theorem ProverSeq.lockout_setInput (x : ProverSeq) (i : ProverInput) (f : InputFilter) (d : Detector) :
    (x.setInput i f).lockout d = x.lockout d := by
  cases i <;> cases d <;> rfl

theorem ProverSeq.lockout_setLockout (x : ProverSeq) (d : Detector) (m : Option Moment) :
    (x.setLockout d m).lockout d = m := by
  cases d <;> rfl

section DetectorEvent

variable {s : State} {d : Detector} {u : Moment}

theorem detectorAccept_locked (hu : (s.psq.input (detectorInput d)).since = some u)
    (hraw : (s.psq.input (detectorInput d)).raw = true) (hlock : s.psq.lockout d ≠ none) :
    detectorAccept d s = { s with
      now := max s.now (u + 50000), psq := s.psq.setInput (detectorInput d) ⟨true, true, none⟩ } := by
  obtain ⟨m, hm⟩ := Option.ne_none_iff_exists'.mp hlock
  simp only [detectorAccept, hu, State.acceptInput_detector, ProverSeq.lockout_setInput, hm, hraw, if_true]

theorem detectorAccept_free (hu : (s.psq.input (detectorInput d)).since = some u)
    (hraw : (s.psq.input (detectorInput d)).raw = true) (hlock : s.psq.lockout d = none) :
    detectorAccept d s = (s.detected d u).actOnDetector d (stampOf u) := by
  simp only [detectorAccept, hu, State.acceptInput_detector, ProverSeq.lockout_setInput, hlock, hraw, if_true]
  rfl

theorem State.detected_state : (s.detected d u).psq.state = s.psq.state := by cases d <;> rfl

theorem State.detected_proveRun : (s.detected d u).proveRun = s.proveRun := by cases d <;> rfl

theorem State.detected_openPass {count : ProverState} (hcount : count = .fwdCount ∨ count = .revCount) (td1 : Stamp) :
    (s.detected d u).openPass count td1 = { s.detected d u with
      psq := { (s.detected d u).psq with
        state := count
        pass := openedPass s.pulses[s.proveRun].history td1
        samples := s.psq.samples ++ [s.takeSample] }
      pulses := s.pulses.set s.proveRun { s.pulses[s.proveRun] with
        watch := some (s.pulses[s.proveRun].openingMarks td1)
        capture := waitingCapture s.pulses[s.proveRun].history td1 } } := by
  have hopen := (s.detected d u).openPass_eq hcount td1
  cases d <;> exact hopen

theorem State.detected_closeCount (tail : ProverState) (td2 : Stamp) :
    (s.detected d u).closeCount tail td2 =
      let closing : ProverSeq := { (s.detected d u).psq with
        state := tail
        passTimer := none
        tailTimer := some (max s.now (u + 50000) + 20000000)
        pass := { s.psq.pass with td2 := some td2 }
        samples := s.psq.samples ++ [s.takeSample] }
      match searchHistory td2 false s.pulses[s.proveRun].history with
      | some rep => State.captureReported { s.detected d u with
          psq := closing
          pulses := s.pulses.set s.proveRun { s.pulses[s.proveRun] with capture := none } } rep
      | none => { s.detected d u with
          psq := closing
          pulses := s.pulses.set s.proveRun { s.pulses[s.proveRun] with capture := some td2 } } := by
  have hclose := (s.detected d u).closeCount_eq tail td2
  cases d <;> exact hclose

section Actions

variable {t : State} {stamp : Stamp}

theorem State.actOnDetector_opens (h : t.psq.state = .fwdTravel ∧ d = .det1 ∨ t.psq.state = .revTravel ∧ d = .det2) :
    t.actOnDetector d stamp = t.openPass (if d = .det1 then .fwdCount else .revCount) stamp := by
  rcases h with ⟨h, rfl⟩ | ⟨h, rfl⟩ <;> (simp only [State.actOnDetector, h]; rfl)

theorem State.actOnDetector_closes (h : t.psq.state = .fwdCount ∧ d = .det2 ∨ t.psq.state = .revCount ∧ d = .det1) :
    t.actOnDetector d stamp = t.closeCount (if d = .det2 then .fwdTail else .revTail) stamp := by
  rcases h with ⟨h, rfl⟩ | ⟨h, rfl⟩ <;> (simp only [State.actOnDetector, h]; rfl)

theorem State.actOnDetector_fails (h : t.psq.state = .fwdTravel ∧ d = .det2 ∨ t.psq.state = .revTravel ∧ d = .det1
    ∨ t.psq.state = .fwdCount ∧ d = .det1 ∨ t.psq.state = .revCount ∧ d = .det2) :
    t.actOnDetector d stamp = t.failProve .detectorOrder := by
  rcases h with ⟨h, rfl⟩ | ⟨h, rfl⟩ | ⟨h, rfl⟩ | ⟨h, rfl⟩ <;> simp only [State.actOnDetector, h]

end Actions

theorem State.actOnDetector_ignored {t : State} (h : t.psq.state.waitsForSphere = false) (stamp : Stamp) :
    t.actOnDetector d stamp = t := by
  unfold State.actOnDetector
  cases hs : t.psq.state <;> simp_all [ProverState.waitsForSphere]

end DetectorEvent

/-! ### The report of a capture, and the judgement of a pass (R136 to R139) -/

theorem State.captureReported_tail {s : State} (rep : CaptureReport)
    (hstate : s.psq.state = .fwdTail ∨ s.psq.state = .revTail) :
    s.captureReported rep = State.endPass { s with psq := { s.psq with
      pass := { s.psq.pass with tp2 := some rep.entry, short := s.psq.pass.short || rep.short } } } false := by
  have htp2 : s.captureReported rep = (s.modPsq (fun x =>
      { x with pass := { x.pass with tp2 := some rep.entry, short := x.pass.short || rep.short } })).endPass false := by
    rcases hstate with h | h <;> simp only [State.captureReported, h]
  exact htp2

/-- The report of a capture in each state that takes one. -/
theorem State.captureReported_spec (s : State) (r : Run) (rep : CaptureReport) (reported : CurrentPass)
    (result : PassResult) (hrun : s.psq.run = some r)
    (hreported : reported = { s.psq.pass with tp2 := some rep.entry, short := s.psq.pass.short || rep.short })
    (hresult : result = judgePass reported (s.pulses[r].watch.getD ⟨false, false⟩) false) :
    ((s.psq.state = .fwdCount ∨ s.psq.state = .revCount) →
        s.captureReported rep
          = { s with psq := { s.psq with
              pass := { s.psq.pass with tp1 := some rep.entry, short := s.psq.pass.short || rep.short } } })
      ∧ (s.psq.state = .fwdTail →
        s.captureReported rep
          = { s with
              pulses := s.pulses.set r { s.pulses[r] with watch := none }
              psq := { s.psq with
                state := (if s.psq.revReady then .revTravel else .revLaunch)
                dirReverse := true
                pass := .none
                fwd := some result
                tailTimer := none
                valveTimer :=
                  (if s.psq.revReady then none else some (s.now + s.params.prover.valveTimeout * 10000000))
                passTimer :=
                  (if s.psq.revReady then some (s.now + s.params.prover.passTimeout * 10000000)
                   else s.psq.passTimer) } })
      ∧ (∀ fwd : PassResult, s.psq.state = .revTail → s.psq.fwd = some fwd →
        s.captureReported rep
          = State.completeTrip { s with
              pulses := s.pulses.set r { s.pulses[r] with watch := none }
              psq := { s.psq with tailTimer := none, pass := reported } } fwd result) := by
  have hr : s.proveRun = r := by rw [State.proveRun, hrun]; rfl
  subst hr hreported hresult
  refine ⟨fun hstate => ?_, fun hstate => ?_, fun fwd hstate hfwd => ?_⟩
  · have htp1 : s.captureReported rep = s.modPsq (fun x =>
        { x with pass := { x.pass with tp1 := some rep.entry, short := x.pass.short || rep.short } }) := by
      rcases hstate with h | h <;> simp only [State.captureReported, h]
    exact htp1
  · have htp2 := State.captureReported_tail rep (.inl hstate)
    rw [State.endPass_fwdTail (by exact hstate), State.enterLaunch_rev] at htp2
    exact htp2
  · have htp2 := State.captureReported_tail rep (.inr hstate)
    have hgot : (s.psq.fwd.getD (.invalid .insufficientPulses)) = fwd := by rw [hfwd]; rfl
    rw [State.endPass_revTail (by exact hstate)] at htp2
    rw [← hgot]
    exact htp2

/-- The reasons of a pass in their order, and the interpolated count. -/
theorem judgePass_spec (x : CurrentPass) (marks : PassWatch) :
    judgePass x marks true = .invalid .noTailPulse
      ∧ ((marks.integrity = true ∨ x.short = true) → judgePass x marks false = .invalid .pulseIntegrity)
      ∧ (marks.integrity = false → x.short = false →
        (marks.reverse = true → judgePass x marks false = .invalid .reversePulses)
        ∧ (marks.reverse = false →
          (x.tp1 = none → judgePass x marks false = .invalid .insufficientPulses)
          ∧ ∀ (tp1 tp2 : HistoryEntry) (td1 td2 : Stamp) (n td tp : Nat), x.tp1 = some tp1 → x.tp2 = some tp2 →
            x.td1 = some td1 → x.td2 = some td2 → n = (tp2.index - tp1.index).toNat → td = (td2 - td1).toNat →
            tp = (tp2.stamp - tp1.stamp).toNat →
            (n < 100 → judgePass x marks false = .invalid .insufficientPulses)
            ∧ (100 ≤ n → judgePass x marks false = .valid ((2 * (n * 10000 * td) + tp) / (2 * tp)) td))) := by
  refine ⟨rfl, fun hbad => ?_, fun hint hshort => ⟨fun hrev => ?_, fun hrev => ⟨fun hnone => ?_, ?_⟩⟩⟩
  · have hmark : (marks.integrity || x.short) = true := by simpa using hbad
    simp only [judgePass, Bool.false_eq_true, if_false, hmark, if_true]
  · simp only [judgePass, hint, hshort, hrev, Bool.false_eq_true, if_false, if_true, Bool.or_false]
  · simp only [judgePass, hint, hshort, hrev, hnone, Bool.false_eq_true, if_false, Bool.or_false]
  · rintro tp1 tp2 td1 td2 n td tp h1 h2 h3 h4 rfl rfl rfl
    have hjudge : judgePass x marks false =
        if passPulses tp1 tp2 < 100 then .invalid .insufficientPulses
        else .valid (passCount (passPulses tp1 tp2) (ticksBetween td1 td2) (ticksBetween tp1.stamp tp2.stamp))
          (ticksBetween td1 td2) := by
      simp only [judgePass, hint, hshort, hrev, h1, h2, h3, h4, Bool.false_eq_true, if_false, Bool.or_false]
      rfl
    exact ⟨fun hfew => hjudge.trans (if_pos hfew), fun hmany => hjudge.trans (if_neg (Nat.not_lt.mpr hmany))⟩

/-- Settles O48: the detector events by the state of the PSQ, the report of a capture, and the judgement of a pass. -/
theorem detectorsOpenAndCloseThePass : Obligations.DetectorsOpenAndCloseThePass := by
  refine ⟨fun s d u hrun hset hsound => ⟨fun m hm => ?_, fun hu hraw => ?_, fun hu hraw => ⟨fun hlock => ?_,
    fun hlock => ?_⟩⟩, State.captureReported_spec, judgePass_spec⟩
  · have hf : lockoutExpiry d s = { s with now := max s.now m, psq := s.psq.setLockout d none } := by
      simp only [lockoutExpiry, hm]
      rfl
    rw [← hf]
    exact exec_of_event_settled hrun rfl (by rw [hf]; exact hset)
  · have hf : detectorReturn d s = { s with
        now := max s.now (u + 50000), psq := s.psq.setInput (detectorInput d) ⟨false, false, none⟩ } := by
      simp only [detectorReturn, hu, hraw, Bool.false_eq_true, if_false, State.acceptInput_detector]
    rw [← hf]
    exact exec_of_event_settled hrun rfl (by rw [hf]; exact hset)
  · rw [← detectorAccept_locked hu hraw hlock]
    exact exec_of_event_settled hrun rfl (by rw [detectorAccept_locked hu hraw hlock]; exact hset)
  · have hf := detectorAccept_free hu hraw hlock
    let v := s.detected d u
    have hkept := v.lockoutsKept_actOnDetector d (stampOf u)
    have hsettle := (v.actOnDetector d (stampOf u)).settle_eq_with
    have hstay (w : State) (hw : v.actOnDetector d (stampOf u) = w) (hws : w.Settled) :
        (v.actOnDetector d (stampOf u)).settle = w := by rw [hw, State.settle_of_settled _ hws]
    have hnow : (v.actOnDetector d (stampOf u)).settle.now = max s.now (u + 50000) := by
      rw [hsettle]
      exact hkept.1
    have hlockout : (v.actOnDetector d (stampOf u)).settle.psq.lockout d = some (max s.now (u + 50000) + 20000000) := by
      rw [hsettle]
      exact (hkept.2 d).trans (ProverSeq.lockout_setLockout _ _ _)
    have hstate : v.psq.state = s.psq.state := by cases d <;> rfl
    have hexec := exec_of_event hrun (c := .detectorEvent d) (f := detectorAccept d) rfl
    rw [hf] at hexec
    refine ⟨_, hexec, hnow, hlockout.trans (by rw [hnow]), fun hignored => ?_, fun hopen => ?_, fun hclose hnone => ?_,
      fun hclose older newer e hsplit hbefore he => ?_, fun hfails => ?_⟩
    · rw [hnow, hlockout]
      exact hstay v (State.actOnDetector_ignored (by rw [hstate]; exact hignored) _) hset
    · have hact := (State.actOnDetector_opens (t := v) (stamp := stampOf u) (by rw [hstate]; exact hopen)).trans
        (State.detected_openPass (by split <;> simp) _)
      obtain ⟨htd1, htd2, htp2, hwaits, hfound, hnothing⟩ :=
        openedPass_spec s.pulses[s.proveRun].history (stampOf u)
      let y : RunPulse := { s.pulses[s.proveRun] with
        watch := some (s.pulses[s.proveRun].openingMarks (stampOf u))
        capture := waitingCapture s.pulses[s.proveRun].history (stampOf u) }
      have hself : (s.pulses.set s.proveRun y)[s.proveRun] = y := Vector.getElem_set_self _
      have hpulses : (v.actOnDetector d (stampOf u)).settle.pulses[s.proveRun] = y := by
        rw [hstay _ hact hset]
        exact hself
      rw [hpulses]
      have hpassTimer : v.psq.passTimer = s.psq.passTimer := by cases d <;> rfl
      rw [hstay _ hact hset]
      exact ⟨rfl, htd1, htd2, htp2, rfl, hpassTimer, rfl, hwaits, hfound, hnothing, rfl⟩
    · have hsearch := (searchHistory_eq_none false).mpr hnone
      have hact := (State.actOnDetector_closes (t := v) (stamp := stampOf u) (by rw [hstate]; exact hclose)).trans
        (State.detected_closeCount _ _)
      simp only [hsearch] at hact
      rw [hnow, hlockout]
      exact hstay _ hact hset
    · have hsearch : searchHistory (stampOf u) false s.pulses[s.proveRun].history = some ⟨e, decide (older = [])⟩ := by
        rw [hsplit, searchHistory_append hbefore he]
        simp
      have hact := (State.actOnDetector_closes (t := v) (stamp := stampOf u) (by rw [hstate]; exact hclose)).trans
        (State.detected_closeCount _ _)
      simp only [hsearch] at hact
      rw [hact]
      rfl
    · rw [State.actOnDetector_fails (by rw [hstate]; exact hfails)]
      have hfailed : State.FailedSettled .detectorOrder v (v.failProve .detectorOrder).settle := v.failProve_settled _
      obtain ⟨hidle, hroute, -, -⟩ := hfailed.idle
      obtain ⟨hcapture, hwatch⟩ := hfailed.dropped_at (r := s.proveRun) State.detected_proveRun
      exact ⟨hidle, hroute, hfailed.raised, by rw [hfailed.ret]; exact Retained.proveEnded_marker _ _ _ _, hwatch,
        hcapture⟩

end Sys2Proof.Machine
end

section
/-! The curve that an applied result leaves (R48, R149), and the evaluation after a round trip (R145, R146). -/

namespace Sys2Proof.Machine

set_option Elab.async false

/-! ### Valid curves (R48) -/

section Curves

variable {c : Curve} {x p q : CurvePoint} {rate : Nat}

theorem ratesRise_iff_pairwise : ratesRise c = true ↔ c.Pairwise (fun p q => p.rate < q.rate) := by
  induction c with
  | nil => simp [ratesRise]
  | cons p ps ih =>
    refine ⟨fun h => List.pairwise_cons.mpr ⟨ratesRise_lt h, ih.mp (ratesRise_cons h)⟩, fun h => ?_⟩
    obtain ⟨hlt, hps⟩ := List.pairwise_cons.mp h
    cases ps with
    | nil => rfl
    | cons q qs =>
      rw [ratesRise, Bool.and_eq_true, decide_eq_true_iff]
      exact ⟨hlt q (by simp), ih.mpr hps⟩

theorem curveValid_iff : curveValid c = true ↔
    c.length ≤ 6 ∧ c.Pairwise (fun p q => p.rate < q.rate) ∧ ∀ p ∈ c, p.valid = true := by
  rw [curveValid, Bool.and_eq_true, Bool.and_eq_true, decide_eq_true_iff, ratesRise_iff_pairwise, List.all_eq_true,
    and_assoc]

/-! ### The point that a new one replaces (R149) -/

theorem nearestPoint?_eq_none : nearestPoint? rate c = none ↔ c = [] := by
  cases c with
  | nil => simp [nearestPoint?]
  | cons p ps =>
    unfold nearestPoint?
    split
    · simp
    · split <;> simp

theorem nearestPoint?_spec (h : nearestPoint? rate c = some q) :
    q ∈ c ∧ ∀ p ∈ c, distance q.rate rate ≤ distance p.rate rate := by
  induction c generalizing q with
  | nil => cases h
  | cons p ps ih =>
    unfold nearestPoint? at h
    split at h
    · next hnone =>
      obtain rfl := Option.some.inj h
      rw [nearestPoint?_eq_none.mp hnone]
      simp
    · next q' hq' =>
      obtain ⟨hmem, hle⟩ := ih hq'
      split at h
      · next hlt =>
        obtain rfl := Option.some.inj h
        exact ⟨by simp [hmem], List.forall_mem_cons.mpr ⟨hlt.le, hle⟩⟩
      · next hge =>
        obtain rfl := Option.some.inj h
        refine ⟨by simp, List.forall_mem_cons.mpr ⟨le_rfl, fun y hy => ?_⟩⟩
        exact (Nat.not_lt.mp hge).trans (hle y hy)

theorem nearRate_iff : nearRate rate p = true ↔ 20 * distance p.rate rate ≤ rate := by
  rw [nearRate, decide_eq_true_iff]

/-- The replaced point is nearest of the whole curve, and a near one where there is one. -/
theorem replacedPoint?_spec (h : replacedPoint? c rate = some q) :
    q ∈ c ∧ (∀ p ∈ c, distance q.rate rate ≤ distance p.rate rate)
      ∧ ∀ p ∈ c, nearRate rate p = true → nearRate rate q = true := by
  have hnear (hle : ∀ p ∈ c, distance q.rate rate ≤ distance p.rate rate) :
      ∀ p ∈ c, nearRate rate p = true → nearRate rate q = true := fun p hp hr => by
    rw [nearRate_iff] at hr ⊢
    have := hle p hp
    omega
  unfold replacedPoint? at h
  split at h
  · next q' hq' =>
    obtain rfl := Option.some.inj h
    obtain ⟨hmem, hle⟩ := nearestPoint?_spec hq'
    obtain ⟨hq, hqn⟩ := List.mem_filter.mp hmem
    have hall : ∀ p ∈ c, distance q'.rate rate ≤ distance p.rate rate := fun p hp => by
      by_cases hpn : nearRate rate p = true
      · exact hle p (List.mem_filter.mpr ⟨hp, hpn⟩)
      · rw [nearRate_iff] at hqn hpn
        omega
    exact ⟨hq, hall, hnear hall⟩
  · split at h
    · cases h
    · obtain ⟨hq, hall⟩ := nearestPoint?_spec h
      exact ⟨hq, hall, hnear hall⟩

theorem replacedPoint?_none (h : replacedPoint? c rate = none) :
    c.length < 6 ∧ ∀ p ∈ c, nearRate rate p = false := by
  unfold replacedPoint? at h
  split at h
  · cases h
  · next hnone =>
    have hfilter := List.filter_eq_nil_iff.mp (nearestPoint?_eq_none.mp hnone)
    refine ⟨?_, fun p hp => Bool.not_eq_true _ ▸ hfilter p hp⟩
    split at h
    · assumption
    · rw [nearestPoint?_eq_none.mp h]
      decide

/-! ### The new curve (R149) -/

theorem mem_insertPoint : p ∈ insertPoint x c ↔ p = x ∨ p ∈ c := by
  induction c with
  | nil => simp [insertPoint]
  | cons y ys ih =>
    unfold insertPoint
    split
    · simp
    · rw [List.mem_cons, ih, List.mem_cons]
      tauto

theorem length_insertPoint : (insertPoint x c).length = c.length + 1 := by
  induction c with
  | nil => rfl
  | cons y ys ih =>
    unfold insertPoint
    split
    · rfl
    · simp [ih]

theorem pairwise_insertPoint (hc : c.Pairwise (fun p q => p.rate < q.rate)) (hx : ∀ p ∈ c, p.rate ≠ x.rate) :
    (insertPoint x c).Pairwise (fun p q => p.rate < q.rate) := by
  induction c with
  | nil => simp [insertPoint]
  | cons y ys ih =>
    obtain ⟨hlt, hys⟩ := List.pairwise_cons.mp hc
    obtain ⟨hy, hxs⟩ := List.forall_mem_cons.mp hx
    unfold insertPoint
    split
    · next hxy =>
      refine List.pairwise_cons.mpr ⟨List.forall_mem_cons.mpr ⟨hxy, fun z hz => hxy.trans (hlt z hz)⟩, hc⟩
    · next hyx =>
      refine List.pairwise_cons.mpr ⟨fun z hz => ?_, ih hys hxs⟩
      rcases mem_insertPoint.mp hz with rfl | hz
      · omega
      · exact hlt z hz

theorem mem_replacePoint_new (hq : q ∈ c) : x ∈ replacePoint q x c :=
  List.mem_map.mpr ⟨q, hq, if_pos rfl⟩

theorem mem_replacePoint_old (hp : p ∈ c) (hne : p ≠ q) : p ∈ replacePoint q x c :=
  List.mem_map.mpr ⟨p, hp, if_neg hne⟩

theorem mem_replacePoint (h : p ∈ replacePoint q x c) : p = x ∨ p ∈ c := by
  obtain ⟨y, hy, hp⟩ := List.mem_map.mp h
  split at hp
  · exact .inl hp.symm
  · exact .inr (hp ▸ hy)

/-- The nearest point's place is the place of the new one. -/
theorem pairwise_replacePoint (hc : c.Pairwise (fun p q => p.rate < q.rate))
    (hnearest : ∀ p ∈ c, distance q.rate x.rate ≤ distance p.rate x.rate) :
    (replacePoint q x c).Pairwise (fun p q => p.rate < q.rate) := by
  refine List.pairwise_map.mpr (hc.imp_of_mem fun {a b} ha hb hab => ?_)
  have hna := hnearest a ha
  have hnb := hnearest b hb
  unfold distance at hna hnb
  by_cases haq : a = q <;> by_cases hbq : b = q <;> simp only [haq, hbq, if_true, if_false]
  · subst haq hbq
    omega
  · subst haq
    omega
  · subst hbq
    omega
  · exact hab

/-- The curve after a result: the first half of O51. -/
theorem newCurveOf_spec (hc : curveValid c = true) (hx : x.valid = true) :
    curveValid (newCurveOf c x) = true ∧ x ∈ newCurveOf c x
      ∧ (∀ p ∈ c, replacedPoint? c x.rate ≠ some p → p ∈ newCurveOf c x)
      ∧ (∀ p ∈ newCurveOf c x, p = x ∨ p ∈ c)
      ∧ (∀ p ∈ c, nearRate x.rate p = true →
          ∃ q ∈ c, replacedPoint? c x.rate = some q ∧ nearRate x.rate q = true) := by
  obtain ⟨hlength, hrise, hvalid⟩ := curveValid_iff.mp hc
  have hpoints (c' : Curve) (h : ∀ p ∈ c', p = x ∨ p ∈ c) : ∀ p ∈ c', p.valid = true := fun p hp => by
    rcases h p hp with rfl | hp
    exacts [hx, hvalid p hp]
  cases hq : replacedPoint? c x.rate with
  | some q =>
    obtain ⟨hmem, hnearest, hnear⟩ := replacedPoint?_spec hq
    have hnew : newCurveOf c x = replacePoint q x c := by simp only [newCurveOf, hq]
    rw [hnew]
    refine ⟨curveValid_iff.mpr ⟨by simpa [replacePoint] using hlength, pairwise_replacePoint hrise hnearest,
      hpoints _ fun p hp => mem_replacePoint hp⟩, mem_replacePoint_new hmem,
      fun p hp hne => mem_replacePoint_old hp fun h => hne (h ▸ rfl), fun p hp => mem_replacePoint hp,
      fun p hp hr => ⟨q, hmem, rfl, hnear p hp hr⟩⟩
  | none =>
    obtain ⟨hroom, hfar⟩ := replacedPoint?_none hq
    have hnew : newCurveOf c x = insertPoint x c := by simp only [newCurveOf, hq]
    have hother : ∀ p ∈ c, p.rate ≠ x.rate := fun p hp h => by
      have hnot := hfar p hp
      rw [← Bool.not_eq_true, nearRate_iff, h] at hnot
      exact hnot (by simp [distance])
    rw [hnew]
    refine ⟨curveValid_iff.mpr ⟨by rw [length_insertPoint]; omega, pairwise_insertPoint hrise hother,
      hpoints _ fun p hp => mem_insertPoint.mp hp⟩, mem_insertPoint.mpr (.inl rfl),
      fun p hp _ => mem_insertPoint.mpr (.inr hp), fun p hp => mem_insertPoint.mp hp, fun p hp hr => ?_⟩
    rw [hfar p hp] at hr
    cases hr

end Curves

/-! ### The window of a prove (R145, R146) -/

theorem highest_of_max? {xs : List Nat} {hi : Nat} (h : xs.max? = some hi) : highest xs = hi := by
  cases xs with
  | nil => cases h
  | cons x xs =>
    rw [List.max?_cons'] at h
    rw [← Option.some.inj h, highest, List.foldl_cons, Nat.zero_max]

theorem lowest_of_min? {xs : List Nat} {lo : Nat} (h : xs.min? = some lo) : lowest xs = lo := by
  cases xs with
  | nil => cases h
  | cons x xs =>
    rw [List.min?_cons'] at h
    rw [← Option.some.inj h, lowest]

theorem repeatability_eq {imfs : List Nat} {hi lo : Nat} (hhi : imfs.max? = some hi) (hlo : imfs.min? = some lo) :
    repeatability imfs = (2 * ((hi - lo) * 1000000) + lo) / (2 * lo) := by
  rw [repeatability, highest_of_max? hhi, lowest_of_min? hlo]
  rfl

theorem curveFactor?_eq (c : Curve) (q : Nat) :
    curveFactor? c q = if c = [] then none else some (meterFactor c q) := by
  cases c <;> rfl

theorem resultOf_deviation (window : List (Nat × TripFigures)) (curve : Curve) (limit : Nat) :
    (resultOf window curve limit).deviation = (resultOf window curve limit).currentMF.map
      (fun c => roundHalfUp (distance (resultOf window curve limit).newMF c * 1000000) c) := rfl

theorem resultOf_deviates (window : List (Nat × TripFigures)) (curve : Curve) (limit : Nat) :
    (resultOf window curve limit).deviates = (resultOf window curve limit).currentMF.any
      (fun c => decide (limit * c < distance (resultOf window curve limit).newMF c * 1000000)) := by
  unfold resultOf
  dsimp only
  cases curveFactor? curve (meanUp (window.map (fun w => w.2.qrun))) with
  | none => rw [Option.any_none]
  | some c => rw [Option.any_some]

/-- The figures of a result (R146). -/
theorem resultOf_spec (window : List (Nat × TripFigures)) (curve : Curve) (limit k : Nat) (hk : window.length = k)
    (res : ProveResult) (hres : res = resultOf window curve limit) :
    res.newMF = (2 * (window.map (fun w => w.2.imf)).sum + k) / (2 * k)
      ∧ res.rate = (2 * (window.map (fun w => w.2.qrun)).sum + k) / (2 * k)
      ∧ res.repeatability = repeatability (window.map (fun w => w.2.imf))
      ∧ res.trips = window.map Prod.fst
      ∧ res.newCurve = decide (curve = [])
      ∧ res.currentMF = (if res.newCurve then none else some (meterFactor curve res.rate))
      ∧ res.deviation = res.currentMF.map (fun c : Nat =>
          (2 * (((res.newMF : Int) - (c : Int)).natAbs * 1000000) + c) / (2 * c))
      ∧ res.deviates = res.currentMF.any (fun c : Nat =>
          decide (limit * c < ((res.newMF : Int) - (c : Int)).natAbs * 1000000)) := by
  subst hres hk
  have hmean (f : Nat × TripFigures → Nat) : meanUp (window.map f)
      = (2 * (window.map f).sum + window.length) / (2 * window.length) := by
    rw [meanUp, List.length_map]
    rfl
  have hnew : (resultOf window curve limit).newCurve = decide (curve = []) := by
    show (curveFactor? curve _).isNone = _
    rw [curveFactor?_eq]
    split <;> simp [*]
  refine ⟨hmean _, hmean _, rfl, rfl, hnew, ?_, ?_, ?_⟩
  · rw [hnew]
    show curveFactor? curve _ = _
    rw [curveFactor?_eq]
    simp only [decide_eq_true_eq]
    rfl
  · rw [resultOf_deviation]
    simp only [roundHalfUp, distance_eq_natAbs]
  · rw [resultOf_deviates]
    simp only [distance_eq_natAbs]

section Evaluate

variable {s : State} {r : Run} {slot : Slot} {m : ProveMarker}

theorem State.evaluateProve_success (hrun : s.psq.run = some r) (hslot : s.psq.slot = some slot)
    (hlength : (windowOf s.params.prover.k s.psq.trips).length = s.params.prover.k)
    (hspread : repeatability ((windowOf s.params.prover.k s.psq.trips).map (fun w => w.2.imf))
      ≤ s.params.prover.repeatLimit) (res : ProveResult)
    (hres : res = resultOf (windowOf s.params.prover.k s.psq.trips) s.params.curves[r][slot]
      s.params.prover.deviationLimit) :
    s.evaluateProve = if s.params.prover.autoAccept && !res.newCurve && !res.deviates then s.applyResult res .auto
      else s.holdResult res := by
  have hr : s.proveRun = r := by rw [State.proveRun, hrun]; rfl
  have hs : s.proveSlot = slot := by rw [State.proveSlot, hslot]; rfl
  subst hr hs hres
  exact if_pos ⟨hlength, hspread⟩

theorem State.holdResult_eq (hm : s.ret.marker = some m) (res : ProveResult) :
    s.holdResult res = { s with
      psq := { s.psq with
        state := .resultPending, result := some res, route := noRuns, valveTimer := none
        passTimer := none, tailTimer := none }
      ret := { s.ret with marker := some { m with result := some res } } } := by
  simp only [State.holdResult, State.modRet, State.modPsq, hm]
  rfl

end Evaluate

/-- Settles O51: the curve of an applied result, and the outcomes of the evaluation. -/
theorem appliedResultKeepsTheCurveValid : Obligations.AppliedResultKeepsTheCurveValid := by
  refine ⟨fun c x hc hx => newCurveOf_spec hc hx, ?_⟩
  rintro s r slot m valid window imfs k hrun hslot hm rfl rfl rfl rfl
  refine ⟨fun hi lo spread hlength hhi hlo hspread hle => ?_, fun hfail => ?_⟩
  · rw [← repeatability_eq hhi hlo] at hspread
    let res := resultOf (windowOf s.params.prover.k s.psq.trips) s.params.curves[r][slot]
      s.params.prover.deviationLimit
    obtain ⟨hmf, hrate, hrep, htrips, hnew, hcurrent, hdev, hdeviates⟩ :=
      resultOf_spec (windowOf s.params.prover.k s.psq.trips) s.params.curves[r][slot]
        s.params.prover.deviationLimit s.params.prover.k hlength res rfl
    have heval := State.evaluateProve_success hrun hslot hlength (hspread ▸ hle) res rfl
    clear_value res
    refine ⟨res, _, rfl, hmf, hrate, hrep.trans hspread.symm, htrips, hnew, hcurrent, hdev, hdeviates,
      fun hauto hcurve hagree => ?_, fun hwait => ?_⟩
    · rw [if_pos (by simp [hauto, hcurve, hagree]), State.applyResult_eq hrun hslot,
        Retained.proveEnded_of_marker (m := m) (by rw [State.countedChange_frame]; exact hm)] at heval
      have hret : s.evaluateProve.ret = { s.ret with
          active := (s.countedChange r).active
          ending := (s.countedChange r).ending
          marker := none
          lastProve := s.ret.lastProve.set m.run
            (some ⟨s.clock, m.startTime, m.slot, s.psq.attempts, .accepted .auto res⟩) } := by
        rw [heval, State.countedChange_frame]
      generalize s.evaluateProve = t at *
      have hactive : t.ret.active = (s.countedChange r).active := by rw [hret]
      have hending : t.ret.ending = (s.countedChange r).ending := by rw [hret]
      refine ⟨by rw [heval]; rfl, by rw [hactive, hending]; exact hret, fun hnone => ?_, fun hids b hb => ?_,
        by rw [heval]; rfl, by rw [heval]; rfl, by rw [heval]; rfl, by rw [heval]; rfl⟩
      · obtain ⟨ha, he⟩ := State.countedChange_of_none hnone
        exact ⟨hactive.trans ha, hending.trans he⟩
      · exact State.countedChange_of_some hids hb hactive hending
    · have hnot : ¬ (s.params.prover.autoAccept && !res.newCurve && !res.deviates) = true := by
        rcases hwait with h | h | h <;> simp [h]
      rw [heval, if_neg hnot, State.holdResult_eq hm]
  · have hnot : ¬ ((windowOf s.params.prover.k s.psq.trips).length = s.params.prover.k
        ∧ repeatability ((windowOf s.params.prover.k s.psq.trips).map (fun w => w.2.imf))
          ≤ s.params.prover.repeatLimit) := by
      rintro ⟨hlength, hle⟩
      rcases hfail with h | ⟨hi, lo, hhi, hlo, hover⟩
      · exact h hlength
      · rw [← repeatability_eq hhi hlo] at hover
        exact absurd hover (Nat.not_lt.mpr hle)
    have heval : s.evaluateProve = if s.psq.attempts = s.params.prover.maxAttempts then s.failProve .noRepeat
      else s.enterLaunch false := if_neg hnot
    refine ⟨fun hlast => ?_, fun hmore => ?_⟩
    · rw [if_pos hlast] at heval
      have hfailed := s.failProve_failed .noRepeat
      rw [← heval] at hfailed
      generalize s.evaluateProve = t at *
      refine ⟨t, rfl, by rw [hfailed.psq]; rfl, by rw [hfailed.psq]; rfl, by rw [hfailed.psq]; rfl, hfailed.raised,
        hfailed.finished, by rw [hfailed.frame], ?_⟩
      exact hfailed.ret.trans (Retained.proveEnded_of_marker hm _ _ _)
    · rw [heval, if_neg hmore, State.enterLaunch_fwd]
      rfl

end Sys2Proof.Machine
end

section
/-! What the archive's own operations and the close tests change (R119, R173 to R177), and the Sampler Controller's timers,
requests and can-full inputs (R161 to R166). -/

namespace Sys2Proof.Machine

set_option Elab.async false

/-! ### The close tests and the archive's operations -/

/-- At most the batches, the pending queue with its counter, the archive, ARCHIVE_FULL and two event flags differ. -/
structure State.ArchiveMoved (s t : State) : Prop where
  ret : t.ret = { s.ret with
    active := t.ret.active, ending := t.ret.ending, pendingTickets := t.ret.pendingTickets
    ticketCounter := t.ret.ticketCounter }
  other : ∀ a : AlarmId, a ≠ .station .archiveFull → t.alarm a = s.alarm a
  flags : t.flags = { s.flags with batchClosed := t.flags.batchClosed, alarmChanged := t.flags.alarmChanged }
  frame : t = { s with
    ret := t.ret, archive := t.archive, write := t.write, erase := t.erase, alarms := t.alarms, flags := t.flags }

section ArchiveMoved

variable {s t u : State}

theorem State.ArchiveMoved.refl : s.ArchiveMoved s := ⟨rfl, fun _ _ => rfl, rfl, rfl⟩

theorem State.ArchiveMoved.trans (h : s.ArchiveMoved t) (k : t.ArchiveMoved u) : s.ArchiveMoved u where
  ret := by rw [k.ret, h.ret]
  other a ha := (k.other a ha).trans (h.other a ha)
  flags := by rw [k.flags, h.flags]
  frame := by rw [k.frame, h.frame]

theorem State.AlarmsMoved.archive (h : s.AlarmsMoved [.station .archiveFull] t) : s.ArchiveMoved t where
  ret := by rw [h.frame]
  other a ha := h.other a (by simpa using ha)
  flags := by rw [h.flags]
  frame := by rw [h.frame]

theorem State.AlarmsMoved.smc {as : List AlarmId} (h : s.AlarmsMoved as t) : t.smc = s.smc := by rw [h.frame]

theorem State.ArchiveMoved.clock (h : s.ArchiveMoved t) : t.clock = s.clock := by rw [h.frame]

theorem State.ArchiveMoved.now (h : s.ArchiveMoved t) : t.now = s.now := by rw [h.frame]

theorem State.ArchiveMoved.smc (h : s.ArchiveMoved t) : t.smc = s.smc := by rw [h.frame]

theorem State.ArchiveMoved.canCount (h : s.ArchiveMoved t) (c : Can) : t.canCount c = s.canCount c := by
  unfold State.canCount
  rw [h.ret]

theorem State.ArchiveMoved.selectedCan (h : s.ArchiveMoved t) : t.ret.selectedCan = s.ret.selectedCan := by rw [h.ret]

theorem State.ArchiveMoved.enable (h : s.ArchiveMoved t) : t.ret.enable = s.ret.enable := by rw [h.ret]

variable (s)

theorem State.archiveMoved_suspendErase : s.ArchiveMoved s.suspendErase := by
  unfold State.suspendErase
  repeat' split
  all_goals exact ⟨rfl, fun _ _ => rfl, rfl, rfl⟩

theorem State.archiveMoved_resumeErase : s.ArchiveMoved s.resumeErase := by
  unfold State.resumeErase
  repeat' split
  all_goals exact ⟨rfl, fun _ _ => rfl, rfl, rfl⟩

theorem State.archiveMoved_testReclaim : s.ArchiveMoved s.testReclaim := by
  unfold State.testReclaim
  repeat' split
  all_goals exact ⟨rfl, fun _ _ => rfl, rfl, rfl⟩

theorem State.archiveMoved_tryStartWrite : s.ArchiveMoved s.tryStartWrite := by
  unfold State.tryStartWrite
  split
  · split
    · exact .refl
    · split
      · next a i j _ =>
        have hbegin : s.ArchiveMoved { s with
            archive := a.beginWrite i j, write := some ⟨i, j⟩
            ret := { s.ret with pendingTickets := markHead true s.ret.pendingTickets } } :=
          ⟨rfl, fun _ _ => rfl, rfl, rfl⟩
        exact (hbegin.trans (State.alarmsMoved_moveAlarm _ _ _).archive).trans (State.archiveMoved_suspendErase _)
      · exact (s.alarmsMoved_moveAlarm _ _).archive
  · exact .refl
  · exact .refl

theorem State.archiveMoved_closeBatch (b : Batch) : s.ArchiveMoved (s.closeBatch b) := by
  obtain ⟨t, ht, hmoved⟩ : ∃ t : State, s.closeBatch b = t.tryStartWrite ∧ s.ArchiveMoved t :=
    ⟨_, rfl, rfl, fun _ _ => rfl, rfl, rfl⟩
  rw [ht]
  exact hmoved.trans t.archiveMoved_tryStartWrite

theorem State.archiveMoved_closeTest (b : Batch) : s.ArchiveMoved (s.closeTest b) := by
  unfold State.closeTest
  split
  · split
    · split
      · exact .refl
      · exact s.archiveMoved_closeBatch b
    · exact ⟨rfl, fun _ _ => rfl, rfl, rfl⟩
  · exact .refl

theorem State.archiveMoved_foldl_closeTest (bs : List Batch) : s.ArchiveMoved (bs.foldl State.closeTest s) := by
  induction bs generalizing s with
  | nil => exact .refl
  | cons b bs ih => exact (s.archiveMoved_closeTest b).trans (ih _)

theorem State.archiveMoved_closeTests : s.ArchiveMoved s.closeTests := s.archiveMoved_foldl_closeTest s.ret.ending

end ArchiveMoved

/-- What the one retained update of an event leaves as it was. -/
theorem State.settle_kept (s : State) :
    s.settle.now = s.now ∧ s.settle.ret = s.ret ∧ s.settle.smc = s.smc ∧ s.settle.alarms = s.alarms
      ∧ s.settle.flags = s.flags := by
  rw [s.settle_eq_with]
  exact ⟨rfl, rfl, rfl, rfl, rfl⟩

theorem State.canCount_congr {s t : State} (h : t.ret = s.ret) (c : Can) : t.canCount c = s.canCount c := by
  unfold State.canCount
  rw [h]

/-! ### Discarding the queue (R164, R166) -/

/-- What a discarded queue leaves: every entry is missed by its batch, and SAMPLER_MISSED is raised and cleared (R167). -/
structure State.QueueDiscarded (s t : State) : Prop where
  smc : t.smc = { s.smc with queue := [] }
  ret : t.ret = { s.ret with active := t.ret.active, ending := t.ret.ending }
  other : ∀ a : AlarmId, a ≠ .station .samplerMissed → t.alarm a = s.alarm a
  missed : s.smc.queue ≠ [] → s.alarmRaised (.station .samplerMissed) = false →
    (t.alarm (.station .samplerMissed)).state = .returnedUnack
  flags : t.flags = { s.flags with alarmChanged := t.flags.alarmChanged }
  frame : t = { s with ret := t.ret, smc := t.smc, alarms := t.alarms, flags := t.flags }

section Discard

variable (s : State)

theorem State.foldl_missGrab (q : List OwedGrab) :
    ∃ (active : Option Batch) (ending : List Batch), q.foldl (fun s e => s.missGrab e.batchId) s
      = { s with ret := { s.ret with active := active, ending := ending } } := by
  induction q generalizing s with
  | nil => exact ⟨_, _, rfl⟩
  | cons e q ih =>
    obtain ⟨active, ending, h⟩ := ih (s.missGrab e.batchId)
    exact ⟨active, ending, h⟩

theorem State.discardQueue_discarded : State.QueueDiscarded s s.discardQueue := by
  unfold State.discardQueue
  split
  · next hempty =>
    exact ⟨by rw [← hempty], rfl, fun _ _ => rfl, fun h => absurd hempty h, rfl, rfl⟩
  · obtain ⟨active, ending, hfold⟩ := State.foldl_missGrab { s with smc := { s.smc with queue := [] } } s.smc.queue
    let base : State := { s with
      smc := { s.smc with queue := [] }, ret := { s.ret with active := active, ending := ending } }
    have hpulse : (s.smc.queue.foldl (fun s e => s.missGrab e.batchId) (s.modSmc (fun x => { x with queue := [] })))
        = base := hfold
    rw [hpulse]
    have hmoved := base.alarmsMoved_pulseAlarm (.station .samplerMissed)
    have hmissed := base.pulseAlarm_returned (.station .samplerMissed)
    generalize base.pulseAlarm (.station .samplerMissed) = t at *
    exact ⟨by rw [hmoved.frame], by rw [hmoved.frame], fun a ha => hmoved.other a (by simpa using ha),
      fun _ h => hmissed h, hmoved.flags, by rw [hmoved.frame]⟩

end Discard

/-! ### The timers (R161 to R163) -/

/-- The sampler in READY after its interval or its swap. -/
def Sampler.resting (x : Sampler) : Sampler :=
  { x with state := .ready, widthTimer := none, intervalTimer := none, swapTimer := none, grab := false }

/-- What serving the head of the queue comes to, by its can (R161 to R164). -/
structure State.HeadServed (s t : State) : Prop where
  now : t.now = s.now
  empty : s.smc.queue = [] → t.smc = s.smc
  swap : ∀ (e : OwedGrab) (rest : List OwedGrab), s.smc.queue = e :: rest → e.can ≠ s.ret.selectedCan →
    t.smc = { s.smc with
        state := .swapping, canSelect := decide (e.can = .can2), swapTimer := some (s.now + 50000000) }
      ∧ t.ret.selectedCan = e.can
  halt : ∀ (e : OwedGrab) (rest : List OwedGrab), s.smc.queue = e :: rest → e.can = s.ret.selectedCan →
    s.canIsFull e.can = true →
    t.smc = { s.smc with state := .halted, haltedCan := some e.can, queue := [] }
      ∧ t.alarmRaised (.station .samplerHalted) = true
  grab : ∀ (e : OwedGrab) (rest : List OwedGrab), s.smc.queue = e :: rest → e.can = s.ret.selectedCan →
    s.canIsFull e.can = false →
    t.smc = { s.smc with
        state := .grabbing, queue := rest, grab := true
        widthTimer := some (s.now + s.params.station.grabWidth * 10000)
        intervalTimer := some (s.now + s.params.station.grabInterval * 10000) }
      ∧ t.canCount e.can = s.canCount e.can + 1

section Serve

variable {s : State}

theorem State.examineHead_eq (h : s.smc.state = .ready) :
    s.examineHead = match s.smc.queue with
      | [] => s
      | e :: rest =>
        if e.can ≠ s.ret.selectedCan then s.startSwap e.can
        else if s.canIsFull e.can then s.halt e.can else s.startGrab e rest := by
  unfold State.examineHead
  rw [h]
  cases s.smc.queue <;> rfl

theorem State.halt_spec (c : Can) :
    (s.halt c).now = s.now ∧ (s.halt c).smc = { s.smc with state := .halted, haltedCan := some c, queue := [] }
      ∧ (s.halt c).alarmRaised (.station .samplerHalted) = true := by
  have hdiscard := State.discardQueue_discarded (s.modSmc (fun x => { x with state := .halted, haltedCan := some c }))
  have hhalt : s.halt c = (s.modSmc (fun x => { x with state := .halted, haltedCan := some c })).discardQueue.raiseAlarm
    (.station .samplerHalted) := rfl
  generalize (s.modSmc (fun x => { x with state := .halted, haltedCan := some c })).discardQueue = u at *
  have hraised : (u.raiseAlarm (.station .samplerHalted)).alarmRaised (.station .samplerHalted) = true :=
    State.alarmRaised_setAlarm u (.station .samplerHalted) true
  have hmoved : u.AlarmsMoved _ (u.raiseAlarm (.station .samplerHalted)) := u.alarmsMoved_moveAlarm _ _
  rw [hhalt]
  refine ⟨hmoved.now.trans (by rw [hdiscard.frame]; rfl), ?_, hraised⟩
  rw [hmoved.frame]
  exact hdiscard.smc

theorem State.startGrab_spec (e : OwedGrab) (rest : List OwedGrab) :
    (s.startGrab e rest).now = s.now
      ∧ (s.startGrab e rest).smc = { s.smc with
          state := .grabbing, queue := rest, grab := true
          widthTimer := some (s.now + s.params.station.grabWidth * 10000)
          intervalTimer := some (s.now + s.params.station.grabInterval * 10000) }
      ∧ (s.startGrab e rest).canCount e.can = s.canCount e.can + 1 := by
  unfold State.startGrab State.setCanCount State.canCount
  cases e.can <;> exact ⟨rfl, rfl, rfl⟩

theorem State.examineHead_served (h : s.smc.state = .ready) : State.HeadServed s s.examineHead := by
  rw [State.examineHead_eq h]
  cases hq : s.smc.queue with
  | nil =>
    refine ⟨rfl, fun _ => rfl, fun e rest he => ?_, fun e rest he => ?_, fun e rest he => ?_⟩ <;>
      (rw [hq] at he; cases he)
  | cons e rest =>
    have hempty {p : Prop} (he : s.smc.queue = []) : p := by rw [hq] at he; cases he
    have hhead {e' : OwedGrab} {rest' : List OwedGrab} (he : s.smc.queue = e' :: rest') : e' = e ∧ rest' = rest := by
      rw [hq] at he
      cases he
      exact ⟨rfl, rfl⟩
    dsimp only
    split
    · next hcan =>
      refine ⟨rfl, hempty, fun e' rest' he _ => ?_, fun e' rest' he hcan' => ?_, fun e' rest' he hcan' => ?_⟩ <;>
        obtain ⟨rfl, rfl⟩ := hhead he
      · exact ⟨rfl, rfl⟩
      · exact absurd hcan' hcan
      · exact absurd hcan' hcan
    · next hcan =>
      split
      · next hfull =>
        obtain ⟨hnow, hsmc, hraised⟩ := s.halt_spec e.can
        refine ⟨hnow, hempty, fun e' rest' he hcan' => ?_, fun e' rest' he _ _ => ?_,
          fun e' rest' he _ hfree => ?_⟩ <;> obtain ⟨rfl, rfl⟩ := hhead he
        · exact absurd hcan' hcan
        · exact ⟨hsmc, hraised⟩
        · rw [hfull] at hfree
          cases hfree
      · next hfree =>
        obtain ⟨hnow, hsmc, hcount⟩ := s.startGrab_spec e rest
        refine ⟨hnow, hempty, fun e' rest' he hcan' => ?_, fun e' rest' he _ hfull => ?_,
          fun e' rest' he _ _ => ?_⟩ <;> obtain ⟨rfl, rfl⟩ := hhead he
        · exact absurd hcan' hcan
        · exact absurd hfull hfree
        · exact ⟨hsmc, hcount⟩

/-- The close tests and the update that follow it take nothing from what serving the head came to. -/
theorem State.HeadServed.closed {t : State} (h : State.HeadServed s t) : State.HeadServed s t.closeTests.settle := by
  have hclosed := t.archiveMoved_closeTests
  obtain ⟨hnow, hret, hsmc, halarms, -⟩ := t.closeTests.settle_kept
  have hraised (ha : t.alarmRaised (.station .samplerHalted) = true) :
      t.closeTests.settle.alarmRaised (.station .samplerHalted) = true := by
    refine (State.alarmRaised_congr ?_).trans ha
    exact (State.alarm_eq_of_alarms_eq halarms _).trans (hclosed.other _ (by decide))
  exact {
    now := hnow.trans (hclosed.now.trans h.now)
    empty := fun he => (hsmc.trans hclosed.smc).trans (h.empty he)
    swap := fun e rest he hcan => by
      rw [hsmc, hclosed.smc, hret, hclosed.selectedCan]
      exact h.swap e rest he hcan
    halt := fun e rest he hcan hfull => by
      obtain ⟨hs, ha⟩ := h.halt e rest he hcan hfull
      exact ⟨(hsmc.trans hclosed.smc).trans hs, hraised ha⟩
    grab := fun e rest he hcan hfree => by
      rw [hsmc, hclosed.smc, State.canCount_congr hret, hclosed.canCount]
      exact h.grab e rest he hcan hfree }

end Serve

/-- Settles O52: the end of the pulse, and the head of the queue served after the interval or the swap. -/
theorem samplerTimersServeTheQueue : Obligations.SamplerTimersServeTheQueue := by
  intro s d hrun
  refine ⟨fun hd hset => ?_, fun cmd hcmd => ?_⟩
  · have hf : widthExpiry s = { s with now := max s.now d, smc := { s.smc with widthTimer := none, grab := false } } := by
      simp only [widthExpiry, hd]
      rfl
    rw [← hf]
    exact exec_of_event_settled hrun rfl (by rw [hf]; exact hset)
  · let u : State := { s with now := max s.now d, smc := s.smc.resting }
    have hexec : exec cmd s = .next u.examineHead.closeTests.settle := by
      rcases hcmd with ⟨rfl, hd, hswap⟩ | ⟨rfl, hd, hinterval, hwidth, hgrab⟩
      · have hf : intervalExpiry s = u.examineHead.closeTests := by
          have hu : u = { s with now := max s.now d, smc := { s.smc with
              state := .ready, widthTimer := none, intervalTimer := none, grab := false } } := by
            simp only [u, Sampler.resting, hswap]
          rw [hu]
          simp only [intervalExpiry, hd]
          rfl
        rw [← hf]
        exact exec_of_event hrun rfl
      · have hf : swapExpiry s = u.examineHead.closeTests := by
          have hu : u = { s with now := max s.now d, smc := { s.smc with state := .ready, swapTimer := none } } := by
            simp only [u, Sampler.resting, hinterval, hwidth, hgrab]
          rw [hu]
          simp only [swapExpiry, hd]
          rfl
        rw [← hf]
        exact exec_of_event hrun rfl
    have hserved := (State.examineHead_served (s := u) rfl).closed
    have hsettled : u.examineHead.closeTests.settle.Settled := State.settled_settle
    have hnow := hserved.now
    generalize u.examineHead.closeTests.settle = t at *
    refine ⟨t, hexec, hnow, hsettled, hserved.empty, fun e rest hq => ⟨fun hcan => ?_, fun hcan hfull => ?_,
      fun hcan hfree => ?_⟩⟩
    · obtain ⟨hsmc, hselected⟩ := hserved.swap e rest hq hcan
      rw [hsmc, hnow]
      exact ⟨rfl, hselected, rfl, rfl, rfl, rfl⟩
    · obtain ⟨hsmc, hraised⟩ := hserved.halt e rest hq hcan hfull
      rw [hsmc]
      exact ⟨rfl, rfl, rfl, hraised, rfl⟩
    · obtain ⟨hsmc, hcount⟩ := hserved.grab e rest hq hcan hfree
      rw [hsmc, hnow]
      exact ⟨rfl, rfl, rfl, rfl, rfl, hcount⟩

/-! ### CAN RESET, SAMPLER ENABLE and the can-full inputs (R164 to R166) -/

section Leaving

variable {s : State}

theorem State.leaveHalt_of_halted (h : s.smc.state = .halted) :
    s.leaveHalt = State.clearAlarm { s with smc := { s.smc with state := .ready, haltedCan := none } }
      (.station .samplerHalted) := by
  simp only [State.leaveHalt, h]
  rfl

theorem State.leaveHalt_of_not_halted (h : s.smc.state ≠ .halted) : s.leaveHalt = s := by
  unfold State.leaveHalt
  split
  · next hs => exact absurd hs h
  all_goals rfl

theorem State.leaveHalt_cleared (h : s.smc.state = .halted) :
    s.leaveHalt.alarmRaised (.station .samplerHalted) = false := by
  rw [State.leaveHalt_of_halted h]
  exact State.alarmRaised_setAlarm _ (.station .samplerHalted) false

/-- Leaving HALTED moves the sampler to READY, and of the alarms SAMPLER_HALTED alone (R165). -/
theorem State.alarmsMoved_leaveHalt :
    State.AlarmsMoved [.station .samplerHalted] { s with smc :=
      (if s.smc.state = .halted then { s.smc with state := .ready, haltedCan := none } else s.smc) } s.leaveHalt := by
  split
  · next h =>
    rw [State.leaveHalt_of_halted h]
    exact State.alarmsMoved_moveAlarm _ _ _
  · next h =>
    rw [State.leaveHalt_of_not_halted h]
    exact .refl

/-- SAMPLER ENABLE OFF: the halt, the pulse, every timer and the queue end, and the batches are tested (R166). -/
theorem State.disableSampler_spec (s : State) :
    s.disableSampler.settle.Settled
      ∧ s.disableSampler.settle.ret = { s.ret with
          enable := .off, active := s.disableSampler.settle.ret.active, ending := s.disableSampler.settle.ret.ending
          pendingTickets := s.disableSampler.settle.ret.pendingTickets
          ticketCounter := s.disableSampler.settle.ret.ticketCounter }
      ∧ s.disableSampler.settle.smc = { s.smc with
          state := .off, queue := [], haltedCan := none, widthTimer := none, intervalTimer := none
          swapTimer := none, grab := false }
      ∧ (s.smc.queue ≠ [] → s.alarmRaised (.station .samplerMissed) = false →
          (s.disableSampler.settle.alarm (.station .samplerMissed)).state = .returnedUnack)
      ∧ s.disableSampler.settle = { s with
          ret := s.disableSampler.settle.ret, bankA := s.disableSampler.settle.bankA
          bankB := s.disableSampler.settle.bankB, current := s.disableSampler.settle.current
          smc := s.disableSampler.settle.smc, archive := s.disableSampler.settle.archive
          write := s.disableSampler.settle.write, erase := s.disableSampler.settle.erase
          alarms := s.disableSampler.settle.alarms, flags := s.disableSampler.settle.flags } := by
  have hleft := State.alarmsMoved_leaveHalt (s := s)
  let off (w : State) : State := { w with
    ret := { w.ret with enable := .off }
    smc := { w.smc with
      state := .off, haltedCan := none, widthTimer := none, intervalTimer := none, swapTimer := none, grab := false } }
  have hdiscard := (off s.leaveHalt).discardQueue_discarded
  have hclosed := (off s.leaveHalt).discardQueue.archiveMoved_closeTests
  have hsettle := (off s.leaveHalt).discardQueue.closeTests.settle_eq_with
  have hsettled : (off s.leaveHalt).discardQueue.closeTests.settle.Settled := State.settled_settle
  have hdisable : s.disableSampler = (off s.leaveHalt).discardQueue.closeTests := rfl
  have hsmc : (off s.leaveHalt).smc = { s.smc with
      state := .off, haltedCan := none, widthTimer := none, intervalTimer := none, swapTimer := none
      grab := false } := by
    rw [hleft.frame]
    by_cases h : s.smc.state = .halted <;> simp only [off, h, if_true, if_false]
  have hmissed : (off s.leaveHalt).alarm (.station .samplerMissed) = s.alarm (.station .samplerMissed) :=
    hleft.other _ (by decide)
  have hoff : off s.leaveHalt = { s with
      ret := { s.ret with enable := .off }, smc := (off s.leaveHalt).smc, alarms := s.leaveHalt.alarms
      flags := s.leaveHalt.flags } := by
    simp only [off]
    rw [hleft.frame]
  rw [hdisable]
  generalize off s.leaveHalt = w at *
  generalize w.discardQueue = x at *
  generalize hy : x.closeTests = y at *
  have halarm : y.settle.alarm (.station .samplerMissed) = x.alarm (.station .samplerMissed) :=
    (y.alarm_settle _).trans (hclosed.other _ (by decide))
  generalize y.settle = z at *
  refine ⟨hsettled, ?_, ?_, fun hq hm => ?_, ?_⟩
  · rw [hsettle, hclosed.ret, hdiscard.ret, hoff]
  · rw [hsettle]
    exact hclosed.smc.trans (hdiscard.smc.trans (by rw [hsmc]))
  · rw [halarm]
    exact hdiscard.missed (by rw [hsmc]; exact hq) ((State.alarmRaised_congr hmissed).trans hm)
  · rw [hsettle, hclosed.frame, hdiscard.frame, hoff]

theorem takeCanReset_eq (c : Can) :
    takeCanReset (canNumber c) s = ((s.setCanCount c 0).leaveHalt.retainedUpdate, .justOk) := by
  cases c <;> rfl

theorem takeCanReset_refused {n : Nat} (h1 : n ≠ 1) (h2 : n ≠ 2) : takeCanReset n s = refuse s .badParam := by
  have hnone : canOfNumber? n = none := by
    unfold canOfNumber?
    split
    · exact absurd rfl h1
    · exact absurd rfl h2
    · rfl
  simp only [takeCanReset, hnone]

end Leaving

/-- Settles O53: CAN RESET, SAMPLER ENABLE and the can-full inputs, by the state of the sampler. -/
theorem samplerRequestsAndCanInputs : Obligations.SamplerRequestsAndCanInputs := by
  intro s c
  refine ⟨fun hr => ⟨fun n h1 h2 => ?_, ?_, fun x hx => ?_, fun hoff => ?_, fun hon => ?_⟩, fun u hrun hset hu => ?_⟩
  · exact exec_of_request_refused hr rfl (takeCanReset_refused h1 h2)
  · let u := s.setCanCount c 0
    have hmoved := State.alarmsMoved_leaveHalt (s := u)
    have hcleared := State.leaveHalt_cleared (s := u)
    obtain ⟨hbank, hcurrent, -, -, hframe⟩ := u.leaveHalt.retainedUpdate_of_current
    have hexec := exec_of_request_settled (c := .canReset (canNumber c)) hr rfl (takeCanReset_eq c)
    have hu : u = { s with
        ret := (if c = .can1 then { s.ret with canCount1 := 0 } else { s.ret with canCount2 := 0 }) } := by
      cases c <;> rfl
    have hsmc : u.smc = s.smc := by rw [hu]
    have halarm : u.leaveHalt.retainedUpdate.alarms = u.leaveHalt.alarms := by rw [hframe]
    have hsettled : u.leaveHalt.retainedUpdate.Settled := by
      unfold State.Settled
      rw [hbank, hframe]
    have hcur : u.leaveHalt.current = s.current := by rw [hmoved.frame, hu]
    generalize u.leaveHalt = v at *
    generalize v.retainedUpdate = t at *
    rw [hmoved.frame, hu] at hframe
    refine ⟨_, hexec hsettled, hsettled, rfl, congrArg State.ret hframe, ?_, congrArg State.smc hframe, fun h => ?_, ?_⟩
    · rw [← hcur]
      exact hcurrent
    · refine (State.alarmRaised_congr ?_).trans (hcleared (by rw [hsmc]; exact h))
      exact State.alarm_eq_of_alarms_eq halarm _
    · show { t with reply := some Reply.justOk } = { s with
        ret := t.ret, bankA := t.bankA, bankB := t.bankB, current := t.current, smc := t.smc
        alarms := t.alarms, flags := t.flags, reply := some Reply.justOk }
      rw [hframe]
  · have hf : takeSamplerEnable x s = (s, .justOk) := by
      cases x <;> simp only [takeSamplerEnable, hx]
    exact exec_of_request_settled hr rfl hf hr.2.2
  · have hf : takeSamplerEnable .on s = (s.enableSampler, .justOk) := by
      simp only [takeSamplerEnable, hoff]
    have hchanged : s.enableSampler.ret ≠ s.enableSampler.currentBank.content := by
      intro h
      have henable : Switch.on = s.ret.enable := congrArg Retained.enable (h.trans hr.2.2.symm)
      rw [hoff] at henable
      cases henable
    rw [exec_of_request_answer hr rfl hf, State.settle_of_changed hchanged]
    rfl
  · have hf : takeSamplerEnable .off s = (s.disableSampler, .justOk) := by
      simp only [takeSamplerEnable, hon]
    obtain ⟨hsettled, hret, hsmc, halarm, hframe⟩ := s.disableSampler_spec
    refine ⟨_, exec_of_request_answer hr rfl hf, hsettled, rfl, by rw [hret], by rw [hret], hsmc, fun hq hm => halarm hq hm, ?_⟩
    generalize s.disableSampler.settle = t at *
    show { t with reply := some Reply.justOk } = { s with
      ret := t.ret, bankA := t.bankA, bankB := t.bankB, current := t.current, smc := t.smc
      archive := t.archive, write := t.write, erase := t.erase, alarms := t.alarms, flags := t.flags
      reply := some Reply.justOk }
    rw [hframe]
  · let s1 : State := { s with
      now := max s.now (u + 500000)
      smc := s.smc.setFullInput c ⟨(s.smc.fullInput c).raw, (s.smc.fullInput c).raw, none⟩ }
    have hf : canfullAccept c s = if (s.smc.fullInput c).raw then s1 else s1.leaveHalt := by
      simp only [canfullAccept, hu]
      cases c <;> rfl
    have hstate : s1.smc.state = s.smc.state := by cases c <;> rfl
    have hmoved := State.alarmsMoved_leaveHalt (s := s1)
    have hsettled : (canfullAccept c s).Settled := by
      rw [hf]
      split
      · exact hset
      · rw [hmoved.frame]
        exact hset
    have hexec := exec_of_event_settled hrun (c := .canfullChange c) rfl hsettled
    by_cases hleaves : s.smc.state = .halted ∧ (s.smc.fullInput c).raw = false
    · obtain ⟨hhalted, hraw⟩ := hleaves
      have hleave := hf.trans (if_neg (by simp [hraw]))
      rw [State.leaveHalt_of_halted (hstate.trans hhalted)] at hleave
      let s2 : State := { s1 with smc := { s1.smc with state := .ready, haltedCan := none } }
      have hclear : s2.AlarmsMoved [.station .samplerHalted] (s2.clearAlarm (.station .samplerHalted)) :=
        s2.alarmsMoved_moveAlarm _ _
      have hraised : (s2.clearAlarm (.station .samplerHalted)).alarmRaised (.station .samplerHalted) = false :=
        State.alarmRaised_setAlarm s2 (.station .samplerHalted) false
      refine ⟨_, hexec, fun _ _ => ?_, fun hnot => ?_, ?_⟩
      · rw [hleave]
        refine ⟨?_, hraised, fun a ha => hclear.other a (by simpa using ha), fun heq => ?_, fun hne => ?_⟩
        · refine (congrArg State.smc hclear.frame).trans ?_
          simp only [s2, s1, hraw]
        · have hsame : s2.clearAlarm (.station .samplerHalted) = s2 :=
            State.moveAlarm_of_alarm_eq (State.alarm_eq_of_alarms_eq heq _)
          exact (congrArg State.flags hsame).trans rfl
        · have hchanged := hclear.of_alarms_ne hne
          rw [← hchanged]
          exact hclear.flags
      · rcases hnot with h | h
        · exact absurd hhalted h
        · rw [hraw] at h
          cases h
      · have hsmc : (s2.clearAlarm (.station .samplerHalted)).smc = s2.smc := hclear.smc
        rw [hleave]
        refine hclear.frame.trans ?_
        rw [hsmc]
    · have hstays : canfullAccept c s = s1 := by
        rw [hf]
        split
        · rfl
        · next hraw => exact State.leaveHalt_of_not_halted fun h => hleaves ⟨hstate ▸ h, by simpa using hraw⟩
      refine ⟨_, hexec, fun h hraw => absurd ⟨h, hraw⟩ hleaves, fun _ => ?_, ?_⟩ <;> rw [hstays]
      exact ⟨rfl, rfl, rfl⟩

end Sys2Proof.Machine
end

section
/-! What trying a write, suspending and resuming an erase, and the reclaim test do (R173, R176, R177), and the completion
of an erase (R178). -/

namespace Sys2Proof.Machine

set_option Elab.async false

/-! ### Searches over the eight sectors and slots -/

theorem sector_mem_allEight (k : Sector) : k ∈ allEight := by revert k; decide

theorem find?_allEight {p : Sector → Bool} {i : Sector} (hi : p i = true) (hfirst : ∀ k : Sector, k < i → p k = false) :
    allEight.find? p = some i := by
  have helem : ∀ (m : Nat) (hm : m < 8), allEight[m]'hm = ⟨m, hm⟩ := by decide
  refine List.find?_eq_some_iff_getElem.mpr ⟨hi, i.val, i.isLt, helem _ _, fun m hm => ?_⟩
  have hm8 : m < 8 := hm.trans i.isLt
  exact (congrArg (fun k => !p k) (helem m hm8)).trans (by rw [hfirst ⟨m, hm8⟩ hm]; rfl)

theorem ringAfter_find? {p : Sector → Bool} {start : Sector} {n : Nat} (hn : n < 8)
    (hfound : p (start + 1 + Fin.ofNat 8 n) = true) (hfirst : ∀ m < n, p (start + 1 + Fin.ofNat 8 m) = false) :
    (ringAfter start).find? p = some (start + 1 + Fin.ofNat 8 n) := by
  have helem : ∀ (k : Sector) (m : Fin 8), (ringAfter k)[m.val]'m.isLt = k + 1 + Fin.ofNat 8 m.val := by decide
  refine List.find?_eq_some_iff_getElem.mpr ⟨hfound, n, hn, helem start ⟨n, hn⟩, fun m hm => ?_⟩
  exact (congrArg (fun k => !p k) (helem start ⟨m, hm.trans hn⟩)).trans (by rw [hfirst m hm]; rfl)

section Search

variable {a : Archive} {i j : Sector}

theorem ArchiveSector.emptySlot?_eq_none {x : ArchiveSector} :
    x.emptySlot? = none ↔ ∀ k : Sector, x.slots[k] ≠ .empty := by
  unfold ArchiveSector.emptySlot?
  rw [List.find?_eq_none]
  exact ⟨fun h k => by simpa using h k (sector_mem_allEight k), fun h k _ => by simpa using h k⟩

theorem Archive.openSlot?_of_opened (hstate : a.sectors[i].state = .opened)
    (halone : ∀ k : Sector, k ≠ i → a.sectors[k].state ≠ .opened) (hslot : a.slot (i, j) = .empty)
    (hlowest : ∀ k : Sector, k < j → a.slot (i, k) ≠ .empty) : a.openSlot? = some (i, j) := by
  have hfind : allEight.find? (fun i => decide (a.sectors[i].state = .opened)) = some i :=
    find?_allEight (decide_eq_true hstate) fun k hk => decide_eq_false (halone k hk.ne)
  have hempty : a.sectors[i].emptySlot? = some j :=
    find?_allEight (decide_eq_true hslot) fun k hk => decide_eq_false (hlowest k hk)
  simp only [Archive.openSlot?, hfind, hempty, Option.map_some]

theorem Archive.openSlot?_eq_none (h : ∀ k : Sector, a.sectors[k].state ≠ .opened) : a.openSlot? = none := by
  have hfind : allEight.find? (fun i => decide (a.sectors[i].state = .opened)) = none :=
    List.find?_eq_none.mpr fun k _ => by simpa using h k
  simp only [Archive.openSlot?, hfind]

theorem Archive.sectorToOpen?_eq_none (h : ∀ k : Sector, a.sectors[k].state ≠ .erased) : a.sectorToOpen? = none :=
  List.find?_eq_none.mpr fun k _ => by simpa using h k

end Search

/-! ### The archive in which a write starts (R173) -/

/-- The sector of a new write, with its slot WRITING: opened first where it was ERASED, and FULL with its last slot. -/
def ArchiveSector.writingIn (x : ArchiveSector) (j : Sector) (opens : Option Counter) : ArchiveSector :=
  let y := (match opens with
    | some n => { x with state := .opened, openNumber := some n }
    | none => x).setSlot j .writing
  if y.emptySlot?.isNone then { y with state := .full } else y

/-- The archive in which a write has started. -/
def Archive.writingIn (a : Archive) (i j : Sector) (opens : Bool) : Archive :=
  { a.modSector i (fun x => x.writingIn j (if opens then some a.openCounter else none)) with
    newest := i
    openCounter := (if opens then a.openCounter + 1 else a.openCounter) }

section Chosen

variable {a a' : Archive} {i j : Sector}

/-- A chosen slot is EMPTY in the OPEN sector, or slot 0 of an ERASED sector that opens. -/
theorem Archive.chooseSlot?_cases (h : a.chooseSlot? = some (a', i, j)) :
    ∃ opens : Bool, a'.beginWrite i j = a.writingIn i j opens
      ∧ (opens = false → a.sectors[i].state = .opened ∧ a.slot (i, j) = .empty)
      ∧ (opens = true → a.sectors[i].state = .erased) := by
  have hspec := (Archive.chooseSlot?_spec h).1
  unfold Archive.chooseSlot? at h
  split at h
  · next i₀ j₀ hopen =>
    obtain ⟨rfl, rfl, rfl⟩ : a = a' ∧ i₀ = i ∧ j₀ = j := by simpa using h
    refine ⟨false, rfl, fun _ => ?_, fun hf => by cases hf⟩
    unfold Archive.openSlot? at hopen
    split at hopen
    · cases hopen
    · next k hk =>
      obtain ⟨j', hj', hpair⟩ := Option.map_eq_some_iff.mp hopen
      obtain ⟨rfl, rfl⟩ := Prod.mk.inj hpair
      have hempty : a.sectors[k].slots[j'] = .empty := by simpa using List.find?_some hj'
      exact ⟨by simpa using List.find?_some hk, hempty⟩
  · split at h
    · next i₀ hfree =>
      obtain ⟨rfl, rfl, rfl⟩ : a.openSector i₀ = a' ∧ i₀ = i ∧ 0 = j := by simpa using h
      refine ⟨true, ?_, fun hf => (by cases hf), fun _ => by simpa using List.find?_some hfree⟩
      let y : ArchiveSector := { a.sectors[i₀] with state := .opened, openNumber := some a.openCounter }
      have hself : (a.sectors.set i₀ y)[i₀] = y := Vector.getElem_set_self _
      have hset (z : ArchiveSector) : (a.sectors.set i₀ y).set i₀ z = a.sectors.set i₀ z := Vector.set_set ..
      have hbegin : (a.openSector i₀).beginWrite i₀ 0 = { a with
          sectors := (a.sectors.set i₀ y).set i₀ ((a.sectors.set i₀ y)[i₀].writingIn 0 none)
          newest := i₀, openCounter := a.openCounter + 1 } := rfl
      rw [hbegin, hself, hset]
      rfl
    · cases h

theorem Archive.writingIn_sectors_same (opens : Bool) :
    (a.writingIn i j opens).sectors[i] = a.sectors[i].writingIn j (if opens then some a.openCounter else none) :=
  Archive.modSector_sectors_same

theorem Archive.writingIn_sectors_other {opens : Bool} {k : Sector} (h : i ≠ k) :
    (a.writingIn i j opens).sectors[k] = a.sectors[k] := Archive.modSector_sectors_other h

theorem ArchiveSector.writingIn_slots (x : ArchiveSector) (opens : Option Counter) :
    (x.writingIn j opens).slots = x.slots.set j .writing := by
  unfold ArchiveSector.writingIn
  cases opens <;> (dsimp only; split <;> rfl)

theorem ArchiveSector.writingIn_openNumber (x : ArchiveSector) (opens : Option Counter) :
    (x.writingIn j opens).openNumber = (match opens with | some n => some n | none => x.openNumber) := by
  unfold ArchiveSector.writingIn
  cases opens <;> (dsimp only; split <;> rfl)

/-- The sector of a new write is FULL exactly where no other slot of it is EMPTY. -/
theorem ArchiveSector.writingIn_state {x : ArchiveSector} {opens : Option Counter}
    (hopened : opens = none → x.state = .opened) :
    ((∀ k : Sector, k ≠ j → x.slots[k] ≠ .empty) → (x.writingIn j opens).state = .full)
      ∧ (∀ k : Sector, k ≠ j → x.slots[k] = .empty → (x.writingIn j opens).state = .opened) := by
  have hsame : (x.slots.set j .writing)[j] = .writing := Vector.getElem_set_self _
  have hother (k : Sector) (hk : k ≠ j) : (x.slots.set j .writing)[k] = x.slots[k] :=
    Vector.getElem_set_ne _ _ fun h => hk (Fin.ext h.symm)
  let y := (match opens with
    | some n => { x with state := .opened, openNumber := some n }
    | none => x).setSlot j .writing
  have hy : y.slots = x.slots.set j .writing := by
    simp only [y]
    cases opens <;> rfl
  have hstate : y.state = .opened := by
    simp only [y]
    cases opens with
    | none => exact hopened rfl
    | some n => rfl
  have hwriting : x.writingIn j opens = if y.emptySlot?.isNone then { y with state := .full } else y := rfl
  refine ⟨fun hfull => ?_, fun k hk hempty => ?_⟩
  · have hnone : y.emptySlot? = none := ArchiveSector.emptySlot?_eq_none.mpr fun k => by
      rw [hy]
      by_cases hk : k = j
      · subst hk
        rw [hsame]
        decide
      · rw [hother k hk]
        exact hfull k hk
    rw [hwriting, hnone]
    rfl
  · have hsome : ¬ y.emptySlot?.isNone = true := by
      rw [Option.isNone_iff_eq_none, ArchiveSector.emptySlot?_eq_none]
      intro hnot
      refine hnot k ?_
      rw [hy, hother k hk]
      exact hempty
    rw [hwriting, if_neg hsome]
    exact hstate

theorem Archive.writingIn_slot (opens : Bool) :
    (a.writingIn i j opens).slot (i, j) = .writing
      ∧ ∀ kl : Sector × Sector, kl ≠ (i, j) → (a.writingIn i j opens).slot kl = a.slot kl := by
  refine ⟨?_, fun kl hkl => ?_⟩
  · show (a.writingIn i j opens).sectors[i].slots[j] = _
    rw [Archive.writingIn_sectors_same, ArchiveSector.writingIn_slots]
    exact Vector.getElem_set_self _
  · obtain ⟨k, l⟩ := kl
    show (a.writingIn i j opens).sectors[k].slots[l] = a.sectors[k].slots[l]
    by_cases hk : i = k
    · subst hk
      rw [Archive.writingIn_sectors_same, ArchiveSector.writingIn_slots]
      exact Vector.getElem_set_ne _ _ fun h => hkl (by rw [Fin.ext h])
    · rw [Archive.writingIn_sectors_other hk]

end Chosen

/-! ### Suspending and resuming an erase (R177) -/

section Suspend

variable (s : State)

/-- What the start of a write leaves of the erase in progress. -/
structure State.EraseSuspended (s t : State) : Prop where
  archive : t.archive = { s.archive with sectors := t.archive.sectors }
  slot : ∀ kl : Sector × Sector, t.archive.slot kl = s.archive.slot kl
  sector : ∀ k : Sector, (∀ e : EraseInProgress, s.erase = some e → e.sector ≠ k) →
    t.archive.sectors[k] = s.archive.sectors[k]
  noErase : s.erase = none → t.erase = none
  inErase : ∀ e : EraseInProgress, s.erase = some e →
    (e.Matches s.archive → t.archive.sectors[e.sector].state = .eraseSuspended)
      ∧ (e.since = none → t.erase = some e ∧ t.archive = s.archive)
      ∧ ∀ u : Moment, e.since = some u → t.erase = some ⟨e.sector, e.remaining - (s.now - u), none⟩
  frame : t = { s with archive := t.archive, erase := t.erase }

theorem State.suspendErase_suspended : State.EraseSuspended s s.suspendErase := by
  unfold State.suspendErase
  split
  · next hnone =>
    exact ⟨rfl, fun _ => rfl, fun _ _ => rfl, fun _ => hnone, fun e he => (by rw [hnone] at he; cases he), rfl⟩
  · next e he =>
    have hthe (e' : EraseInProgress) (h : s.erase = some e') : e' = e := Option.some.inj (h.symm.trans he)
    split
    · next hsince =>
      refine ⟨rfl, fun _ => rfl, fun _ _ => rfl, fun h => h, fun e' he' => ?_, rfl⟩
      obtain rfl := hthe e' he'
      refine ⟨fun hmatch => ?_, fun _ => ⟨he', rfl⟩, fun u hu => by rw [hsince] at hu; cases hu⟩
      rw [hmatch, hsince]
      rfl
    · next t hsince =>
      refine ⟨rfl, fun ⟨k, l⟩ => ?_, fun k hk => Archive.modSector_sectors_other (hk e he),
        fun h => (by rw [he] at h; cases h), fun e' he' => ?_, rfl⟩
      · show ((s.archive.modSector e.sector _).sectors[k]).slots[l] = s.archive.sectors[k].slots[l]
        by_cases hk : e.sector = k
        · subst hk
          rw [Archive.modSector_sectors_same]
        · rw [Archive.modSector_sectors_other hk]
      · obtain rfl := hthe e' he'
        refine ⟨fun _ => congrArg ArchiveSector.state Archive.modSector_sectors_same,
          fun h => (by rw [hsince] at h; cases h), fun u hu => ?_⟩
        obtain rfl := Option.some.inj (hsince.symm.trans hu)
        rfl

theorem State.resumeErase_of_suspended {e : EraseInProgress} (hwrite : s.write = none) (he : s.erase = some e)
    (hsince : e.since = none) :
    s.resumeErase = { s with
      erase := some { e with since := some s.now }
      archive := { s.archive with
        sectors := s.archive.sectors.set e.sector { s.archive.sectors[e.sector] with state := .erasing } } } := by
  have hresume : s.resumeErase = { s.modArchive (fun a =>
      a.modSector e.sector (fun x => { x with state := .erasing })) with erase := some { e with since := some s.now } } := by
    simp only [State.resumeErase, hwrite, he, hsince]
  exact hresume

theorem State.resumeErase_of_not_suspended
    (h : s.write ≠ none ∨ ∀ e : EraseInProgress, s.erase = some e → e.since ≠ none) : s.resumeErase = s := by
  unfold State.resumeErase
  split
  · next e hwrite he =>
    split
    · rfl
    · next hsince =>
      rcases h with h | h
      · exact absurd hwrite h
      · exact absurd hsince (h e he)
  · rfl
  · rfl

end Suspend

/-- The move of one alarm depends on the alarms and the clock alone. -/
theorem State.alarm_moveAlarm_congr {s u : State} (halarms : u.alarms = s.alarms) (hclock : u.clock = s.clock) (a : AlarmId)
    (f : AlarmState → AlarmState) : (u.moveAlarm a f).alarm a = (s.moveAlarm a f).alarm a := by
  have hsame : u.alarm a = s.alarm a := State.alarm_eq_of_alarms_eq halarms a
  unfold State.moveAlarm
  rw [hsame]
  split
  · exact hsame
  · simp only [State.alarm, halarms, hclock]

/-! ### Trying a write (R173) -/

section TryWrite

variable {s : State} {p : PendingTicket} {ps : List PendingTicket} {a : Archive} {i j : Sector}

theorem State.tryStartWrite_eq_self
    (h : s.ret.pendingTickets = [] ∨ s.write ≠ none ∨ s.ret.pendingTickets.head?.any PendingTicket.writing = true) :
    s.tryStartWrite = s := by
  unfold State.tryStartWrite
  split
  · next p ps hps hwrite =>
    rcases h with h | h | h
    · rw [hps] at h
      cases h
    · exact absurd hwrite h
    · rw [hps] at h
      exact if_pos h
  · rfl
  · rfl

theorem State.tryStartWrite_of_queued (hps : s.ret.pendingTickets = p :: ps) (hp : p.writing = false)
    (hwrite : s.write = none) :
    s.tryStartWrite = match s.archive.chooseSlot? with
      | some (a, i, j) => s.startWrite a i j
      | none => s.raiseAlarm (.station .archiveFull) := by
  unfold State.tryStartWrite
  rw [hps, hwrite]
  dsimp only
  rw [hp, if_neg (by decide)] <;> rfl

/-- What the start of a write leaves (R173, R177). -/
structure State.WriteStarted (s t : State) (p : PendingTicket) (ps : List PendingTicket) (i j : Sector) (opens : Bool) :
    Prop where
  write : t.write = some ⟨i, j⟩
  ret : t.ret = { s.ret with pendingTickets := ⟨p.ticket, true⟩ :: ps }
  archive : t.archive = { s.archive with
    sectors := t.archive.sectors, newest := i
    openCounter := (if opens then s.archive.openCounter + 1 else s.archive.openCounter) }
  slot : t.archive.slot (i, j) = .writing
  slots : ∀ kl : Sector × Sector, kl ≠ (i, j) → t.archive.slot kl = s.archive.slot kl
  sector : (∀ e : EraseInProgress, s.erase = some e → e.sector ≠ i) →
    t.archive.sectors[i] = s.archive.sectors[i].writingIn j (if opens then some s.archive.openCounter else none)
  noErase : s.erase = none → t.erase = none
  inErase : ∀ e : EraseInProgress, s.erase = some e → e.sector ≠ i →
    (e.Matches s.archive → t.archive.sectors[e.sector].state = .eraseSuspended)
      ∧ (e.since = none → t.erase = some e)
      ∧ ∀ u : Moment, e.since = some u → t.erase = some ⟨e.sector, e.remaining - (s.now - u), none⟩
  sectors : ∀ k : Sector, k ≠ i → (∀ e : EraseInProgress, s.erase = some e → e.sector ≠ k) →
    t.archive.sectors[k] = s.archive.sectors[k]
  alarm : t.alarm (.station .archiveFull) = (s.clearAlarm (.station .archiveFull)).alarm (.station .archiveFull)
  cleared : t.alarmRaised (.station .archiveFull) = false
  other : ∀ b : AlarmId, b ≠ .station .archiveFull → t.alarm b = s.alarm b
  frame : t = { s with
    ret := t.ret, archive := t.archive, write := t.write, erase := t.erase, alarms := t.alarms, flags := t.flags }

theorem State.startWrite_started {opens : Bool} (hps : s.ret.pendingTickets = p :: ps)
    (hbegin : a.beginWrite i j = s.archive.writingIn i j opens) :
    State.WriteStarted s (s.startWrite a i j) p ps i j opens := by
  let u : State := { s with
    archive := s.archive.writingIn i j opens
    write := some ⟨i, j⟩
    ret := { s.ret with pendingTickets := ⟨p.ticket, true⟩ :: ps } }
  have hstart : s.startWrite a i j = (u.clearAlarm (.station .archiveFull)).suspendErase := by
    simp only [State.startWrite, hbegin, hps]
    rfl
  have hmoved : u.AlarmsMoved [.station .archiveFull] (u.clearAlarm (.station .archiveFull)) :=
    u.alarmsMoved_moveAlarm _ _
  have hcleared : (u.clearAlarm (.station .archiveFull)).alarmRaised (.station .archiveFull) = false :=
    State.alarmRaised_setAlarm u (.station .archiveFull) false
  have hsame : (u.clearAlarm (.station .archiveFull)).alarm (.station .archiveFull)
      = (s.clearAlarm (.station .archiveFull)).alarm (.station .archiveFull) := by
    exact State.alarm_moveAlarm_congr (s := s) (u := u) rfl rfl _ _
  have hsuspend := (u.clearAlarm (.station .archiveFull)).suspendErase_suspended
  have hframe := hmoved.frame
  rw [hstart]
  generalize u.clearAlarm (.station .archiveFull) = v at *
  generalize v.suspendErase = t at *
  have hv : v.archive = s.archive.writingIn i j opens ∧ v.erase = s.erase ∧ v.now = s.now := by
    rw [hframe]
    exact ⟨rfl, rfl, rfl⟩
  obtain ⟨harchive, herase, hnow⟩ := hv
  have halarm (b : AlarmId) : t.alarm b = v.alarm b := State.alarm_eq_of_alarms_eq (by rw [hsuspend.frame]) b
  obtain ⟨hwriting, hslots⟩ := Archive.writingIn_slot (a := s.archive) (i := i) (j := j) opens
  exact {
    write := by rw [hsuspend.frame, hframe]
    ret := by rw [hsuspend.frame, hframe]
    archive := by
      rw [hsuspend.archive, harchive]
      rfl
    slot := by rw [hsuspend.slot, harchive, hwriting]
    slots := fun kl hkl => by rw [hsuspend.slot, harchive, hslots kl hkl]
    sector := fun he => by
      rw [hsuspend.sector i (by rw [herase]; exact he), harchive, Archive.writingIn_sectors_same]
    noErase := fun he => hsuspend.noErase (herase.trans he)
    inErase := fun e he hne => by
      obtain ⟨hstate, hstays, hruns⟩ := hsuspend.inErase e (herase.trans he)
      refine ⟨fun hmatch => hstate ?_, fun h => (hstays h).1, fun u hu => by rw [hruns u hu, hnow]⟩
      rw [EraseInProgress.Matches, harchive, Archive.writingIn_sectors_other (Ne.symm hne)]
      exact hmatch
    sectors := fun k hk he => by
      rw [hsuspend.sector k (by rw [herase]; exact he), harchive, Archive.writingIn_sectors_other (Ne.symm hk)]
    alarm := (halarm _).trans hsame
    cleared := (State.alarmRaised_congr (halarm _)).trans hcleared
    other := fun b hb => (halarm b).trans (hmoved.other b (by simpa using hb))
    frame := by rw [hsuspend.frame, hframe] }

end TryWrite

/-! ### Reclaim (R176) -/

section Reclaim

variable {a : Archive} {i : Sector}

/-- The fold of the search for the oldest FULL sector: it keeps the one opened before every other. -/
def Archive.older (a : Archive) (best : Option Sector) (i : Sector) : Option Sector :=
  match best with
  | none => some i
  | some j => if a.openedBefore i j then some i else some j

theorem Archive.oldestFull?_eq :
    a.oldestFull? = (allEight.filter (fun i => decide (a.sectors[i].state = .full))).foldl a.older none := rfl

theorem Archive.foldl_older_mem {l : List Sector} {best : Option Sector} {k : Sector}
    (h : l.foldl a.older best = some k) : k ∈ l ∨ best = some k := by
  induction l generalizing best with
  | nil => exact .inr h
  | cons x xs ih =>
    rcases ih h with hmem | hbest
    · exact .inl (List.mem_cons_of_mem x hmem)
    · unfold Archive.older at hbest
      split at hbest
      · exact .inl (by simp [Option.some.inj hbest])
      · split at hbest
        · exact .inl (by simp [Option.some.inj hbest])
        · exact .inr hbest

theorem Archive.oldestFull?_full (h : a.oldestFull? = some i) : a.sectors[i].state = .full := by
  rcases Archive.foldl_older_mem (a.oldestFull?_eq ▸ h) with hmem | hnone
  · simpa using (List.mem_filter.mp hmem).2
  · cases hnone

theorem Archive.oldestFull?_eq_none (h : ∀ k : Sector, a.sectors[k].state ≠ .full) : a.oldestFull? = none := by
  have hfilter : allEight.filter (fun i => decide (a.sectors[i].state = .full)) = [] :=
    List.filter_eq_nil_iff.mpr fun k _ => by simpa using h k
  rw [Archive.oldestFull?_eq, hfilter]
  rfl

theorem Archive.openedBefore_self : a.openedBefore i i = false := by
  unfold Archive.openedBefore
  split
  · next m n hm hn =>
    obtain rfl := Option.some.inj (hm.symm.trans hn)
    simp
  · rfl
  · rfl

theorem Archive.foldl_older_eq {l : List Sector} {best : Option Sector}
    (hall : ∀ k ∈ l, k ≠ i → a.openedBefore i k = true ∧ a.openedBefore k i = false)
    (hbest : best = some i ∨ i ∈ l ∧ ∀ b : Sector, best = some b → a.openedBefore i b = true) :
    l.foldl a.older best = some i := by
  induction l generalizing best with
  | nil => exact hbest.elim id fun h => absurd h.1 (by simp)
  | cons x xs ih =>
    have hall' : ∀ k ∈ xs, k ≠ i → a.openedBefore i k = true ∧ a.openedBefore k i = false :=
      fun k hk => hall k (List.mem_cons_of_mem x hk)
    refine ih hall' ?_
    rcases hbest with rfl | ⟨hi, hb⟩
    · left
      have hnot : a.openedBefore x i = false := by
        by_cases hx : x = i
        · rw [hx]
          exact Archive.openedBefore_self
        · exact (hall x (by simp) hx).2
      simp [Archive.older, hnot]
    · rcases List.mem_cons.mp hi with rfl | hmem
      · left
        cases best with
        | none => rfl
        | some b => simp [Archive.older, hb b rfl]
      · by_cases hx : x = i
        · left
          subst hx
          cases best with
          | none => rfl
          | some b => simp [Archive.older, hb b rfl]
        · refine .inr ⟨hmem, fun b hb' => ?_⟩
          have hbefore := (hall x (by simp) hx).1
          cases best with
          | none =>
            obtain rfl := Option.some.inj hb'
            exact hbefore
          | some c =>
            unfold Archive.older at hb'
            dsimp only at hb'
            split at hb'
            · obtain rfl := Option.some.inj hb'
              exact hbefore
            · exact hb b hb'

theorem openedBefore_of_later {m n : Counter} {k : Sector} (hi : a.sectors[i].openNumber = some m)
    (hk : a.sectors[k].openNumber = some n) (hne : n ≠ m) (hlater : atOrAfter n m = true) :
    a.openedBefore i k = true ∧ a.openedBefore k i = false := by
  have hback : atOrAfter m n = false := by
    unfold atOrAfter at *
    rw [decide_eq_true_iff] at hlater
    rw [decide_eq_false_iff_not]
    have hpos : n.toNat ≠ m.toNat := fun h => hne (BitVec.eq_of_toNat_eq h)
    bv_omega
  simp only [Archive.openedBefore, hi, hk, hlater, hback, Bool.and_true, Bool.and_false, decide_eq_true_eq, and_true]
  exact Ne.symm hne

theorem Archive.oldestFull?_of_oldest {m : Counter} (hfull : a.sectors[i].state = .full)
    (hopened : a.sectors[i].openNumber = some m)
    (hlater : ∀ k : Sector, k ≠ i → a.sectors[k].state = .full →
      ∃ n : Counter, a.sectors[k].openNumber = some n ∧ n ≠ m ∧ atOrAfter n m = true) :
    a.oldestFull? = some i := by
  refine Archive.foldl_older_eq (fun k hk hne => ?_) (.inr ⟨?_, fun b hb => by cases hb⟩)
  · obtain ⟨n, hn, hnm, hnl⟩ := hlater k hne (by simpa using (List.mem_filter.mp hk).2)
    exact openedBefore_of_later hopened hn hnm hnl
  · exact List.mem_filter.mpr ⟨sector_mem_allEight i, decide_eq_true hfull⟩

variable {s : State}

theorem State.testReclaim_of_none (h : s.archive.oldestFull? = none) : s.testReclaim = s := by
  simp only [State.testReclaim, h]

/-- The machine with the erase of a sector begun. -/
def State.reclaiming (s : State) (i : Sector) : State :=
  { s with
    erase := some ⟨i, 15000000, some s.now⟩
    archive := { s.archive with
      sectors := s.archive.sectors.set i { s.archive.sectors[i] with state := .erasing } } }

/-- The reclaim test of the oldest FULL sector. -/
theorem State.testReclaim_of_oldest (h : s.archive.oldestFull? = some i) :
    ((s.erase = none ∧ s.write = none ∧ s.archive.erasedCount < 2
        ∧ ∀ j : Sector, (s.archive.slot (i, j)).released = true) → s.testReclaim = s.reclaiming i)
      ∧ (¬ (s.erase = none ∧ s.write = none ∧ s.archive.erasedCount < 2
        ∧ ∀ j : Sector, (s.archive.slot (i, j)).released = true) → s.testReclaim = s) := by
  have hslots : s.archive.sectors[i].slots.toList.all SlotState.released = true
      ↔ ∀ j : Sector, (s.archive.slot (i, j)).released = true := by
    rw [List.all_eq_true]
    refine ⟨fun hall j => hall _ (by simp [Archive.slot]), fun hall x hx => ?_⟩
    obtain ⟨j, hj, rfl⟩ := List.mem_iff_getElem.mp hx
    have hj8 : j < 8 := by simpa using hj
    simpa [Archive.slot] using hall ⟨j, hj8⟩
  have hif : s.testReclaim = if s.erase.isNone && s.write.isNone && decide (s.archive.erasedCount < 2)
      && s.archive.sectors[i].slots.toList.all SlotState.released then s.reclaiming i else s := by
    simp only [State.testReclaim, h]
    rfl
  have hcond : (s.erase.isNone && s.write.isNone && decide (s.archive.erasedCount < 2)
      && s.archive.sectors[i].slots.toList.all SlotState.released) = true
      ↔ s.erase = none ∧ s.write = none ∧ s.archive.erasedCount < 2
        ∧ ∀ j : Sector, (s.archive.slot (i, j)).released = true := by
    rw [Bool.and_eq_true, Bool.and_eq_true, Bool.and_eq_true, Option.isNone_iff_eq_none, Option.isNone_iff_eq_none,
      decide_eq_true_iff, hslots, and_assoc, and_assoc]
  exact ⟨fun hc => hif.trans (if_pos (hcond.mpr hc)), fun hc => hif.trans (if_neg (mt hcond.mp hc))⟩

/-- The reclaim test starts one erase, under every condition of R176, or does nothing. -/
theorem State.testReclaim_cases (s : State) :
    s.testReclaim = s ∨ ∃ i : Sector, s.testReclaim = s.reclaiming i ∧ s.archive.sectors[i].state = .full
      ∧ s.erase = none ∧ s.write = none ∧ s.archive.erasedCount < 2
      ∧ ∀ j : Sector, (s.archive.slot (i, j)).released = true := by
  cases h : s.archive.oldestFull? with
  | none => exact .inl (State.testReclaim_of_none h)
  | some i =>
    obtain ⟨hstarts, hstays⟩ := State.testReclaim_of_oldest h
    by_cases hc : s.erase = none ∧ s.write = none ∧ s.archive.erasedCount < 2
        ∧ ∀ j : Sector, (s.archive.slot (i, j)).released = true
    · exact .inr ⟨i, hstarts hc, Archive.oldestFull?_full h, hc⟩
    · exact .inl (hstays hc)

theorem State.testReclaim_eq_self (h : s.erase ≠ none ∨ s.write ≠ none ∨ 2 ≤ s.archive.erasedCount
    ∨ ∀ i : Sector, s.archive.sectors[i].state ≠ .full) : s.testReclaim = s := by
  rcases s.testReclaim_cases with hself | ⟨i, -, hfull, herase, hwrite, hcount, -⟩
  · exact hself
  · rcases h with h | h | h | h
    · exact absurd herase h
    · exact absurd hwrite h
    · omega
    · exact absurd hfull (h i)

theorem State.testReclaim_slot (s : State) (kl : Sector × Sector) :
    s.testReclaim.archive.slot kl = s.archive.slot kl := by
  rcases s.testReclaim_cases with hself | ⟨i, hstart, -⟩
  · rw [hself]
  · rw [hstart]
    obtain ⟨k, l⟩ := kl
    let y : ArchiveSector := { s.archive.sectors[i] with state := .erasing }
    show (s.archive.sectors.set i y)[k].slots[l] = s.archive.sectors[k].slots[l]
    by_cases hk : i = k
    · subst hk
      have hself : (s.archive.sectors.set i y)[i] = y := Vector.getElem_set_self _
      rw [hself]
    · have hother : (s.archive.sectors.set i y)[k] = s.archive.sectors[k] :=
        Vector.getElem_set_ne _ _ fun h => hk (Fin.ext h)
      rw [hother]

end Reclaim

/-- The three operations of O55 that are not an event of their own: trying a write. -/
theorem State.tryStartWrite_spec (s : State) :
    ((s.ret.pendingTickets = [] ∨ s.write ≠ none ∨ s.ret.pendingTickets.head?.any PendingTicket.writing = true) →
        s.tryStartWrite = s)
      ∧ ∀ (p : PendingTicket) (ps : List PendingTicket), s.ret.pendingTickets = p :: ps → p.writing = false →
        s.write = none →
        ((∀ i : Sector, s.archive.sectors[i].state ≠ .opened ∧ s.archive.sectors[i].state ≠ .erased) →
          s.tryStartWrite = s.raiseAlarm (.station .archiveFull))
        ∧ ∀ (i j : Sector) (opens : Bool),
          (opens = false ∧ s.archive.sectors[i].state = .opened
              ∧ (∀ k : Sector, k ≠ i → s.archive.sectors[k].state ≠ .opened)
              ∧ s.archive.slot (i, j) = .empty ∧ (∀ k : Sector, k < j → s.archive.slot (i, k) ≠ .empty)
            ∨ opens = true ∧ j = 0 ∧ s.archive.sectors[i].state = .erased
              ∧ (∀ k : Sector, s.archive.sectors[k].state ≠ .opened)
              ∧ ∃ n : Nat, n < 8 ∧ i = s.archive.newest + 1 + Fin.ofNat 8 n
                ∧ ∀ m : Nat, m < n → s.archive.sectors[s.archive.newest + 1 + Fin.ofNat 8 m].state ≠ .erased) →
          State.WriteStarted s s.tryStartWrite p ps i j opens := by
  refine ⟨State.tryStartWrite_eq_self, fun p ps hps hp hwrite => ⟨fun hnone => ?_, fun i j opens hslot => ?_⟩⟩
  · have hchoose : s.archive.chooseSlot? = none := by
      simp only [Archive.chooseSlot?, Archive.openSlot?_eq_none fun k => (hnone k).1,
        Archive.sectorToOpen?_eq_none fun k => (hnone k).2]
    simp only [State.tryStartWrite_of_queued hps hp hwrite, hchoose]
  · obtain ⟨a, hchoose⟩ : ∃ a, s.archive.chooseSlot? = some (a, i, j) := by
      rcases hslot with ⟨-, hstate, halone, hempty, hlowest⟩ | ⟨-, rfl, hstate, hclosed, n, hn, rfl, hfirst⟩
      · exact ⟨s.archive, by simp only [Archive.chooseSlot?, Archive.openSlot?_of_opened hstate halone hempty hlowest]⟩
      · have hfind : s.archive.sectorToOpen? = some (s.archive.newest + 1 + Fin.ofNat 8 n) :=
          ringAfter_find? hn (decide_eq_true hstate) fun m hm => decide_eq_false (hfirst m hm)
        exact ⟨s.archive.openSector (s.archive.newest + 1 + Fin.ofNat 8 n), by
          simp only [Archive.chooseSlot?, Archive.openSlot?_eq_none hclosed, hfind]⟩
    obtain ⟨opens', hbegin, hopen, hfree⟩ := Archive.chooseSlot?_cases hchoose
    have hsame : opens' = opens := by
      cases opens' with
      | false =>
        obtain ⟨hstate, -⟩ := hopen rfl
        rcases hslot with ⟨rfl, -⟩ | ⟨-, -, herased, -⟩
        · rfl
        · rw [hstate] at herased
          cases herased
      | true =>
        have herased := hfree rfl
        rcases hslot with ⟨-, hstate, -⟩ | ⟨rfl, -⟩
        · rw [hstate] at herased
          cases herased
        · rfl
    subst hsame
    have hstarted := State.startWrite_started (s := s) hps hbegin
    have htry : s.tryStartWrite = s.startWrite a i j := by
      simp only [State.tryStartWrite_of_queued hps hp hwrite, hchoose]
    rw [htry]
    exact hstarted

/-- A write that starts where no erase is in progress leaves none. -/
theorem State.tryStartWrite_erase_none {s : State} (h : s.erase = none) : s.tryStartWrite.erase = none := by
  unfold State.tryStartWrite
  split
  · split
    · exact h
    · split
      · next hchoose =>
        obtain ⟨opens, hbegin, -⟩ := Archive.chooseSlot?_cases hchoose
        exact (State.startWrite_started (s := s) (by assumption) hbegin).noErase h
      · exact (congrArg State.erase (s.alarmsMoved_moveAlarm (.station .archiveFull) .raised).frame).trans h
  · exact h
  · exact h

/-- Settles O55: the completion of an erase, and the three operations that other events end with. -/
theorem eraseCompletionEmptiesTheSector : Obligations.EraseCompletionEmptiesTheSector := by
  refine ⟨fun s e u hrun he hu => ?_, fun s => ⟨s.tryStartWrite_spec.1, fun p ps hps hp hwrite => ?_⟩,
    fun s => ⟨fun e hwrite he hsince => s.resumeErase_of_suspended hwrite he hsince,
      s.resumeErase_of_not_suspended⟩, fun s => ⟨State.testReclaim_eq_self, fun i m hfull hopened hlater => ?_,
      fun k j hchanged => ?_⟩⟩
  · let erased : State := { s with
      now := max s.now (u + e.remaining)
      archive := { s.archive with
        sectors := s.archive.sectors.set e.sector ⟨.erased, none, Vector.replicate 8 .empty⟩ }
      erase := none }
    have hf : eraseCompletion s = erased.tryStartWrite.testReclaim := by
      simp only [eraseCompletion, he, hu]
      rfl
    have hnone : erased.tryStartWrite.erase = none := State.tryStartWrite_erase_none rfl
    have hsettle : erased.tryStartWrite.testReclaim.settle.erase = erased.tryStartWrite.testReclaim.erase := by
      rw [State.settle_eq_with]
    refine ⟨erased, _, (exec_of_event hrun rfl).trans (by rw [hf]), rfl, rfl, fun herase => ?_, fun herase => ?_⟩ <;>
      rw [hsettle] at herase <;>
      rcases erased.tryStartWrite.testReclaim_cases with hself | ⟨i, -, -, -, hwrite, hcount, -⟩
    · rw [hself] at herase
      exact absurd hnone herase
    · exact .inr hwrite
    · rw [hself] at herase
      exact absurd hnone herase
    · exact hcount
  · obtain ⟨hnone, hsome⟩ := s.tryStartWrite_spec.2 p ps hps hp hwrite
    refine ⟨hnone, fun i j opens hmatches hslot => ?_⟩
    have hstarted := hsome i j opens hslot
    have hdiff (e : EraseInProgress) (he : s.erase = some e) : e.sector ≠ i := by
      rintro rfl
      have hstate : s.archive.sectors[e.sector].state
        = (if e.since.isSome then SectorState.erasing else SectorState.eraseSuspended) := hmatches e he
      rcases hslot with ⟨-, h, -⟩ | ⟨-, -, h, -⟩ <;> (rw [h] at hstate; split at hstate <;> cases hstate)
    have hsector := hstarted.sector hdiff
    have hopened : (if opens then some s.archive.openCounter else none) = none → s.archive.sectors[i].state = .opened := by
      intro hnot
      rcases hslot with ⟨-, h, -⟩ | ⟨rfl, -⟩
      · exact h
      · cases hnot
    obtain ⟨hfull, hmore⟩ := ArchiveSector.writingIn_state (j := j) hopened
    refine ⟨_, rfl, hstarted.write, hstarted.ret, hstarted.archive, hstarted.slot, hstarted.slots, ?_, fun h => ?_,
      fun k hk h => ?_, hstarted.noErase, fun e he => ?_, hstarted.sectors, hstarted.alarm, hstarted.cleared,
      hstarted.other, hstarted.frame⟩
    · rw [hsector, ArchiveSector.writingIn_openNumber]
      cases opens <;> rfl
    · rw [hsector]
      exact hfull h
    · rw [hsector]
      exact hmore k hk h
    · obtain ⟨hstate, hstays, hruns⟩ := hstarted.inErase e he (hdiff e he)
      exact ⟨hdiff e he, hstate (hmatches e he), hstays, hruns⟩
  · obtain ⟨hstarts, hstays⟩ := State.testReclaim_of_oldest (Archive.oldestFull?_of_oldest hfull hopened hlater)
    refine ⟨fun ⟨j, hj⟩ => hstays fun ⟨_, _, _, hall⟩ => ?_, fun herase hwrite hcount hall =>
      hstarts ⟨herase, hwrite, hcount, fun j => ?_⟩⟩
    · rw [hall j] at hj
      cases hj
    · rcases hall j with h | ⟨k, h⟩ <;> (rw [h]; rfl)
  · rcases s.testReclaim_cases with hself | ⟨i, hstart, hfull, -, -, -, hall⟩
    · rw [hself] at hchanged
      exact absurd rfl hchanged
    · let y : ArchiveSector := { s.archive.sectors[i] with state := .erasing }
      have hsectors : s.testReclaim.archive.sectors = s.archive.sectors.set i y := by rw [hstart]; rfl
      rw [hsectors] at hchanged ⊢
      by_cases hk : i = k
      · subst hk
        have hself : (s.archive.sectors.set i y)[i] = y := Vector.getElem_set_self _
        rw [hself]
        refine ⟨rfl, hfull, fun x hx => ?_⟩
        have hreleased := hall j
        rw [hx] at hreleased
        cases hreleased
      · have hother : (s.archive.sectors.set i y)[k] = s.archive.sectors[k] :=
          Vector.getElem_set_ne _ _ fun h => hk (Fin.ext h)
        rw [hother] at hchanged
        exact absurd rfl hchanged

end Sys2Proof.Machine
end

section
/-! The completion of a write, and TICKET ACK (R174, R175, R180). -/

namespace Sys2Proof.Machine

set_option Elab.async false

/-! ### What trying a write leaves -/

section TryWrite

variable {s : State}

/-- Trying a write changes nothing, raises ARCHIVE_FULL alone, or starts the write of the head in a slot that was EMPTY in
the OPEN sector or in an ERASED one (R173). -/
theorem State.tryStartWrite_cases (s : State) :
    s.tryStartWrite = s ∨ s.tryStartWrite = s.raiseAlarm (.station .archiveFull)
      ∨ ∃ (p : PendingTicket) (ps : List PendingTicket) (i j : Sector) (opens : Bool),
          s.ret.pendingTickets = p :: ps ∧ State.WriteStarted s s.tryStartWrite p ps i j opens
            ∧ (opens = false → s.archive.sectors[i].state = .opened ∧ s.archive.slot (i, j) = .empty)
            ∧ (opens = true → s.archive.sectors[i].state = .erased) := by
  by_cases hself : s.ret.pendingTickets = [] ∨ s.write ≠ none
      ∨ s.ret.pendingTickets.head?.any PendingTicket.writing = true
  · exact .inl (State.tryStartWrite_eq_self hself)
  · rw [not_or, not_or, not_not] at hself
    obtain ⟨hne, hwrite, hqueued⟩ := hself
    obtain ⟨p, ps, hps⟩ := List.exists_cons_of_ne_nil hne
    have hp : p.writing = false := by simpa [hps] using hqueued
    have htry := State.tryStartWrite_of_queued hps hp hwrite
    cases hchoose : s.archive.chooseSlot? with
    | none =>
      rw [hchoose] at htry
      exact .inr (.inl htry)
    | some x =>
      obtain ⟨a, i, j⟩ := x
      obtain ⟨opens, hbegin, hopen, hfree⟩ := Archive.chooseSlot?_cases hchoose
      rw [hchoose] at htry
      refine .inr (.inr ⟨p, ps, i, j, opens, hps, ?_, hopen, hfree⟩)
      rw [htry]
      exact State.startWrite_started hps hbegin

/-- A slot that is not EMPTY, in a sector that holds tickets, stays through a try. -/
theorem State.tryStartWrite_slot {kl : Sector × Sector} (hholds : s.archive.sectors[kl.1].state.holdsTickets = true)
    (hused : s.archive.slot kl ≠ .empty) : s.tryStartWrite.archive.slot kl = s.archive.slot kl := by
  rcases s.tryStartWrite_cases with h | h | ⟨p, ps, i, j, opens, -, hstarted, hopen, hfree⟩
  · rw [h]
  · have harchive : (s.raiseAlarm (.station .archiveFull)).archive = s.archive := by simp
    rw [h, harchive]
  · refine hstarted.slots kl ?_
    rintro rfl
    cases opens with
    | false => exact hused (hopen rfl).2
    | true =>
      rw [hfree rfl] at hholds
      cases hholds

theorem State.tryStartWrite_tickets (s : State) :
    s.tryStartWrite.ret.pendingTickets.map PendingTicket.ticket = s.ret.pendingTickets.map PendingTicket.ticket := by
  rcases s.tryStartWrite_cases with h | h | ⟨p, ps, i, j, opens, hps, hstarted, -⟩
  · rw [h]
  · have hret : (s.raiseAlarm (.station .archiveFull)).ret = s.ret := by simp
    rw [h, hret]
  · rw [hstarted.ret, hps]
    rfl

/-- An erase that is suspended already stays so through a try, and its sector with it. -/
theorem State.tryStartWrite_suspended {e : EraseInProgress} (he : s.erase = some e) (hsince : e.since = none)
    (hmatch : e.Matches s.archive) :
    s.tryStartWrite.erase = some e ∧ s.tryStartWrite.archive.sectors[e.sector].state = .eraseSuspended
      ∧ s.tryStartWrite.now = s.now := by
  have hstate : s.archive.sectors[e.sector].state = .eraseSuspended := by
    rw [hmatch, hsince]
    rfl
  rcases s.tryStartWrite_cases with h | h | ⟨p, ps, i, j, opens, -, hstarted, hopen, hfree⟩
  · rw [h]
    exact ⟨he, hstate, rfl⟩
  · have harchive : (s.raiseAlarm (.station .archiveFull)).archive = s.archive := by simp
    rw [h, harchive]
    exact ⟨by simpa using he, hstate, by simp⟩
  · have hne : e.sector ≠ i := by
      rintro rfl
      cases opens with
      | false =>
        rw [(hopen rfl).1] at hstate
        cases hstate
      | true =>
        rw [hfree rfl] at hstate
        cases hstate
    obtain ⟨hsuspended, hstays, -⟩ := hstarted.inErase e he hne
    exact ⟨hstays hsince, hsuspended hmatch, by rw [hstarted.frame]⟩

end TryWrite

/-! ### What follows a write completion (R174, R175, R177) -/

section AfterWrite

variable {s : State}

theorem State.resumeErase_slot (s : State) (kl : Sector × Sector) : s.resumeErase.archive.slot kl = s.archive.slot kl := by
  by_cases h : s.write ≠ none ∨ ∀ e : EraseInProgress, s.erase = some e → e.since ≠ none
  · rw [s.resumeErase_of_not_suspended h]
  · simp only [not_or, not_not, not_forall] at h
    obtain ⟨hwrite, e, he, hsince⟩ := h
    rw [s.resumeErase_of_suspended hwrite he hsince]
    obtain ⟨k, l⟩ := kl
    let y : ArchiveSector := { s.archive.sectors[e.sector] with state := .erasing }
    show (s.archive.sectors.set e.sector y)[k].slots[l] = s.archive.sectors[k].slots[l]
    by_cases hk : e.sector = k
    · subst hk
      have hself : (s.archive.sectors.set e.sector y)[e.sector] = y := Vector.getElem_set_self _
      rw [hself]
    · have hother : (s.archive.sectors.set e.sector y)[k] = s.archive.sectors[k] :=
        Vector.getElem_set_ne _ _ fun h => hk (Fin.ext h)
      rw [hother]

theorem State.afterWrite_slot {kl : Sector × Sector} (hholds : s.archive.sectors[kl.1].state.holdsTickets = true)
    (hused : s.archive.slot kl ≠ .empty) : s.afterWrite.archive.slot kl = s.archive.slot kl := by
  rw [State.afterWrite, State.testReclaim_slot, State.resumeErase_slot, State.tryStartWrite_slot hholds hused]

theorem State.resumeErase_ret (s : State) : s.resumeErase.ret = s.ret ∧ s.resumeErase.write = s.write := by
  unfold State.resumeErase
  split
  · split <;> exact ⟨rfl, rfl⟩
  · exact ⟨rfl, rfl⟩
  · exact ⟨rfl, rfl⟩

theorem State.testReclaim_ret (s : State) : s.testReclaim.ret = s.ret ∧ s.testReclaim.write = s.write := by
  rcases s.testReclaim_cases with h | ⟨i, h, -⟩ <;> (rw [h]; exact ⟨rfl, rfl⟩)

theorem State.archiveMoved_afterWrite (s : State) : s.ArchiveMoved s.afterWrite :=
  (s.archiveMoved_tryStartWrite.trans (State.archiveMoved_resumeErase _)).trans (State.archiveMoved_testReclaim _)

theorem State.afterWrite_tickets (s : State) :
    s.afterWrite.ret.pendingTickets.map PendingTicket.ticket = s.ret.pendingTickets.map PendingTicket.ticket := by
  obtain ⟨htest, -⟩ := s.tryStartWrite.resumeErase.testReclaim_ret
  obtain ⟨hresume, -⟩ := s.tryStartWrite.resumeErase_ret
  rw [State.afterWrite, htest, hresume, State.tryStartWrite_tickets]

/-- A suspended erase resumes exactly where no write has started, and no reclaim follows it. -/
theorem State.afterWrite_suspended {e : EraseInProgress} (he : s.erase = some e) (hsince : e.since = none)
    (hmatch : e.Matches s.archive) :
    s.afterWrite.erase = (if s.afterWrite.write.isSome then some e else some { e with since := some s.now })
      ∧ s.afterWrite.archive.sectors[e.sector].state
        = (if s.afterWrite.write.isSome then .eraseSuspended else .erasing) := by
  obtain ⟨herase, hstate, hnow⟩ := State.tryStartWrite_suspended he hsince hmatch
  have hreclaim (u : State) (hu : u.erase ≠ none) : u.testReclaim = u := State.testReclaim_eq_self (.inl hu)
  rw [State.afterWrite]
  generalize s.tryStartWrite = v at *
  cases hwrite : v.write with
  | some w =>
    rw [v.resumeErase_of_not_suspended (.inl (by simp [hwrite])), hreclaim v (by simp [herase]), hwrite]
    exact ⟨herase, hstate⟩
  | none =>
    rw [v.resumeErase_of_suspended hwrite herase hsince, hreclaim _ (by simp)]
    dsimp only
    let y : ArchiveSector := { v.archive.sectors[e.sector] with state := .erasing }
    have hself : (v.archive.sectors.set e.sector y)[e.sector] = y := Vector.getElem_set_self _
    rw [hwrite, hnow, hself]
    exact ⟨rfl, rfl⟩

end AfterWrite

/-! ### The completion of a write (R174, R175) -/

section WriteEnds

variable {s : State} {w : WriteInFlight} {st : SlotState} {ps : List PendingTicket} {flags : EventFlags}

/-- The machine at the end of a write, the slot in its next state. -/
def State.writeEnded (s : State) (w : WriteInFlight) (st : SlotState) (ps : List PendingTicket) (flags : EventFlags) :
    State :=
  { s with
    archive := { s.archive with
      sectors := s.archive.sectors.set w.sector
        { s.archive.sectors[w.sector] with slots := s.archive.sectors[w.sector].slots.set w.slot st } }
    write := none
    ret := { s.ret with pendingTickets := ps }
    flags := flags }

theorem State.writeEnded_slot : (s.writeEnded w st ps flags).archive.slot (w.sector, w.slot) = st := by
  let y : ArchiveSector :=
    { s.archive.sectors[w.sector] with slots := s.archive.sectors[w.sector].slots.set w.slot st }
  have hself : (s.archive.sectors.set w.sector y)[w.sector] = y := Vector.getElem_set_self _
  show (s.archive.sectors.set w.sector y)[w.sector].slots[w.slot] = st
  rw [hself]
  exact Vector.getElem_set_self _

theorem State.writeEnded_state (k : Sector) :
    (s.writeEnded w st ps flags).archive.sectors[k].state = s.archive.sectors[k].state := by
  let y : ArchiveSector :=
    { s.archive.sectors[w.sector] with slots := s.archive.sectors[w.sector].slots.set w.slot st }
  show (s.archive.sectors.set w.sector y)[k].state = s.archive.sectors[k].state
  by_cases hk : w.sector = k
  · subst hk
    have hself : (s.archive.sectors.set w.sector y)[w.sector] = y := Vector.getElem_set_self _
    rw [hself]
  · have hother : (s.archive.sectors.set w.sector y)[k] = s.archive.sectors[k] :=
      Vector.getElem_set_ne _ _ fun h => hk (Fin.ext h)
    rw [hother]

/-- What an event leaves that ends with the end of a write and what follows it. -/
theorem State.writeEnded_settle (hrun : s.phase = .running) (hsound : s.ArchiveSound) (hw : s.write = some w)
    (hst : st ≠ .empty) :
    (s.writeEnded w st ps flags).afterWrite.settle.archive.slot (w.sector, w.slot) = st
      ∧ (s.writeEnded w st ps flags).afterWrite.settle.ret.pendingTickets.map PendingTicket.ticket
        = ps.map PendingTicket.ticket
      ∧ (s.writeEnded w st ps flags).afterWrite.settle.flags.ticketStored = flags.ticketStored
      ∧ (∀ e : EraseInProgress, s.erase = some e → e.since = none →
          (s.writeEnded w st ps flags).afterWrite.settle.erase
              = (if (s.writeEnded w st ps flags).afterWrite.settle.write.isSome then some e
                else some { e with since := some s.now })
            ∧ (s.writeEnded w st ps flags).afterWrite.settle.archive.sectors[e.sector].state
              = (if (s.writeEnded w st ps flags).afterWrite.settle.write.isSome then .eraseSuspended else .erasing)) := by
  obtain ⟨-, herase, hwrite, -⟩ := (State.archiveSound_iff hrun).mp hsound
  obtain ⟨hholds, -⟩ := hwrite w hw
  let u := s.writeEnded w st ps flags
  have huslot : u.archive.slot (w.sector, w.slot) = st := State.writeEnded_slot
  have hslot : u.afterWrite.archive.slot (w.sector, w.slot) = st :=
    (State.afterWrite_slot (by rw [State.writeEnded_state]; exact hholds) (by rw [huslot]; exact hst)).trans huslot
  have hsettle := u.afterWrite.settle_eq_with
  have hkept : u.afterWrite.settle.archive = u.afterWrite.archive ∧ u.afterWrite.settle.erase = u.afterWrite.erase
      ∧ u.afterWrite.settle.write = u.afterWrite.write ∧ u.afterWrite.settle.ret = u.afterWrite.ret
      ∧ u.afterWrite.settle.flags = u.afterWrite.flags := by
    rw [hsettle]
    exact ⟨rfl, rfl, rfl, rfl, rfl⟩
  obtain ⟨harchive, herase', hwrite', hret, hflags⟩ := hkept
  refine ⟨by rw [harchive]; exact hslot, by rw [hret]; exact u.afterWrite_tickets, ?_, fun e he hsince => ?_⟩
  · rw [hflags, u.archiveMoved_afterWrite.flags]
    rfl
  · have hmatch : e.Matches u.archive := (State.writeEnded_state e.sector).trans (herase e he)
    rw [harchive, herase', hwrite']
    exact State.afterWrite_suspended (s := u) he hsince hmatch

theorem State.writeEnded_frame :
    (s.writeEnded w st ps flags).afterWrite.settle = { s with
      ret := (s.writeEnded w st ps flags).afterWrite.settle.ret
      bankA := (s.writeEnded w st ps flags).afterWrite.settle.bankA
      bankB := (s.writeEnded w st ps flags).afterWrite.settle.bankB
      current := (s.writeEnded w st ps flags).afterWrite.settle.current
      archive := (s.writeEnded w st ps flags).afterWrite.settle.archive
      write := (s.writeEnded w st ps flags).afterWrite.settle.write
      erase := (s.writeEnded w st ps flags).afterWrite.settle.erase
      alarms := (s.writeEnded w st ps flags).afterWrite.settle.alarms
      flags := (s.writeEnded w st ps flags).afterWrite.settle.flags } := by
  have hsettle := (s.writeEnded w st ps flags).afterWrite.settle_eq_with
  have hmoved := (s.writeEnded w st ps flags).archiveMoved_afterWrite
  generalize (s.writeEnded w st ps flags).afterWrite = v at *
  generalize v.settle = t at *
  rw [hsettle, hmoved.frame]
  rfl

end WriteEnds

/-! ### TICKET ACK (R180) -/

section Ack

variable {s : State} {ij : Sector × Sector} {n : Nat}

/-- The machine with a slot acknowledged. -/
def State.acknowledgedSlot (s : State) (ij : Sector × Sector) (st : SlotState) : State :=
  { s with
    archive := { s.archive with
      sectors := s.archive.sectors.set ij.1
        { s.archive.sectors[ij.1] with slots := s.archive.sectors[ij.1].slots.set ij.2 st } } }

theorem State.acknowledgedSlot_slot (st : SlotState) :
    (s.acknowledgedSlot ij st).archive.slot ij = st
      ∧ ∀ kl : Sector × Sector, kl ≠ ij → (s.acknowledgedSlot ij st).archive.slot kl = s.archive.slot kl := by
  obtain ⟨i, j⟩ := ij
  let y : ArchiveSector := { s.archive.sectors[i] with slots := s.archive.sectors[i].slots.set j st }
  have hself : (s.archive.sectors.set i y)[i] = y := Vector.getElem_set_self _
  refine ⟨?_, fun kl hkl => ?_⟩
  · show (s.archive.sectors.set i y)[i].slots[j] = st
    rw [hself]
    exact Vector.getElem_set_self _
  · obtain ⟨k, l⟩ := kl
    show (s.archive.sectors.set i y)[k].slots[l] = s.archive.sectors[k].slots[l]
    by_cases hk : i = k
    · subst hk
      rw [hself]
      exact Vector.getElem_set_ne j.isLt l.isLt fun h => hkl (by rw [Fin.ext h])
    · have hother : (s.archive.sectors.set i y)[k] = s.archive.sectors[k] :=
        Vector.getElem_set_ne _ _ fun h => hk (Fin.ext h)
      rw [hother]

theorem takeTicketAck_found (hn : n ≠ 0) (hfind : s.archive.findTicket? n = some ij) :
    takeTicketAck n s = ((s.acknowledgedSlot ij (s.archive.slot ij).retrieve).testReclaim, .justOk) := by
  simp only [takeTicketAck, if_neg hn, hfind]
  rfl

theorem takeTicketAck_missing (hn : n ≠ 0) (hfind : s.archive.findTicket? n = none) :
    takeTicketAck n s = refuse s (if (s.pendingTicket? n).isSome then .notAllowed else .notFound) := by
  simp only [takeTicketAck, if_neg hn, hfind]
  split <;> rfl

theorem State.testReclaim_settled {u : State} (h : u.Settled) : u.testReclaim.Settled := by
  rcases u.testReclaim_cases with h' | ⟨i, h', -⟩ <;> (rw [h']; exact h)

theorem State.testReclaim_eq_with (s : State) :
    s.testReclaim = { s with archive := s.testReclaim.archive, erase := s.testReclaim.erase } := by
  rcases s.testReclaim_cases with h | ⟨i, h, -⟩
  · rw [h]
  · rw [h]
    rfl

theorem State.acknowledgedSlot_self {st : SlotState} (h : s.archive.slot ij = st) : s.acknowledgedSlot ij st = s := by
  obtain ⟨i, j⟩ := ij
  have hslot : s.archive.sectors[i].slots.set j st = s.archive.sectors[i].slots := by
    rw [← h]
    exact Vector.set_getElem_self _
  have hsector : ({ s.archive.sectors[i] with slots := s.archive.sectors[i].slots.set j st } : ArchiveSector)
      = s.archive.sectors[i] := by rw [hslot]
  have hsectors : s.archive.sectors.set i
      { s.archive.sectors[i] with slots := s.archive.sectors[i].slots.set j st } = s.archive.sectors := by
    rw [hsector]
    exact Vector.set_getElem_self _
  show { s with archive := { s.archive with sectors := s.archive.sectors.set i _ } } = s
  rw [hsectors]

end Ack

/-- Settles O54: the completions of a write with what follows them, and the acknowledgement of a ticket. -/
theorem writesAndAcksMoveTickets : Obligations.WritesAndAcksMoveTickets := by
  intro s
  refine ⟨fun w p ps hrun hsound hw hps hready => ⟨?_, ?_⟩, fun hr => ⟨?_, fun n hn => ⟨fun ij k hfind hk => ?_,
    fun ij k hfind hk => ?_, fun hfind => ?_⟩⟩⟩
  · let stored := s.writeEnded w (.valid p.ticket) ps { s.flags with ticketStored := true }
    have hclose : stored.closeTests = stored := State.closeTests_of_not_ready hready
    have hf : writeCompletion true s = stored.afterWrite := by
      have hstore : writeCompletion true s = stored.closeTests.afterWrite := by
        simp only [writeCompletion, hw, hps]
        rfl
      rw [hstore, hclose]
    obtain ⟨hslot, htickets, hflag, herase⟩ := State.writeEnded_settle (ps := ps)
      (flags := { s.flags with ticketStored := true }) hrun hsound hw (st := .valid p.ticket) (by simp)
    have hexec : exec (.writeCompletion true) s = .next stored.afterWrite.settle := by
      rw [← hf]
      exact exec_of_event hrun rfl
    exact ⟨stored, _, hexec, State.settled_settle, rfl, rfl, hslot, htickets, hflag,
      herase, State.writeEnded_frame⟩
  · let failed := s.writeEnded w .defective ({ p with writing := false } :: ps) s.flags
    have hf : writeCompletion false s = failed.afterWrite := by
      have hdefect : writeCompletion false s = s.defectWrite w := by
        simp only [writeCompletion, hw, hps]
        rfl
      rw [hdefect]
      unfold State.defectWrite
      rw [hps]
      rfl
    obtain ⟨hslot, htickets, hflag, -⟩ := State.writeEnded_settle (ps := { p with writing := false } :: ps)
      (flags := s.flags) hrun hsound hw (st := .defective) (by simp)
    have hexec : exec (.writeCompletion false) s = .next failed.afterWrite.settle := by
      rw [← hf]
      exact exec_of_event hrun rfl
    exact ⟨failed, _, hexec, State.settled_settle, rfl, rfl, hslot, htickets, hflag,
      State.writeEnded_frame⟩
  · exact exec_of_request_refused hr rfl (if_pos rfl)
  · have hf := takeTicketAck_found hn hfind
    rw [hk] at hf
    let u := s.acknowledgedSlot ij (.retrieved k)
    obtain ⟨hsame, hothers⟩ := State.acknowledgedSlot_slot (s := s) (ij := ij) (.retrieved k)
    have hexec := exec_of_request_settled (c := .ticketAck n) hr rfl hf (u.testReclaim_settled hr.2.2)
    refine ⟨_, hexec, rfl, rfl, (u.testReclaim_slot ij).trans hsame,
      fun kl hkl => (u.testReclaim_slot kl).trans (hothers kl hkl), ?_⟩
    have hframe := u.testReclaim_eq_with
    show { u.testReclaim with reply := some Reply.justOk } = { s with
      archive := u.testReclaim.archive, erase := u.testReclaim.erase, reply := some Reply.justOk }
    rw [hframe]
    rfl
  · have hf := takeTicketAck_found hn hfind
    rw [hk, SlotState.retrieve, State.acknowledgedSlot_self hk] at hf
    have hexec := exec_of_request_settled (c := .ticketAck n) hr rfl hf (s.testReclaim_settled hr.2.2)
    refine ⟨_, hexec, rfl, rfl, fun kl => s.testReclaim_slot kl, ?_⟩
    have hframe := s.testReclaim_eq_with
    show { s.testReclaim with reply := some Reply.justOk } = { s with
      archive := s.testReclaim.archive, erase := s.testReclaim.erase, reply := some Reply.justOk }
    rw [hframe]
  · exact exec_of_request_refused hr rfl (takeTicketAck_missing hn hfind)

end Sys2Proof.Machine
end

section
/-! The completion of a start: what every start does to the alarms and to volatile state (R100, R202), and what a cold
start leaves (R99). -/

namespace Sys2Proof.Machine

set_option Elab.async false

/-! ### The alarms of a start (R43, R65, R201, R202) -/

theorem AlarmId.isQuality_iff (a : AlarmId) : a.isQuality = true ↔ ∃ v : ValueId, qualityAlarm v = a := by
  refine ⟨fun h => ?_, fun ⟨v, hv⟩ => hv ▸ qualityAlarm_isQuality v⟩
  cases a with
  | station b =>
    cases b with
    | tpQuality => exact ⟨.tp, rfl⟩
    | ppQuality => exact ⟨.pp, rfl⟩
    | rhoQuality => exact ⟨.rho, rfl⟩
    | swQuality => exact ⟨.sw, rfl⟩
    | _ => cases h
  | run r b =>
    cases b with
    | tQuality => exact ⟨.t r, rfl⟩
    | pQuality => exact ⟨.p r, rfl⟩
    | _ => cases h

theorem mem_allValues (v : ValueId) : v ∈ allValues := by
  cases v with
  | t r => revert r; decide
  | p r => revert r; decide
  | tp | pp | rho | sw => decide

/-- A momentary condition of a start, where there is one. -/
def State.pulseIf (s : State) : Option AlarmId → State
  | none => s
  | some a => s.pulseAlarm a

/-- The seal state recorded, with its audit entry where it was found changed (R65). -/
def State.sealRecorded (s : State) : State :=
  if s.recordedSeal = s.seal then s
  else { s.appendAudit (.sealChange s.recordedSeal s.seal true) with recordedSeal := s.seal }

/-- The state that a start gives an alarm. -/
def State.startState (s : State) (momentary : Option AlarmId) (a : AlarmId) : AlarmState :=
  if a.isQuality then .activeUnack
  else if a = .station .sealOpen then (if s.seal = .opened then .activeUnack else .normal)
  else if a = .station .timeUnset then (if s.ret.clockSet then .normal else .activeUnack)
  else if momentary = some a then .returnedUnack else .normal

section StartAlarms

variable (s : State)

theorem State.alarm_state_moveAlarm (a b : AlarmId) (f : AlarmState → AlarmState) :
    ((s.moveAlarm a f).alarm b).state = if b = a then f (s.alarm b).state else (s.alarm b).state := by
  split
  · next h =>
    subst h
    exact s.alarm_moveAlarm_same b f
  · next h => rw [s.alarm_moveAlarm_other a b f fun h' => h h'.symm]

theorem State.sealRecorded_kept :
    s.sealRecorded.seal = s.seal ∧ s.sealRecorded.alarms = s.alarms ∧ s.sealRecorded.flags = s.flags
      ∧ s.sealRecorded = { s with
          recordedSeal := s.seal, audit := s.sealRecorded.audit, auditNext := s.sealRecorded.auditNext } := by
  unfold State.sealRecorded
  split
  · next h =>
    refine ⟨rfl, rfl, rfl, ?_⟩
    rw [← h]
  · exact ⟨rfl, rfl, rfl, rfl⟩

theorem State.startSeal_eq : s.startSeal = (if s.seal = .opened then s.sealRecorded.raiseAlarm (.station .sealOpen)
    else s.sealRecorded) := by
  have hseal := s.sealRecorded_kept.1
  rw [← hseal]
  rfl

theorem State.startSeal_moved : s.sealRecorded.AlarmsMoved [.station .sealOpen] s.startSeal := by
  rw [State.startSeal_eq]
  split
  · exact State.alarmsMoved_moveAlarm _ _ _
  · exact .refl

theorem State.startQualities_moved : s.AlarmsMoved (allValues.map qualityAlarm) s.startQualities := by
  unfold State.startQualities
  generalize allValues = vs
  induction vs generalizing s with
  | nil => exact .refl
  | cons v vs ih =>
    have hfirst : s.AlarmsMoved [qualityAlarm v] (s.syncQualityAlarm v) := by
      rw [State.syncQualityAlarm_eq]
      exact s.alarmsMoved_moveAlarm _ _
    exact hfirst.trans (ih (s.syncQualityAlarm v))

theorem State.pulseIf_moved (momentary : Option AlarmId) : s.AlarmsMoved momentary.toList (s.pulseIf momentary) := by
  cases momentary with
  | none => exact .refl
  | some a => exact s.alarmsMoved_pulseAlarm a

theorem State.startClock_moved : s.AlarmsMoved [.station .timeUnset] s.startClock := by
  unfold State.startClock
  split
  · exact .refl
  · exact s.alarmsMoved_moveAlarm _ _

theorem State.startQualities_state (h : ∀ v : ValueId, (s.value v).notFresh = true) (a : AlarmId) :
    (s.startQualities.alarm a).state = if a.isQuality then (s.alarm a).state.raised else (s.alarm a).state := by
  have hfold (vs : List ValueId) (u : State) (hu : ∀ v : ValueId, (u.value v).notFresh = true) :
      ((vs.foldl (fun s v => s.syncQualityAlarm v) u).alarm a).state
        = if a ∈ vs.map qualityAlarm then (u.alarm a).state.raised else (u.alarm a).state := by
    induction vs generalizing u with
    | nil => rfl
    | cons v vs ih =>
      have hvalue (w : ValueId) : (u.syncQualityAlarm v).value w = u.value w := by simp [State.syncQualityAlarm_eq]
      have hmove : u.syncQualityAlarm v = u.moveAlarm (qualityAlarm v) .raised := by
        unfold State.syncQualityAlarm
        have hfresh : decide ((u.value v).quality = .held ∨ (u.value v).quality = .substituted) = true := hu v
        rw [hfresh]
        rfl
      rw [List.foldl_cons, ih _ fun w => by rw [hvalue]; exact hu w, hmove, State.alarm_state_moveAlarm]
      have hraised (x : AlarmState) : x.raised.raised = x.raised := by cases x <;> rfl
      by_cases hv : a = qualityAlarm v
      · simp [hv, hraised]
      · simp [hv]
  have hmem : a ∈ allValues.map qualityAlarm ↔ a.isQuality = true := by
    rw [AlarmId.isQuality_iff, List.mem_map]
    exact ⟨fun ⟨v, _, hv⟩ => ⟨v, hv⟩, fun ⟨v, hv⟩ => ⟨v, mem_allValues v, hv⟩⟩
  rw [State.startQualities, hfold allValues s h]
  simp only [hmem]

/-- The alarms, the flags and the frame of the steps of a start that move alarms. -/
theorem State.startAlarms_spec (momentary : Option AlarmId) (hnormal : ∀ a : AlarmId, (s.alarm a).state = .normal)
    (hvalues : ∀ v : ValueId, (s.value v).notFresh = true)
    (hmomentary : ∀ a : AlarmId, momentary = some a →
      a.isQuality = false ∧ a ≠ .station .sealOpen ∧ a ≠ .station .timeUnset) :
    (∃ as : List AlarmId, s.sealRecorded.AlarmsMoved as (s.startSeal.startQualities.pulseIf momentary).startClock)
      ∧ (momentary ≠ none → (s.startSeal.startQualities.pulseIf momentary).startClock.flags.alarmChanged = true)
      ∧ ∀ a : AlarmId, ((s.startSeal.startQualities.pulseIf momentary).startClock.alarm a).state
          = s.startState momentary a := by
  have hseal := s.startSeal_moved
  have hqualities := s.startSeal.startQualities_moved
  have hpulse := s.startSeal.startQualities.pulseIf_moved momentary
  have hclock := (s.startSeal.startQualities.pulseIf momentary).startClock_moved
  have hrecorded := s.sealRecorded_kept
  have hall := ((hseal.trans hqualities).trans hpulse).trans hclock
  refine ⟨⟨_, hall⟩, fun hm => ?_, fun a => ?_⟩
  · obtain ⟨b, hb⟩ := Option.ne_none_iff_exists'.mp hm
    have hpulsed (u : State) : (u.pulseIf momentary).flags.alarmChanged = true := by
      subst hb
      exact u.pulseAlarm_flags b
    exact hclock.mono (hpulsed _)
  · obtain ⟨hsame, halarms, -, hframe⟩ := hrecorded
    have hbase (b : AlarmId) : (s.sealRecorded.alarm b).state = .normal := by
      rw [State.alarm_eq_of_alarms_eq halarms]
      exact hnormal b
    have hfirst : (s.startSeal.alarm a).state
        = if a = .station .sealOpen then (if s.seal = .opened then .activeUnack else .normal) else .normal := by
      rw [State.startSeal_eq]
      by_cases hopen : s.seal = .opened
      · rw [if_pos hopen, State.raiseAlarm, State.alarm_state_moveAlarm, hbase, if_pos hopen]
        rfl
      · rw [if_neg hopen, if_neg hopen, hbase]
        split <;> rfl
    have hfresh (v : ValueId) : (s.startSeal.value v).notFresh = true := by
      have hvalue : s.startSeal.values = s.values := by rw [hseal.frame, hframe]
      unfold State.value
      rw [hvalue]
      exact hvalues v
    have hsecond := s.startSeal.startQualities_state hfresh a
    have hthird : ((s.startSeal.startQualities.pulseIf momentary).alarm a).state
        = if momentary = some a then ((s.startSeal.startQualities.alarm a).state.raised).cleared
          else (s.startSeal.startQualities.alarm a).state := by
      cases momentary with
      | none => rfl
      | some b =>
        show (((s.startSeal.startQualities.moveAlarm b .raised).moveAlarm b .cleared).alarm a).state = _
        rw [State.alarm_state_moveAlarm, State.alarm_state_moveAlarm]
        by_cases hab : a = b
        · subst hab
          simp
        · simp [hab, Ne.symm hab]
    have hclockSet : (s.startSeal.startQualities.pulseIf momentary).ret = s.ret := by
      rw [hpulse.frame, hqualities.frame, hseal.frame, hframe]
    have hfourth : ((s.startSeal.startQualities.pulseIf momentary).startClock.alarm a).state
        = if s.ret.clockSet = false ∧ a = .station .timeUnset
          then ((s.startSeal.startQualities.pulseIf momentary).alarm a).state.raised
          else ((s.startSeal.startQualities.pulseIf momentary).alarm a).state := by
      unfold State.startClock
      rw [hclockSet]
      cases s.ret.clockSet
      · simp only [Bool.false_eq_true, if_false, true_and]
        exact State.alarm_state_moveAlarm _ _ _ _
      · simp
    rw [hfourth, hthird, hsecond, hfirst]
    unfold State.startState
    by_cases hq : a.isQuality = true
    · have hne1 : a ≠ .station .sealOpen := by rintro rfl; cases hq
      have hne2 : a ≠ .station .timeUnset := by rintro rfl; cases hq
      have hne3 : momentary ≠ some a := fun h => by
        rw [(hmomentary a h).1] at hq
        cases hq
      simp [hq, hne1, hne2, hne3, AlarmState.raised]
    · by_cases h1 : a = .station .sealOpen
      · have hne2 : a ≠ .station .timeUnset := by rw [h1]; simp
        have hne3 : momentary ≠ some a := fun h => (hmomentary a h).2.1 h1
        rw [h1] at hne3 hq ⊢
        simp [hq, hne3]
      · by_cases h2 : a = .station .timeUnset
        · have hne3 : momentary ≠ some a := fun h => (hmomentary a h).2.2 h2
          rw [h2] at hne3
          cases hset : s.ret.clockSet <;> simp [h2, hne3, AlarmState.raised, AlarmId.isQuality]
        · by_cases h3 : momentary = some a <;> simp [hq, h1, h2, h3, AlarmState.raised, AlarmState.cleared]

end StartAlarms

end Sys2Proof.Machine
end

section
/-! The completion of a cold start (R99, R202). -/

namespace Sys2Proof.Machine

set_option Elab.async false

/-! ### All volatile state at the completion of a start -/

section Freshen

variable (s : State)

theorem State.freshen_alarm (a : AlarmId) : (s.freshen.alarm a).state = .normal := by
  unfold State.alarm State.freshen
  simp [Alarm.normal]

theorem State.freshen_notFresh (v : ValueId) : (s.freshen.value v).notFresh = true := by
  unfold State.value State.freshen
  simp only [Fin.getElem_fin, Vector.getElem_replicate]
  decide

theorem State.freshen_pulses (r : Run) : s.freshen.pulses[r] = s.startRun r := forRuns_getElem ..

theorem State.startRun_out {r : Run} (h : s.ret.service[r] = .outOfService) :
    s.startRun r = { RunPulse.reset with
      chA := s.pulses[r].chA.settle, chB := s.pulses[r].chB.settle, settings := settingsOf s.params.meter[r] } := by
  unfold State.startRun
  rw [h]

theorem State.startRun_in {r : Run} (h : s.ret.service[r] = .inService) :
    s.startRun r = ({ RunPulse.reset with
      chA := s.pulses[r].chA.settle, chB := s.pulses[r].chB.settle
      settings := settingsOf s.params.meter[r] } : RunPulse).beginCounting s.params.meter[r] s.now := by
  unfold State.startRun
  rw [h]

theorem State.sealRecorded_audit :
    s.sealRecorded.audit = (if s.recordedSeal = s.seal then s.audit
      else s.audit.write ⟨s.auditNext, s.clock, .sealChange s.recordedSeal s.seal true⟩) := by
  unfold State.sealRecorded
  split <;> rfl

end Freshen

/-! ### The cold start -/

/-- The state of a cold start with its audit entry, before the alarms. -/
def State.coldFresh (s : State) (cause : StartCause) : State :=
  s.coldRetained.freshen.appendAudit (.coldStart cause)

/-- The steps of a cold start that move alarms. -/
theorem State.coldAlarms_spec (s : State) (cause : StartCause) (v : State)
    (hv : v = ((s.coldFresh cause).startSeal.startQualities.pulseIf (some (.station .retainedLost))).startClock) :
    (∃ as : List AlarmId, (s.coldFresh cause).sealRecorded.AlarmsMoved as v) ∧ v.flags.alarmChanged = true
      ∧ ∀ a : AlarmId, (v.alarm a).state = (s.coldFresh cause).startState (some (.station .retainedLost)) a := by
  obtain ⟨hmoved, hchanged, halarms⟩ := (s.coldFresh cause).startAlarms_spec (some (.station .retainedLost))
    (fun a => s.coldRetained.freshen_alarm a) (fun v => s.coldRetained.freshen_notFresh v)
    (fun a ha => by cases ha; decide)
  rw [← hv] at hmoved hchanged halarms
  exact ⟨hmoved, hchanged (by simp), halarms⟩

/-- What a test of reclaim leaves as it was. -/
structure State.Reclaimed (s t : State) : Prop where
  frame : t = { s with archive := t.archive, erase := t.erase }
  archive : t.archive = { s.archive with sectors := t.archive.sectors }

theorem State.testReclaim_reclaimed (s : State) : s.Reclaimed s.testReclaim := by
  rcases s.testReclaim_cases with hself | ⟨i, hstart, -⟩
  · rw [hself]
    exact ⟨rfl, rfl⟩
  · rw [hstart]
    exact ⟨rfl, rfl⟩

/-- What the steps of a cold start after its audit entry leave of it: the seal recorded, alarms and flags moved, and an
erase that the reclaim test may start, as no ticket is pending. -/
structure State.ColdCompleted (s t : State) (cause : StartCause) : Prop where
  frame : t = { s.coldFresh cause with
    recordedSeal := (s.coldFresh cause).seal, audit := t.audit, auditNext := t.auditNext, alarms := t.alarms,
    flags := t.flags, archive := t.archive, erase := t.erase }
  audit : t.audit = (s.coldFresh cause).sealRecorded.audit
  numberMark : t.archive.numberMark = s.archive.numberMark
  flags : t.flags = { EventFlags.none with restarted := true, alarmChanged := true }
  alarm : ∀ a : AlarmId, (t.alarm a).state = (s.coldFresh cause).startState (some (.station .retainedLost)) a

theorem State.completeCold_completed (s : State) (cause : StartCause) :
    s.ColdCompleted (s.completeCold cause) cause := by
  obtain ⟨v, hv⟩ : ∃ v, v = ((s.coldFresh cause).startSeal.startQualities.pulseIf
      (some (.station .retainedLost))).startClock := ⟨_, rfl⟩
  have hcomplete : s.completeCold cause = v.tryStartWrite.testReclaim := by rw [hv]; rfl
  obtain ⟨⟨as, hmoved⟩, hchanged, halarms⟩ := s.coldAlarms_spec cause v hv
  obtain ⟨-, -, hflags, hseal⟩ := (s.coldFresh cause).sealRecorded_kept
  have hframe := hmoved.frame
  rw [hseal] at hframe
  have hpending : v.ret.pendingTickets = [] := by
    rw [hframe]
    rfl
  rw [State.tryStartWrite_eq_self (.inl hpending)] at hcomplete
  have hreclaimed := v.testReclaim_reclaimed
  rw [← hcomplete] at hreclaimed
  generalize s.completeCold cause = t at hreclaimed
  have hall := hreclaimed.frame
  rw [hframe] at hall
  refine ⟨?_, ?_, ?_, ?_, fun a => ?_⟩
  · rw [hall]
  · rw [hreclaimed.frame, hframe]
  · rw [hreclaimed.archive, hframe]
    rfl
  · rw [show t.flags = v.flags by rw [hreclaimed.frame], hmoved.flags, hchanged, hflags]
    rfl
  · have hsame : t.alarms = v.alarms := by rw [hreclaimed.frame]
    rw [State.alarm_eq_of_alarms_eq hsame, halarms]

/-- Settles O38: a cold start freshens retained memory and all volatile state, then records the seal and moves alarms;
without pending tickets the archive can at most take up a reclaim. -/
theorem coldStartLeavesAFreshModule : Obligations.ColdStartLeavesAFreshModule := by
  intro s cause hphase
  have hexec : exec .startCompletion s = .next (s.completeCold cause).settle := by
    show Host.Outcome.next (startCompletion s) = _
    unfold startCompletion
    rw [hphase]
  have hdone := s.completeCold_completed cause
  generalize s.completeCold cause = t at hexec hdone
  have hframe := hdone.frame
  have hsettled : t.ret = t.currentBank.content := by
    rw [hframe]
    rfl
  rw [t.settle_of_settled hsettled] at hexec
  have hof {α : Type} (p : State → α) := congrArg p hframe
  have hseal : t.seal = (s.coldFresh cause).seal := hof State.seal
  have hstate (a : AlarmId) (x : AlarmState)
      (hx : (s.coldFresh cause).startState (some (.station .retainedLost)) a = x) : (t.alarm a).state = x := by
    rw [hdone.alarm, hx]
  have hpulses (r : Run) : t.pulses[r] = s.coldRetained.startRun r := by
    rw [hof State.pulses]
    exact s.coldRetained.freshen_pulses r
  have hout (r : Run) : s.coldRetained.ret.service[r] = .outOfService := by
    simp [State.coldRetained, State.coldContent, Retained.cold]
  refine ⟨t, _, hexec, rfl, hof State.phase, hof State.ret, hof State.bankA, hof State.bankB, hof State.clock,
    hof State.params, hof State.locks, hseal, (hof State.recordedSeal).trans hseal.symm, hof State.staging,
    hof State.snapshot, hof State.snapshotSeq, hof State.values, hof State.cen, fun r => ?_, hof (·.psq.state),
    hof (·.psq.trips), hof (·.psq.route), hof (·.psq.dirReverse), hof (·.smc.state), hof (·.smc.queue),
    hof (·.smc.grab), hof State.write, hdone.numberMark, hdone.flags, hstate _ _ rfl, hstate _ _ rfl, fun v => ?_, ?_, ?_,
    hof (·.link.framer), hof (·.link.sending), hof (·.link.waiting), hof (·.link.restartMark), hof State.powered,
    hof State.resetActive, hof State.pending⟩
  · rw [hpulses, State.startRun_out _ (hout r)]
    exact ⟨rfl, rfl, rfl, rfl⟩
  · refine hstate _ _ ?_
    rw [State.startState, if_pos (qualityAlarm_isQuality v)]
  · rw [hseal]
    unfold State.alarmRaised
    rw [hdone.alarm]
    unfold State.startState
    cases (s.coldFresh cause).seal <;> rfl
  · rw [hdone.audit, State.sealRecorded_audit, hseal]
    rfl

end Sys2Proof.Machine
end

section
/-! The completion of a warm start up to the close tests (R98, R155, R202), and what the outputs and TXD carry from a stop
to the completion of a start (R52, R215). -/

namespace Sys2Proof.Machine

set_option Elab.async false

/-! ### The warm start up to its close tests -/

/-- The state of a warm start with its audit entry, before the alarms. -/
def State.warmFresh (s : State) (cause : StartCause) : State :=
  s.warmRetained.freshen.appendAudit (.warmStart s.ret.lastSeen s.clock cause)

/-- The momentary condition of a warm start (R169). -/
def State.warmMomentary (s : State) : Option AlarmId :=
  if s.missesGrabs then some (.station .samplerMissed) else none

/-- A warm start with its alarms moved. -/
def State.warmAlarmed (s : State) (cause : StartCause) : State :=
  ((s.warmFresh cause).startSeal.startQualities.pulseIf s.warmMomentary).startClock

/-- A warm start before its close tests. -/
def State.warmReady (s : State) (cause : StartCause) : State := (s.warmAlarmed cause).resolveMarker

/-- Retained memory of a warm start before its close tests: the marker found is resolved (R155). -/
def State.warmContent (s : State) : Retained :=
  { s.warmRetained.ret with
    lastProve := (match s.ret.marker with
      | none => s.ret.lastProve
      | some m => s.ret.lastProve.set m.run (some ⟨s.clock, m.startTime, m.slot, m.attempts,
          (match m.result with
           | some res => .discarded res
           | none => .aborted true)⟩))
    marker := none }

section Warm

theorem State.pulseIf_ite (u : State) (c : Bool) (a : AlarmId) :
    u.pulseIf (if c then some a else none) = if c then u.pulseAlarm a else u := by
  cases c <;> rfl

variable (s : State) (cause : StartCause)

theorem State.completeWarm_eq : s.completeWarm cause = (s.warmReady cause).closeTests.startArchive := by
  simp only [State.completeWarm, State.warmReady, State.warmAlarmed, State.warmMomentary, State.warmFresh,
    State.pulseIf_ite]

/-- What a warm start has done before its close tests. -/
structure State.WarmReady (s t : State) (cause : StartCause) : Prop where
  frame : t = { s.warmFresh cause with
    recordedSeal := (s.warmFresh cause).seal, audit := t.audit, auditNext := t.auditNext, alarms := t.alarms
    flags := t.flags, ret := s.warmContent }
  audit : t.audit = (s.warmFresh cause).sealRecorded.audit
  restarted : t.flags.restarted = true
  finished : s.ret.marker ≠ none → t.flags.proveFinished = true
  alarm : ∀ a : AlarmId, (t.alarm a).state = (s.warmFresh cause).startState s.warmMomentary a

theorem State.warmAlarmed_spec (v : State) (hv : v = s.warmAlarmed cause) :
    (∃ as : List AlarmId, (s.warmFresh cause).sealRecorded.AlarmsMoved as v)
      ∧ ∀ a : AlarmId, (v.alarm a).state = (s.warmFresh cause).startState s.warmMomentary a := by
  obtain ⟨hmoved, -, halarms⟩ := (s.warmFresh cause).startAlarms_spec s.warmMomentary
    (fun a => s.warmRetained.freshen_alarm a) (fun v => s.warmRetained.freshen_notFresh v)
    (fun a ha => by
      unfold State.warmMomentary at ha
      split at ha
      · cases ha
        decide
      · cases ha)
  rw [show ((s.warmFresh cause).startSeal.startQualities.pulseIf s.warmMomentary).startClock = v from hv.symm]
    at hmoved halarms
  exact ⟨hmoved, halarms⟩

theorem State.warmReady_ready : s.WarmReady (s.warmReady cause) cause := by
  obtain ⟨v, hv⟩ : ∃ v, v = s.warmAlarmed cause := ⟨_, rfl⟩
  have hready : s.warmReady cause = v.resolveMarker := by rw [hv]; rfl
  obtain ⟨⟨as, hmoved⟩, halarms⟩ := s.warmAlarmed_spec cause v hv
  obtain ⟨-, -, hflags, hseal⟩ := (s.warmFresh cause).sealRecorded_kept
  have hframe := hmoved.frame
  rw [hseal] at hframe
  have hret : v.ret = s.warmRetained.ret := by
    rw [hframe]
    rfl
  have hmarker : v.ret.marker = s.ret.marker := by
    rw [hret]
    rfl
  have hclock : v.clock = s.clock := by
    rw [hframe]
    rfl
  have haudit : v.audit = (s.warmFresh cause).sealRecorded.audit := by rw [hframe]
  have hrestarted : v.flags.restarted = true := by
    rw [hmoved.flags, hflags]
    rfl
  rw [hready]
  unfold State.resolveMarker State.recordOutcome
  rw [hmarker]
  cases hm : s.ret.marker with
  | none =>
    refine ⟨?_, haudit, hrestarted, fun h => absurd hm h, halarms⟩
    have hcontent : s.warmContent = v.ret := by
      rw [hret]
      unfold State.warmContent
      rw [hm]
      simp [State.warmRetained, State.modRet, hm]
    rw [hcontent, hframe]
  | some m =>
    have hset (outcome : ProveOutcome)
        (hout : outcome = (match m.result with | some res => .discarded res | none => .aborted true)) (t : State)
        (ht : t = (v.modRet (fun ret => { ret with
          lastProve := ret.lastProve.set m.run (some (lastProveOf m v.clock m.attempts outcome))
          marker := none })).addFlag .proveFinished) : s.WarmReady t cause := by
      have hcontent : s.warmContent = { v.ret with
          lastProve := v.ret.lastProve.set m.run (some (lastProveOf m v.clock m.attempts outcome))
          marker := none } := by
        rw [hret, hclock, hout]
        unfold State.warmContent
        rw [hm]
        rfl
      have hwith : t = { v with ret := s.warmContent, flags := t.flags } := by
        rw [hcontent, ht]
        rfl
      have hfinished : t.flags = v.flags.add .proveFinished := by
        rw [ht]
        rfl
      have hsame : t.alarms = v.alarms := by rw [hwith]
      refine ⟨?_, ?_, ?_, fun _ => ?_, fun a => ?_⟩
      · rw [hframe] at hwith
        rw [hwith]
      · rw [hwith]
        exact haudit
      · rw [hfinished]
        exact hrestarted
      · rw [hfinished]
        rfl
      · rw [State.alarm_eq_of_alarms_eq hsame, halarms]
    cases hres : m.result with
    | none => exact hset (.aborted true) (by rw [hres]) _ (by simp only [hres])
    | some res => exact hset (.discarded res) (by rw [hres]) _ (by simp only [hres])

/-- The completion of a warm start moves only the archive, the ending list, ARCHIVE_FULL and the banks after it is ready. -/
theorem State.archiveMoved_completeWarm : (s.warmReady cause).ArchiveMoved (s.completeWarm cause) := by
  rw [State.completeWarm_eq]
  exact ((s.warmReady cause).archiveMoved_closeTests.trans (State.archiveMoved_tryStartWrite _)).trans
    (State.archiveMoved_testReclaim _)

end Warm

/-! ### The outputs and TXD (R52, R215) -/

/-- What the outputs and TXD show at the completion of a start: no run routed, no reversed valve, no grab, an idle line,
RESTARTED set, and the outputs that retained content gives. -/
structure State.JustStarted (s t : State) : Prop where
  phase : t.phase = .running
  params : t.params = s.params
  route : t.psq.route = noRuns
  dirReverse : t.psq.dirReverse = false
  grab : t.smc.grab = false
  canSelect : t.smc.canSelect = decide (t.ret.selectedCan = .can2)
  restarted : t.flags.restarted = true
  sending : t.link.sending = none

section Outputs

variable (s : State)

theorem State.startSampler_grab : s.startSampler.grab = false := by
  unfold State.startSampler
  dsimp only
  split <;> rfl

theorem State.level_running (h : s.phase = .running) (o : Output) :
    s.level o = (s.logical o != s.params.station.activeLow[o.index]) := by
  unfold State.level State.driven
  simp [h]

theorem State.level_not_running (h : s.phase ≠ .running) (o : Output) :
    s.level o = s.params.station.activeLow[o.index] := by
  unfold State.level State.driven
  simp [h]

theorem State.txd_not_running (h : s.phase ≠ .running) : s.txd = .idle := by
  unfold State.txd
  split
  · next hrun _ => exact absurd hrun h
  · rfl
  · rfl
  · rfl

theorem State.justStarted_completeCold (cause : StartCause) : s.JustStarted (s.completeCold cause) := by
  have hdone := s.completeCold_completed cause
  generalize s.completeCold cause = t at hdone
  have hof {α : Type} (p : State → α) := congrArg p hdone.frame
  exact
    { phase := hof State.phase
      params := hof State.params
      route := hof (·.psq.route)
      dirReverse := hof (·.psq.dirReverse)
      grab := hof (·.smc.grab)
      canSelect := (hof (·.smc.canSelect)).trans (congrArg (fun ret : Retained => decide (ret.selectedCan = .can2))
        (hof State.ret)).symm
      restarted := by rw [hdone.flags]
      sending := hof (·.link.sending) }

theorem State.justStarted_completeWarm (cause : StartCause) : s.JustStarted (s.completeWarm cause) := by
  have hready := s.warmReady_ready cause
  have hmoved := s.archiveMoved_completeWarm cause
  generalize s.warmReady cause = u at hready hmoved
  generalize s.completeWarm cause = t at hmoved
  have hof {α : Type} (p : State → α) := congrArg p hready.frame
  have hsmc : t.smc = s.warmRetained.startSampler := by
    rw [hmoved.smc]
    exact hof State.smc
  have hpsq : t.psq = s.psq.start := by
    rw [hmoved.frame]
    exact hof State.psq
  have hcan : t.ret.selectedCan = s.warmRetained.ret.selectedCan := by
    rw [hmoved.ret]
    exact hof (·.ret.selectedCan)
  refine
    { phase := ?_, params := ?_, route := by rw [hpsq]; rfl, dirReverse := by rw [hpsq]; rfl
      grab := by rw [hsmc]; exact State.startSampler_grab _
      canSelect := by rw [hsmc, hcan]; exact s.warmRetained.startSampler_sound.2.2
      restarted := ?_, sending := ?_ }
  · rw [hmoved.frame]
    exact hof State.phase
  · rw [hmoved.frame]
    exact hof State.params
  · rw [hmoved.flags]
    exact hready.restarted
  · rw [hmoved.frame]
    exact hof (·.link.sending)

theorem State.JustStarted.settle {t : State} (h : s.JustStarted t) : s.JustStarted t.settle := by
  rw [t.settle_eq_with]
  exact { h with }

/-- The levels of the outputs and of TXD at the completion of a start. -/
theorem State.JustStarted.levels {s u : State} (h : s.JustStarted u) : u.txd = .idle
    ∧ (∀ r : Run, u.level (.route r) = s.params.station.activeLow[(Output.route r).index])
    ∧ u.level .proverDir = s.params.station.activeLow[Output.proverDir.index]
    ∧ u.level .grab = s.params.station.activeLow[Output.grab.index]
    ∧ u.level .canSelect = (decide (u.ret.selectedCan = .can2) != s.params.station.activeLow[Output.canSelect.index])
    ∧ u.level .slowdown = (u.ret.slowdown != s.params.station.activeLow[Output.slowdown.index])
    ∧ u.level .stop = (u.ret.stop != s.params.station.activeLow[Output.stop.index])
    ∧ u.level .attn = (true != s.params.station.activeLow[Output.attn.index]) := by
  have hlevel := u.level_running h.phase
  rw [h.params] at hlevel
  have hlow (o : Output) (ho : u.logical o = false) : u.level o = s.params.station.activeLow[o.index] := by
    rw [hlevel, ho]
    exact Bool.false_bne _
  refine ⟨?_, fun r => hlow _ ?_, hlow _ h.dirReverse, hlow _ h.grab, ?_, hlevel .slowdown, hlevel .stop, ?_⟩
  · unfold State.txd
    rw [h.phase, h.sending]
  · show u.psq.route[r] = false
    rw [h.route]
    exact noRuns_getElem r
  · rw [hlevel, ← h.canSelect]
    rfl
  · have hattn : u.logical .attn = true := by
      show u.flags.any = true
      unfold EventFlags.any
      simp [h.restarted]
    rw [hlevel, hattn]

theorem startCompletion_justStarted {kind : StartKind} {cause : StartCause} (h : s.phase = .starting kind cause) :
    ∃ u : State, exec .startCompletion s = .next u ∧ s.JustStarted u := by
  refine ⟨startCompletion s, rfl, ?_⟩
  unfold startCompletion
  rw [h]
  cases kind with
  | cold => exact (s.justStarted_completeCold cause).settle
  | warm => exact (s.justStarted_completeWarm cause).settle

theorem State.beginStart_starting : s.beginStart.params = s.params
    ∧ ∃ (kind : StartKind) (cause : StartCause), s.beginStart.phase = .starting kind cause := by
  unfold State.beginStart
  split
  · exact ⟨rfl, _, _, rfl⟩
  · exact ⟨rfl, _, _, rfl⟩

theorem State.halted_stopped (strike : Strike) : (s.halted strike).phase = .stopped ∧ (s.halted strike).params = s.params := by
  unfold State.halted
  split
  · next h => exact ⟨h, rfl⟩
  · exact ⟨rfl, s.struck_params strike⟩
  · exact ⟨rfl, s.struck_params strike⟩

/-- Every output stands at its inactive level and TXD idle from an assertion of RESET_N. -/
theorem outputs_of_resetNAssert (strike : Strike) (h : s.resetActive = false) :
    ∃ t : State, exec (.resetNAssert strike) s = .next t ∧ t.txd = .idle
      ∧ ∀ o : Output, t.level o = s.params.station.activeLow[o.index] := by
  obtain ⟨hphase, hparams⟩ := s.halted_stopped strike
  have hexec : exec (.resetNAssert strike) s = .next { s.halted strike with resetActive := true } := by
    show Host.Outcome.next (resetAssert strike s) = _
    unfold resetAssert
    rw [h]
    rfl
  generalize s.halted strike = t at hphase hparams hexec
  have hstopped : ({ t with resetActive := true } : State).phase ≠ .running := by
    show t.phase ≠ .running
    rw [hphase]
    simp
  refine ⟨_, hexec, State.txd_not_running _ hstopped, fun o => ?_⟩
  rw [State.level_not_running _ hstopped o]
  show t.params.station.activeLow[o.index] = _
  rw [hparams]

/-- The outputs and TXD through a start on the release of RESET_N. -/
theorem outputs_of_resetNRelease (hp : s.powered = true) (hr : s.resetActive = true) :
    ∃ t u : State, exec .resetNRelease s = .next t ∧ exec .startCompletion t = .next u
      ∧ t.txd = .idle ∧ (∀ o : Output, t.level o = s.params.station.activeLow[o.index]) ∧ t.JustStarted u
      ∧ t.params = s.params := by
  have hexec : exec .resetNRelease s = .next ({ s with resetActive := false } : State).beginStart := by
    show Host.Outcome.next (resetRelease s) = _
    unfold resetRelease
    rw [hr, hp]
    rfl
  obtain ⟨hparams, kind, cause, hphase⟩ := ({ s with resetActive := false } : State).beginStart_starting
  generalize ({ s with resetActive := false } : State).beginStart = t at hexec hparams hphase
  obtain ⟨u, hcompletion, hstarted⟩ := startCompletion_justStarted t hphase
  have hstarting : t.phase ≠ .running := by
    rw [hphase]
    simp
  refine ⟨t, u, hexec, hcompletion, t.txd_not_running hstarting, fun o => ?_, hstarted, hparams⟩
  rw [t.level_not_running hstarting o]
  rw [hparams]

end Outputs

end Sys2Proof.Machine
end

section
/-! Acknowledgement and STATUS (R192 to R197), and the station clock (R200). -/

namespace Sys2Proof.Machine

set_option Elab.async false

/-! ### Acknowledgement (R192) -/

section Acknowledgement

variable (s : State)

theorem mem_allAlarms (a : AlarmId) : a ∈ allAlarms := by
  cases a with
  | station b => cases b <;> decide
  | run r b => revert r; cases b <;> decide

/-- An alarm as an acknowledgement leaves it. -/
def State.ackedAlarm (a : AlarmId) : Alarm :=
  if s.ackChanges a then ⟨(s.alarm a).state.acknowledged, some s.clock⟩ else s.alarm a

theorem State.ackAlarm_frame (a : AlarmId) : s.ackAlarm a = { s with alarms := (s.ackAlarm a).alarms } := by
  unfold State.ackAlarm
  split <;> rfl

theorem State.alarm_ackAlarm (a b : AlarmId) : (s.ackAlarm a).alarm b = if b = a then s.ackedAlarm a else s.alarm b := by
  unfold State.ackAlarm State.ackedAlarm
  by_cases hchanges : s.ackChanges a = true
  · rw [if_pos hchanges, if_pos hchanges]
    split
    · next h =>
      subst h
      exact Vector.getElem_set_self _
    · next h =>
      exact Vector.getElem_set_ne a.index.isLt b.index.isLt
        fun hv => h (AlarmId.index_injective a b (Fin.ext hv)).symm
  · rw [if_neg hchanges, if_neg hchanges]
    split
    · next h => rw [h]
    · rfl

theorem AlarmState.acknowledged_idem (x : AlarmState) : x.acknowledged.acknowledged = x.acknowledged := by
  cases x <;> rfl

theorem State.ackedAlarm_state (a : AlarmId) : (s.ackedAlarm a).state = (s.alarm a).state.acknowledged := by
  unfold State.ackedAlarm State.ackChanges
  split
  · rfl
  · next h => simpa using (not_not.mp (fun h' => h (decide_eq_true h'))).symm

theorem State.ackedAlarm_congr {t : State} {a : AlarmId} (halarm : t.alarm a = s.alarm a) (hclock : t.clock = s.clock) :
    t.ackedAlarm a = s.ackedAlarm a := by
  unfold State.ackedAlarm State.ackChanges
  rw [halarm, hclock]

/-- An acknowledged alarm is left as it is by a further acknowledgement. -/
theorem State.ackedAlarm_idem {t : State} {a : AlarmId} (halarm : t.alarm a = s.ackedAlarm a) :
    t.ackedAlarm a = s.ackedAlarm a := by
  have hsame : t.ackChanges a = false := by
    unfold State.ackChanges
    rw [halarm, State.ackedAlarm_state, AlarmState.acknowledged_idem]
    simp
  unfold State.ackedAlarm at halarm ⊢
  rw [hsame]
  exact halarm

/-- A list of acknowledgements acknowledges its alarms and leaves the others. -/
theorem State.foldl_ackAlarm (as : List AlarmId) : as.foldl State.ackAlarm s = { s with
      alarms := (as.foldl State.ackAlarm s).alarms }
    ∧ ∀ b : AlarmId, (as.foldl State.ackAlarm s).alarm b = if b ∈ as then s.ackedAlarm b else s.alarm b := by
  induction as generalizing s with
  | nil => exact ⟨rfl, fun _ => rfl⟩
  | cons a as ih =>
    have hfirst := s.ackAlarm_frame a
    have halarm := s.alarm_ackAlarm a
    rw [List.foldl_cons]
    obtain ⟨hframe, hrest⟩ := ih (s.ackAlarm a)
    generalize s.ackAlarm a = t at hfirst halarm hframe hrest
    have hclock : t.clock = s.clock := by rw [hfirst]
    refine ⟨?_, fun b => ?_⟩
    · rw [hfirst] at hframe ⊢
      exact hframe
    · rw [hrest b]
      by_cases hb : b = a
      · subst hb
        have hb := halarm b
        rw [if_pos rfl] at hb
        rw [s.ackedAlarm_idem hb, hb, ite_self, if_pos List.mem_cons_self]
      · have hother := halarm b
        rw [if_neg hb] at hother
        rw [s.ackedAlarm_congr hother hclock, hother]
        simp [hb]

theorem runOfNumber?_succ (r : Run) : runOfNumber? (r.val + 1) = some r := by
  revert r
  decide

theorem ackTargets?_one (a : AlarmId) :
    ackTargets? .one (some a.name) (a.subject?.map (fun r => r.val + 1)) = some [a] := by
  cases a with
  | station b => rfl
  | run r b =>
    show (runOfNumber? (r.val + 1)).map _ = _
    rw [runOfNumber?_succ]
    rfl

end Acknowledgement

section Requests

variable {s : State}

theorem exec_alarmAck_all (hr : s.Ready) :
    ∃ (t : State) (n : Nat), exec (.alarmAck .all none none) s = .next t
      ∧ (∀ a : AlarmId, (t.alarm a).state = (s.alarm a).state.acknowledged
          ∧ ((t.alarm a).state = (s.alarm a).state → t.alarm a = s.alarm a)
          ∧ ((t.alarm a).state ≠ (s.alarm a).state → (t.alarm a).changed = some s.clock)
          ∧ t.alarmRaised a = s.alarmRaised a)
      ∧ n = allAlarms.countP (fun a => decide ((t.alarm a).state ≠ (s.alarm a).state))
      ∧ t = { s with alarms := t.alarms, reply := some ⟨.ok, [.u16 n]⟩ } := by
  obtain ⟨hframe, halarms⟩ := s.foldl_ackAlarm allAlarms
  have hacked (a : AlarmId) : (allAlarms.foldl State.ackAlarm s).alarm a = s.ackedAlarm a := by
    rw [halarms, if_pos (mem_allAlarms a)]
  have htake : takeAlarmAck .all none none s
      = (allAlarms.foldl State.ackAlarm s, .okWith [.u16 (allAlarms.countP s.ackChanges)]) := rfl
  generalize allAlarms.foldl State.ackAlarm s = u at hframe hacked htake
  have hsettled : u.Settled := by
    rw [hframe]
    exact hr.2.2
  have hstate (a : AlarmId) : (u.alarm a).state = (s.alarm a).state.acknowledged := by
    rw [hacked, State.ackedAlarm_state]
  refine ⟨_, allAlarms.countP s.ackChanges, exec_of_request_settled hr rfl htake hsettled,
    fun a => ⟨hstate a, fun h => ?_, fun h => ?_, ?_⟩, ?_, ?_⟩
  · show u.alarm a = s.alarm a
    have hsame : (s.alarm a).state.acknowledged = (s.alarm a).state := (hstate a).symm.trans h
    rw [hacked]
    exact if_neg (by simp [State.ackChanges, hsame])
  · have hne : (s.alarm a).state.acknowledged ≠ (s.alarm a).state := fun h' => h ((hstate a).trans h')
    show (u.alarm a).changed = some s.clock
    have hchanges : s.ackChanges a = true := decide_eq_true hne
    rw [hacked, State.ackedAlarm, if_pos hchanges]
  · show u.alarmRaised a = s.alarmRaised a
    unfold State.alarmRaised
    rw [hstate]
    cases (s.alarm a).state <;> rfl
  · refine congrArg (allAlarms.countP ·) (funext fun a => ?_)
    show decide _ = decide ((u.alarm a).state ≠ _)
    rw [hstate]
  · rw [hframe]
    rfl

theorem exec_alarmAck_one (hr : s.Ready) (a : AlarmId) :
    exec (.alarmAck .one (some a.name) (a.subject?.map (fun r => r.val + 1))) s
      = .next (if (s.alarm a).state.acknowledged = (s.alarm a).state then { s with reply := some ⟨.ok, [.u16 0]⟩ }
        else { s with
          alarms := s.alarms.set a.index ⟨(s.alarm a).state.acknowledged, some s.clock⟩
          reply := some ⟨.ok, [.u16 1]⟩ }) := by
  have htake : takeAlarmAck .one (some a.name) (a.subject?.map (fun r => r.val + 1)) s
      = (s.ackAlarm a, .okWith [.u16 ([a].countP s.ackChanges)]) := by
    unfold takeAlarmAck
    rw [ackTargets?_one]
    rfl
  have hsettled : (s.ackAlarm a).Settled := by
    rw [s.ackAlarm_frame a]
    exact hr.2.2
  rw [exec_of_request_settled hr rfl htake hsettled]
  unfold State.ackAlarm
  rw [List.countP_singleton]
  by_cases hsame : (s.alarm a).state.acknowledged = (s.alarm a).state
  · have hchanges : s.ackChanges a = false := by simp [State.ackChanges, hsame]
    rw [hchanges, if_pos hsame]
    rfl
  · have hchanges : s.ackChanges a = true := decide_eq_true hsame
    rw [hchanges, if_neg hsame]
    rfl

theorem State.logical_commonAlarm_iff (s : State) :
    s.logical .commonAlarm = true ↔ ∃ a : AlarmId, (s.alarm a).state ≠ .normal := by
  show s.commonAlarm = true ↔ _
  unfold State.commonAlarm
  rw [List.any_eq_true]
  exact ⟨fun ⟨a, _, ha⟩ => ⟨a, of_decide_eq_true ha⟩, fun ⟨a, ha⟩ => ⟨a, mem_allAlarms a, decide_eq_true ha⟩⟩

theorem EventFlags.any_iff (fs : EventFlags) : fs.any = true ↔ ∃ f : EventFlag, fs.has f = true := by
  unfold EventFlags.any
  constructor
  · intro h
    simp only [Bool.or_eq_true] at h
    obtain ((((((h | h) | h) | h) | h) | h) | h) | h := h
    exacts [⟨.batchClosed, h⟩, ⟨.ticketStored, h⟩, ⟨.proveFinished, h⟩, ⟨.alarmChanged, h⟩, ⟨.slowdownReached, h⟩,
      ⟨.targetReached, h⟩, ⟨.stagingAbandoned, h⟩, ⟨.restarted, h⟩]
  · rintro ⟨f, hf⟩
    cases f <;> simp_all [EventFlags.has]

/-- Settles O57, from the levels through a stop and a start, the acknowledgements, and the flags that STATUS hands over. -/
theorem acknowledgementAndStatusClearTheirOwn : Obligations.AcknowledgementAndStatusClearTheirOwn := by
  refine ⟨fun s hrun o => s.level_running hrun o, fun s strike h => outputs_of_resetNAssert s strike h,
    fun s hp hr _ => ?_, fun s hr => ⟨exec_alarmAck_all hr, exec_alarmAck_one hr, fun a => ?_, ?_,
      s.logical_commonAlarm_iff, s.flags.any_iff⟩⟩
  · obtain ⟨t, u, hrelease, hcompletion, htxd, hlevels, hstarted, hparams⟩ := outputs_of_resetNRelease s hp hr
    have hstartedLevels := hstarted.levels
    rw [hparams] at hstartedLevels
    exact ⟨t, u, hrelease, hcompletion, htxd, hlevels, hstartedLevels⟩
  · exact exec_of_request_refused hr rfl rfl
  · have htake : takeStatus s = ({ s with flags := .none }, .okWith (flagField s.flags.bits
        :: ({ s with flags := .none } : State).statusFields)) := rfl
    exact ⟨_, _, exec_of_request_settled hr rfl htake hr.2.2, rfl, rfl⟩

end Requests

/-! ### The station clock (R200) -/

section Clock

variable {s : State}

/-- A state whose content has been written whole is settled. -/
theorem State.retainedUpdate_settled (s : State) : s.retainedUpdate.Settled := by
  obtain ⟨hbank, -, -, -, hframe⟩ := s.retainedUpdate_of_current
  show s.retainedUpdate.ret = s.retainedUpdate.currentBank.content
  rw [hbank, hframe]

theorem exec_setTime (hr : s.Ready) {n : Nat} (hn : n ≤ 4294967295) :
    ∃ t : State, exec (.setTime n) s = .next t ∧ t.Settled ∧ t.clock = n ∧ t.secondFrom = s.now
      ∧ t.ret = { s.ret with clockSet := true, lastSeen := n } ∧ t.current ≠ s.current
      ∧ t.alarmRaised (.station .timeUnset) = false ∧ t.reply = some ⟨.ok, []⟩
      ∧ t.audit = s.audit.write ⟨s.auditNext, s.clock, .timeSet s.clock n⟩ ∧ t.auditNext = s.auditNext + 1
      ∧ t = { s with
          ret := t.ret, bankA := t.bankA, bankB := t.bankB, current := t.current, clock := t.clock
          secondFrom := t.secondFrom, audit := t.audit, auditNext := t.auditNext, alarms := t.alarms
          flags := t.flags, reply := t.reply } := by
  obtain ⟨u, hu⟩ : ∃ u : State, u = { s.appendAudit (.timeSet s.clock n) with
    clock := n, secondFrom := s.now, ret := { s.ret with clockSet := true, lastSeen := n } } := ⟨_, rfl⟩
  have htake : takeSetTime n s = ((u.clearAlarm (.station .timeUnset)).retainedUpdate, .justOk) := by
    rw [hu]
    exact if_pos hn
  have hmoved := u.alarmsMoved_moveAlarm (.station .timeUnset) .cleared
  have hcleared : (u.clearAlarm (.station .timeUnset)).alarmRaised (.station .timeUnset) = false := by
    unfold State.alarmRaised State.clearAlarm
    rw [u.alarm_moveAlarm_same]
    cases (u.alarm (.station .timeUnset)).state <;> rfl
  have hframe : u.clearAlarm (.station .timeUnset) = { u with
    alarms := (u.clearAlarm (.station .timeUnset)).alarms, flags := (u.clearAlarm (.station .timeUnset)).flags } :=
    hmoved.frame
  generalize u.clearAlarm (.station .timeUnset) = v at htake hcleared hframe
  obtain ⟨-, hcurrent, -, -, hwritten⟩ := v.retainedUpdate_of_current
  have hsettled := v.retainedUpdate_settled
  generalize v.retainedUpdate = w at htake hcurrent hwritten hsettled
  rw [hu] at hframe
  rw [hframe] at hwritten
  have hof {α : Type} (p : State → α) := congrArg p hwritten
  have hraised : w.alarmRaised (.station .timeUnset) = false := by
    rw [State.alarmRaised_congr (State.alarm_eq_of_alarms_eq (hof State.alarms) _)]
    exact hcleared
  have hother : w.current ≠ s.current := by
    rw [hframe] at hcurrent
    exact hcurrent
  refine ⟨{ w with reply := some .justOk }, exec_of_request_settled hr rfl htake hsettled, hsettled, hof State.clock,
    hof State.secondFrom, hof State.ret, hother, hraised, rfl, hof State.audit, hof State.auditNext, ?_⟩
  rw [hwritten]
  rfl

/-- The last-seen time written with the clock. -/
theorem State.writeLastSeen_spec (s : State) : s.writeLastSeen.Settled ∧ s.writeLastSeen.current ≠ s.current
    ∧ s.writeLastSeen = { s with
        ret := { s.ret with lastSeen := s.clock }, bankA := s.writeLastSeen.bankA, bankB := s.writeLastSeen.bankB
        current := s.writeLastSeen.current } := by
  obtain ⟨-, hcurrent, -, -, hframe⟩ :=
    (s.modRet (fun ret => { ret with lastSeen := s.clock })).retainedUpdate_of_current
  exact ⟨State.retainedUpdate_settled _, hcurrent, hframe⟩

theorem exec_clockSecond_running (hrun : s.phase = .running) :
    ∃ t : State, exec .clockSecond s = .next t ∧ t.Settled ∧ t.clock = min 4294967295 (s.clock + 1)
      ∧ t.ret = { s.ret with lastSeen := t.clock } ∧ t.current ≠ s.current
      ∧ t = { s with
          now := max s.now (s.secondFrom + 10000000), secondFrom := s.secondFrom + 10000000, clock := t.clock
          ret := t.ret, bankA := t.bankA, bankB := t.bankB, current := t.current } := by
  obtain ⟨hsettled, hcurrent, hframe⟩ := s.tickClock.writeLastSeen_spec
  have hexec : exec .clockSecond s = .next s.tickClock.writeLastSeen := by
    refine (exec_of_event hrun (f := clockSecond) rfl).trans ?_
    exact congrArg Host.Outcome.next (State.settle_of_settled _ hsettled)
  generalize s.tickClock.writeLastSeen = t at hsettled hcurrent hframe hexec
  have hof {α : Type} (p : State → α) := congrArg p hframe
  have hclock : t.clock = min 4294967295 (s.clock + 1) := hof State.clock
  refine ⟨t, hexec, hsettled, hclock, ?_, hcurrent, ?_⟩
  · rw [hclock]
    exact hof State.ret
  · rw [hframe]
    rfl

/-- Settles O58: SET TIME and a second of a running module write the last-seen time; of a stopped module the second moves
the clock alone. -/
theorem clockIsSetAndCounts : Obligations.ClockIsSetAndCounts := by
  refine fun s => ⟨fun hr n hn => exec_setTime hr hn, exec_clockSecond_running, fun h => ?_⟩
  rw [exec_eq_next_iff]
  exact if_neg h

end Clock

end Sys2Proof.Machine
end

section
/-! The reading requests and FREEZE (R41, R64, R86, R95, R96, R154, R168, R179, R181, R183, R194, R199). -/

namespace Sys2Proof.Machine

set_option Elab.async false

section Reads

variable {s : State} {c : Instr} {f : Owner} {reply : Reply}

theorem exec_of_read (hr : s.Ready) (hc : Instr.taking c = .request f) (hf : f s = (s, reply)) :
    exec c s = .next { s with reply := some reply } :=
  exec_of_request_settled hr hc hf hr.2.2

/-! ### A reading request answers from the state that it leaves -/

theorem takeReadValues_state (mark : ListMark) (is : List Nat) (s : State) : (takeReadValues mark is s).1 = s := by
  unfold takeReadValues
  cases mark with
  | list =>
    dsimp only
    split <;> rfl
  | all =>
    dsimp only
    split <;> rfl

theorem takeReadSection_state (n : Nat) (s : State) : (takeReadSection n s).1 = s := by
  unfold takeReadSection
  split <;> rfl

theorem takeReadRun_state (n : Nat) (s : State) : (takeReadRun n s).1 = s := by
  unfold takeReadRun
  split <;> rfl

theorem takeReadTotals_state (source : TotalsSource) (part : TotalsPart) (run batchId : Option Nat) (s : State) :
    (takeReadTotals source part run batchId s).1 = s := by
  unfold takeReadTotals
  split
  · split
    · rfl
    · split <;> rfl
  · rfl

theorem takeTicketRead_state (n : Nat) (s : State) : (takeTicketRead n s).1 = s := by
  unfold takeTicketRead
  split
  · rfl
  · split
    · split <;> rfl
    · split <;> rfl

theorem takeStatusMatch_state (ps : List MatchPair) (s : State) : (takeStatusMatch ps s).1 = s := by
  unfold takeStatusMatch
  split <;> rfl

/-- The requests that only read. -/
theorem exec_reads (hr : s.Ready) (c : Instr)
    (hc : (∃ mark is, c = .readValues mark is) ∨ (∃ n, c = .readSection n) ∨ (∃ n, c = .readRun n)
      ∨ (∃ src part run id, c = .readTotals src part run id) ∨ c = .batchList ∨ c = .readProve
      ∨ c = .readSampler ∨ (∃ n, c = .ticketRead n) ∨ c = .archiveStatus ∨ (∃ n, c = .auditRead n)
      ∨ (∃ b, c = .readAlarms b) ∨ (∃ ps, c = .statusMatch ps)) :
    ∃ reply : Reply, exec c s = .next { s with reply := some reply } := by
  have hread {c : Instr} {f : Owner} (htaking : Instr.taking c = .request f) (hsame : (f s).1 = s) :
      ∃ reply : Reply, exec c s = .next { s with reply := some reply } :=
    ⟨(f s).2, exec_of_read hr htaking (Prod.ext hsame rfl)⟩
  rcases hc with ⟨mark, is, rfl⟩ | ⟨n, rfl⟩ | ⟨n, rfl⟩ | ⟨source, part, run, id, rfl⟩ | rfl | rfl | rfl | ⟨n, rfl⟩ | rfl
    | ⟨n, rfl⟩ | ⟨b, rfl⟩ | ⟨ps, rfl⟩
  · exact hread rfl (takeReadValues_state mark is s)
  · exact hread rfl (takeReadSection_state n s)
  · exact hread rfl (takeReadRun_state n s)
  · exact hread rfl (takeReadTotals_state source part run id s)
  · exact hread (f := takeBatchList) rfl rfl
  · exact hread (f := takeReadProve) rfl rfl
  · exact hread (f := takeReadSampler) rfl rfl
  · exact hread rfl (takeTicketRead_state n s)
  · exact hread (f := takeArchiveStatus) rfl rfl
  · exact hread (f := takeAuditRead n) rfl rfl
  · exact hread (f := takeReadAlarms b) rfl rfl
  · exact hread rfl (takeStatusMatch_state ps s)

/-! ### What some of them answer -/

theorem takeReadSection_number (ref : SectionRef) (s : State) : takeReadSection ref.number.val s
    = (s, .okWith ([.u8 ref.number.val, .u8 (if s.locked ref then 1 else 0), .u16 (sectionDigest s.params ref).toNat]
        ++ sectionContent s.params ref)) := by
  unfold takeReadSection
  rw [sectionOfNumber?_number]
  rfl

theorem takeReadRun_number (r : Run) (s : State) : takeReadRun (r.val + 1) s = (s, .okWith (s.runReply r)) := by
  unfold takeReadRun
  rw [runOfNumber?_succ]

theorem takeReadTotals_liveRun (r : Run) (s : State) : takeReadTotals .live .run (some (r.val + 1)) none s
    = (s, .okWith (.u8 0 :: (cumulativeTotalsFields s.ret.runTotals[r] ++ pulseCountFields s.ret.pulseCounts[r]))) := by
  have hfits : partFits .run (some (r.val + 1)) none = true := by
    show ((runOfNumber? (r.val + 1)).isSome && true) = true
    rw [runOfNumber?_succ]
    rfl
  have hpart : readPart s.takeSnapshot .run (some (r.val + 1)) none = (.ok, runTotalsFields s.takeSnapshot r) := by
    unfold readPart
    simp only [runOfNumber?_succ]
  unfold takeReadTotals
  rw [if_pos hfits]
  simp only [State.totalsSource?, hpart]
  rfl

theorem takeReadTotals_noSnapshot (h : s.snapshot = none) :
    takeReadTotals .snapshot .station none none s = refuse s .noSnapshot := by
  have hfits : partFits .station none none = true := rfl
  unfold takeReadTotals
  rw [if_pos hfits]
  simp only [State.totalsSource?, h]

theorem takeTicketRead_valid {n : Nat} {ij : Sector × Sector} {k : Ticket} (hn : n ≠ 0)
    (hfind : s.archive.findTicket? n = some ij) (hslot : s.archive.slot ij = .valid k) :
    takeTicketRead n s
      = (s, .okWith ([.u8 0, .u8 1, .u8 ij.1.val, .u8 1, .u8 ij.2.val] ++ ticketFields k)) := by
  unfold takeTicketRead
  rw [if_neg hn]
  simp only [hfind, hslot, SlotState.ticket?]
  rfl

theorem takeArchiveStatus_head (s : State) :
    ∃ fields : List Field, takeArchiveStatus s = (s, .okWith (archiveFields s.archive ++ fields)) := by
  unfold takeArchiveStatus
  simp only [List.append_assoc]
  exact ⟨_, rfl⟩

/-- What an AUDIT READ picks from the ring (R183). -/
theorem auditAnswer_spec (es : List AuditEntry) (n : Counter) :
    (auditAnswer es n).1.length ≤ 8 ∧ (auditAnswer es n).1.Sublist es
      ∧ (es = [] → (auditAnswer es n).1 = [] ∧ (auditAnswer es n).2 = false)
      ∧ ∀ first last : AuditEntry, es.head? = some first → es.getLast? = some last →
        (inRing first.seq last.seq n = true → (auditAnswer es n).2 = false
          ∧ (auditAnswer es n).1
            = (es.filter (fun e => decide ((n - first.seq).toNat ≤ (e.seq - first.seq).toNat))).take 8)
        ∧ (inRing first.seq last.seq n = false →
          (beyondNewest last.seq n = true → (auditAnswer es n).1 = [] ∧ (auditAnswer es n).2 = false)
          ∧ (beyondNewest last.seq n = false → (auditAnswer es n).1 = es.take 8 ∧ (auditAnswer es n).2 = true)) := by
  unfold auditAnswer
  cases hhead : es.head? with
  | none =>
    have hnil : es = [] := List.head?_eq_none_iff.mp hhead
    subst hnil
    exact ⟨Nat.zero_le 8, List.Sublist.refl [], fun _ => ⟨rfl, rfl⟩, fun _ _ h => by cases h⟩
  | some first =>
    have hne : es ≠ [] := fun h => by
      rw [h] at hhead
      cases hhead
    cases hlast : es.getLast? with
    | none => exact absurd (List.getLast?_eq_none_iff.mp hlast) hne
    | some last =>
      refine ⟨?_, ?_, fun h => absurd h hne, fun x y hx hy => ?_⟩
      · dsimp only
        split
        · exact List.length_take_le 8 _
        · split
          · exact Nat.zero_le 8
          · exact List.length_take_le 8 _
      · dsimp only
        split
        · exact (List.take_sublist 8 _).trans List.filter_sublist
        · split
          · exact List.nil_sublist es
          · exact List.take_sublist 8 es
      · cases hx
        cases hy
        refine ⟨fun hin => ?_, fun hout => ⟨fun hbeyond => ?_, fun hbeyond => ?_⟩⟩
        · dsimp only
          rw [if_pos hin]
          exact ⟨rfl, rfl⟩
        · dsimp only
          rw [if_neg (by simp [hout]), if_pos hbeyond]
          exact ⟨rfl, rfl⟩
        · dsimp only
          rw [if_neg (by simp [hout]), if_neg (by simp [hbeyond])]
          exact ⟨rfl, rfl⟩

/-- The reply of an AUDIT READ (R183). -/
theorem takeAuditRead_eq (s : State) (n : Counter) : takeAuditRead n s = (s, .okWith
    (.u8 (auditAnswer s.audit.entries n).1.length :: (auditAnswer s.audit.entries n).1.flatMap auditFields
      ++ [.u8 (if (auditAnswer s.audit.entries n).2 then 1 else 0)]
      ++ (match s.audit.entries.head? with | none => [.u8 0] | some e => [.u8 1, .u32 e.seq.toNat])
      ++ (match s.audit.entries.getLast? with | none => [.u8 0] | some e => [.u8 1, .u32 e.seq.toNat])
      ++ [.u32 s.auditNext.toNat])) := by
  unfold takeAuditRead
  cases s.audit.entries.head? <;> cases s.audit.entries.getLast? <;> rfl

theorem takeStatusMatch_eight {ps : List MatchPair} (h : ps.length = 8) : takeStatusMatch ps s
    = (s, .okWith [.u8 (bitsValue [pairsMatch ps (s.summaryFlags 0).bits, pairsMatch ps (s.summaryFlags 1).bits,
        pairsMatch ps (s.summaryFlags 2).bits, pairsMatch ps (s.summaryFlags 3).bits])]) := by
  unfold takeStatusMatch
  rw [if_pos h]
  rfl

/-- Settles O59: a read answers from the state that it leaves, and FREEZE copies it into the latch. -/
theorem readsAnswerAndChangeNothing : Obligations.ReadsAnswerAndChangeNothing := by
  refine ⟨fun s hr => ⟨exec_reads hr, ?_, fun ref => ?_, fun r => ?_, fun r => ?_, fun h => ?_, ?_, ?_, ?_,
    fun n ij k hn hfind hslot => ?_, ?_, fun n => ?_, ?_, fun ps hps => ?_⟩, fun s hr => ?_⟩
  · exact exec_of_read hr rfl (f := takeReadValues .all []) rfl
  · exact exec_of_read hr rfl (takeReadSection_number ref s)
  · exact exec_of_read hr rfl (takeReadRun_number r s)
  · exact exec_of_read hr rfl (takeReadTotals_liveRun r s)
  · exact exec_of_read hr rfl (takeReadTotals_noSnapshot h)
  · exact ⟨_, exec_of_read hr rfl (f := takeBatchList) rfl⟩
  · exact ⟨_, exec_of_read hr rfl (f := takeReadProve) rfl⟩
  · exact ⟨_, exec_of_read hr rfl (f := takeReadSampler) rfl⟩
  · exact exec_of_read hr rfl (takeTicketRead_valid hn hfind hslot)
  · obtain ⟨fields, hstatus⟩ := takeArchiveStatus_head s
    exact ⟨fields, exec_of_read hr rfl hstatus⟩
  · obtain ⟨hlength, hsub, hempty, hpicked⟩ := auditAnswer_spec s.audit.entries n
    exact ⟨_, _, rfl, hlength, hsub, hempty, hpicked, exec_of_read hr rfl (takeAuditRead_eq s n)⟩
  · exact exec_of_read hr rfl (f := takeReadAlarms true) rfl
  · exact exec_of_read hr rfl (takeStatusMatch_eight hps)
  · exact exec_of_request_settled hr rfl (f := takeFreeze) rfl hr.2.2

end Reads

end Sys2Proof.Machine
end

section
/-! Readers of request bodies (R207, R208): what a reader takes of the bytes of its fields, that more bytes behind them change
nothing in what it has taken, and readers of a fixed length. -/

namespace Sys2Proof.Machine

set_option Elab.async false

/-! ### Bytes of numbers (R208) -/

theorem leBytes_length (k n : Nat) : (leBytes k n).length = k := by
  induction k generalizing n with
  | zero => rfl
  | succ k ih => exact congrArg (· + 1) (ih _)

theorem ofLe_leBytes (k n : Nat) (h : n < 256 ^ k) : ofLe (leBytes k n) = n := by
  induction k generalizing n with
  | zero =>
    have hn : n = 0 := by simpa using h
    rw [hn]
    rfl
  | succ k ih =>
    have hdiv : n / 256 < 256 ^ k := by
      rw [Nat.div_lt_iff_lt_mul (by decide)]
      rwa [pow_succ] at h
    show (BitVec.ofNat 8 n).toNat + 256 * ofLe (leBytes k (n / 256)) = n
    rw [ih _ hdiv, BitVec.toNat_ofNat]
    omega

theorem fieldBytes_nil : fieldBytes [] = [] := rfl

theorem fieldBytes_cons (a : Field) (fs : List Field) : fieldBytes (a :: fs) = a.bytes ++ fieldBytes fs := rfl

theorem fieldBytes_append (fs gs : List Field) : fieldBytes (fs ++ gs) = fieldBytes fs ++ fieldBytes gs :=
  List.flatMap_append

/-! ### What a reader takes -/

section Takes

variable {α β γ : Type} {p : List Byte → Parse α} {f : α → List Byte → Parse β} {bs cs : List Byte} {a : α} {b : β}

/-- Before whatever stands behind them, a reader takes exactly the bytes and gives the value. -/
def Takes (p : List Byte → Parse α) (bs : List Byte) (a : α) : Prop := ∀ rest : List Byte, p (bs ++ rest) = .done a rest

theorem Takes.of_bytes_eq (h : Takes p bs a) (heq : bs = cs) : Takes p cs a := heq ▸ h

theorem Takes.of_value_eq {a' : α} (h : Takes p bs a) (heq : a = a') : Takes p bs a' := heq ▸ h

theorem takes_nothing (a : α) : Takes (readNothing a) [] a := fun _ => rfl

theorem Takes.readThen (h : Takes p bs a) (k : Takes (f a) cs b) : Takes (readThen p f) (bs ++ cs) b := by
  intro rest
  unfold Machine.readThen
  rw [List.append_assoc, h]
  exact k rest

theorem takes_bytes (bs : List Byte) : Takes (readBytes bs.length) bs bs := readBytes_append bs

/-- A reader that ends with a value made of what one reader takes. -/
theorem Takes.map (h : Takes p bs a) (g : α → β) :
    Takes (Machine.readThen p fun x => readNothing (g x)) bs (g a) :=
  (h.readThen (takes_nothing (g a))).of_bytes_eq (List.append_nil bs)

theorem takes_unsigned {k n : Nat} (h : n < 256 ^ k) : Takes (readUnsigned k) (leBytes k n) n := by
  have hbytes := takes_bytes (leBytes k n)
  rw [leBytes_length] at hbytes
  exact (hbytes.map ofLe).of_value_eq (ofLe_leBytes k n h)

theorem takes_signed {v : Int} (h : fitsSigned v = true) : Takes readSigned (Field.s32 v).bytes v := by
  obtain ⟨hlow, hhigh⟩ := of_decide_eq_true h
  have hbytes := takes_bytes (leBytes 4 (BitVec.ofInt 32 v).toNat)
  rw [leBytes_length] at hbytes
  refine (hbytes.map fun taken => (BitVec.ofNat 32 (ofLe taken)).toInt).of_value_eq ?_
  have hlt : (BitVec.ofInt 32 v).toNat < 256 ^ 4 := (BitVec.ofInt 32 v).isLt
  simp only [ofLe_leBytes 4 _ hlt, BitVec.ofNat_toNat, BitVec.setWidth_eq]
  rw [BitVec.toInt_ofInt]
  exact Int.bmod_eq_of_le (by omega) (by omega)

theorem takes_text {t : Text} (h : t.length < 256) : Takes readText (Field.text t).bytes t := by
  have hcount : Takes (readUnsigned 1) [BitVec.ofNat 8 t.length] t.length := takes_unsigned (k := 1) h
  exact hcount.readThen (takes_bytes t)

theorem takes_member {members : List α} {i : Nat} (h : i < 256) :
    Takes (readMember members) (Field.u8 i).bytes members[i]? :=
  (takes_unsigned (k := 1) h).map fun n => members[n]?

/-- An optional field, absent or present. -/
theorem takes_optional {δ : Type} (o : Option δ) (g : δ → α) (fields : δ → List Field)
    (h : ∀ d : δ, o = some d → Takes p (fieldBytes (fields d)) (g d)) :
    Takes (readOptional p) (fieldBytes (optField o fields)) (o.map g) := by
  cases o with
  | none => exact fun rest => rfl
  | some d =>
    intro rest
    have hpresent : Takes (Machine.readThen p fun a => readNothing (some a)) (fieldBytes (fields d)) (some (g d)) :=
      (h d rfl).map some
    exact hpresent rest

theorem takes_entries {δ : Type} (xs : List δ) (g : δ → α) (fields : δ → List Field)
    (h : ∀ d ∈ xs, Takes p (fieldBytes (fields d)) (g d)) :
    Takes (readEntries p xs.length) (fieldBytes (xs.flatMap fields)) (xs.map g) := by
  induction xs with
  | nil => exact fun rest => rfl
  | cons x xs ih =>
    have hmore := ih fun d hd => h d (List.mem_cons_of_mem x hd)
    have hall := (h x List.mem_cons_self).readThen (f := fun a => Machine.readThen (readEntries p xs.length) fun more =>
      readNothing (a :: more)) (hmore.map fun more => g x :: more)
    rw [List.flatMap_cons, fieldBytes_append]
    exact hall

theorem takes_list {δ : Type} (xs : List δ) (g : δ → α) (fields : δ → List Field) (hlen : xs.length < 256)
    (h : ∀ d ∈ xs, Takes p (fieldBytes (fields d)) (g d)) :
    Takes (readList p) (fieldBytes (listField xs fields)) (xs.map g) :=
  (takes_unsigned (k := 1) hlen).readThen (takes_entries xs g fields h)

theorem allSome_map_some (xs : List α) : allSome (xs.map some) = some xs := by
  induction xs with
  | nil => rfl
  | cons x xs ih =>
    show (allSome (xs.map some)).map _ = _
    rw [ih]
    rfl

theorem runSetOfByte?_bits (rs : RunSet) :
    runSetOfByte? (bitsValue rs.toList) = if rs = noRuns then none else some rs := by
  obtain ⟨⟨l⟩, hl⟩ := rs
  match l, hl with
  | [a, b, c, d], _ => revert a b c d; decide

theorem bitsValue_lt (rs : RunSet) : bitsValue rs.toList < 256 := by
  obtain ⟨⟨l⟩, hl⟩ := rs
  match l, hl with
  | [a, b, c, d], _ => revert a b c d; decide

theorem takes_runSet (rs : RunSet) :
    Takes readRunSet (runSetField rs).bytes (if rs = noRuns then none else some rs) :=
  ((takes_unsigned (k := 1) (bitsValue_lt rs)).map runSetOfByte?).of_value_eq (runSetOfByte?_bits rs)

end Takes

/-! ### More bytes behind a body -/

section Firm

variable {α β : Type} {p : List Byte → Parse α} {f : α → List Byte → Parse β}

/-- What a reader has taken of a body, and an undecided presence byte, it finds again with more bytes behind the body. -/
def Firm (p : List Byte → Parse α) : Prop := ∀ bs extra : List Byte,
  (∀ (a : α) (rest : List Byte), p bs = .done a rest → p (bs ++ extra) = .done a (rest ++ extra))
  ∧ (∀ x y : Parse α, p bs = .either x y → ∃ x' y' : Parse α, p (bs ++ extra) = .either x' y')

theorem firm_nothing (a : α) : Firm (readNothing a) := by
  refine fun bs extra => ⟨fun b rest h => ?_, fun x y h => by cases h⟩
  cases h
  rfl

theorem Firm.readThen (hp : Firm p) (hf : ∀ a : α, Firm (f a)) : Firm (readThen p f) := by
  intro bs extra
  obtain ⟨hdone, heither⟩ := hp bs extra
  unfold Machine.readThen
  cases h : p bs with
  | done a rest =>
    rw [hdone a rest h]
    exact hf a rest extra
  | short => exact ⟨fun b rest h => (by cases h), fun x y h => by cases h⟩
  | either x y =>
    obtain ⟨x', y', h'⟩ := heither x y h
    rw [h']
    exact ⟨fun b rest h => (by cases h), fun _ _ _ => ⟨_, _, rfl⟩⟩

theorem Firm.map (hp : Firm p) (g : α → β) : Firm (Machine.readThen p fun x => readNothing (g x)) :=
  hp.readThen fun a => firm_nothing (g a)

theorem firm_bytes (k : Nat) : Firm (readBytes k) := by
  refine fun bs extra => ⟨fun a rest h => ?_, fun x y h => ?_⟩
  · unfold readBytes at h ⊢
    split at h
    · next hk =>
      cases h
      rw [if_pos (by rw [List.length_append]; omega), List.take_append_of_le_length hk,
        List.drop_append_of_le_length hk]
    · cases h
  · unfold readBytes at h
    split at h <;> cases h

theorem firm_unsigned (k : Nat) : Firm (readUnsigned k) := (firm_bytes k).map ofLe

theorem firm_signed : Firm readSigned := (firm_bytes 4).map fun taken => (BitVec.ofNat 32 (ofLe taken)).toInt

theorem firm_text : Firm readText := (firm_unsigned 1).readThen firm_bytes

theorem firm_member (members : List α) : Firm (readMember members) := (firm_unsigned 1).map fun n => members[n]?

theorem firm_runSet : Firm readRunSet := (firm_unsigned 1).map runSetOfByte?

theorem firm_optional (hp : Firm p) : Firm (readOptional p) := by
  intro bs extra
  cases bs with
  | nil => exact ⟨fun a rest h => (by cases h), fun x y h => by cases h⟩
  | cons b bs =>
    rw [List.cons_append]
    unfold readOptional
    dsimp only
    split
    · refine ⟨fun a rest h => ?_, fun x y h => by cases h⟩
      cases h
      rfl
    · split
      · exact hp.map some bs extra
      · exact ⟨fun a rest h => (by cases h), fun _ _ _ => ⟨_, _, rfl⟩⟩

theorem firm_entries (hp : Firm p) (n : Nat) : Firm (readEntries p n) := by
  induction n with
  | zero =>
    refine fun bs extra => ⟨fun a rest h => ?_, fun x y h => by cases h⟩
    cases h
    rfl
  | succ n ih => exact hp.readThen fun a => ih.map fun more => a :: more

theorem firm_list (hp : Firm p) : Firm (readList p) := (firm_unsigned 1).readThen (firm_entries hp)

/-- A body that a firm reader takes whole does not fit it with bytes behind it or cut short. -/
theorem Firm.misfits (hp : Firm p) {bs : List Byte} {a : α} (h : p bs = .done a []) {extra : List Byte}
    (hextra : extra ≠ []) :
    (p (bs ++ extra)).fits = false ∧ ∀ cut : List Byte, bs = cut ++ extra → (p cut).fits = false := by
  refine ⟨?_, fun cut hcut => ?_⟩
  · rw [(hp bs extra).1 a [] h]
    exact List.isEmpty_eq_false_iff.mpr hextra
  · obtain ⟨hdone, heither⟩ := hp cut extra
    rw [← hcut] at hdone heither
    cases hc : p cut with
    | done b rest =>
      have hrest := (hdone b rest hc).symm.trans h
      injection hrest with hvalue hnil
      exact absurd (List.append_eq_nil_iff.mp hnil).2 hextra
    | short => rfl
    | either x y =>
      obtain ⟨x', y', h'⟩ := heither x y hc
      rw [h] at h'
      cases h'

end Firm

/-! ### Readers of a fixed length (R207) -/

section Fixed

variable {α β : Type} {p : List Byte → Parse α} {f : α → List Byte → Parse β} {j k : Nat}

/-- A reader takes the first `k` bytes of any body that has them. -/
def TakesLength (p : List Byte → Parse α) (k : Nat) : Prop := ∀ bs : List Byte,
  (bs.length < k → p bs = .short) ∧ (k ≤ bs.length → ∃ a : α, p bs = .done a (bs.drop k))

theorem takesLength_nothing (a : α) : TakesLength (readNothing a) 0 :=
  fun _ => ⟨fun h => absurd h (Nat.not_lt_zero _), fun _ => ⟨a, rfl⟩⟩

theorem takesLength_bytes (k : Nat) : TakesLength (readBytes k) k :=
  fun _ => ⟨fun h => if_neg (by omega), fun h => ⟨_, if_pos h⟩⟩

theorem TakesLength.readThen (hp : TakesLength p j) (hf : ∀ a : α, TakesLength (f a) k) :
    TakesLength (readThen p f) (j + k) := by
  intro bs
  obtain ⟨hshort, hdone⟩ := hp bs
  unfold Machine.readThen
  refine ⟨fun h => ?_, fun h => ?_⟩
  · by_cases hj : bs.length < j
    · rw [hshort hj]
      rfl
    · obtain ⟨a, ha⟩ := hdone (by omega)
      rw [ha]
      exact (hf a _).1 (by rw [List.length_drop]; omega)
  · obtain ⟨a, ha⟩ := hdone (by omega)
    obtain ⟨b, hb⟩ := (hf a (bs.drop j)).2 (by rw [List.length_drop]; omega)
    rw [List.drop_drop] at hb
    rw [ha]
    exact ⟨b, hb⟩

theorem TakesLength.map (hp : TakesLength p k) (g : α → β) :
    TakesLength (Machine.readThen p fun x => readNothing (g x)) k :=
  hp.readThen fun a => takesLength_nothing (g a)

theorem takesLength_unsigned (k : Nat) : TakesLength (readUnsigned k) k := (takesLength_bytes k).map ofLe

theorem takesLength_signed : TakesLength readSigned 4 :=
  (takesLength_bytes 4).map fun taken => (BitVec.ofNat 32 (ofLe taken)).toInt

theorem takesLength_member (members : List α) : TakesLength (readMember members) 1 :=
  (takesLength_unsigned 1).map fun n => members[n]?

theorem TakesLength.misfits (hp : TakesLength p k) {bs : List Byte} (h : bs.length ≠ k) : (p bs).fits = false := by
  obtain ⟨hshort, hdone⟩ := hp bs
  by_cases hk : bs.length < k
  · rw [hshort hk]
    rfl
  · obtain ⟨a, ha⟩ := hdone (by omega)
    rw [ha]
    refine List.isEmpty_eq_false_iff.mpr fun hnil => ?_
    have hlength := List.length_drop (i := k) (l := bs)
    rw [hnil] at hlength
    simp only [List.length_nil] at hlength
    omega

end Fixed

end Sys2Proof.Machine
end

section
/-! The catalogue of requests (R207, R209, R213): the frame of each command reaches the owner of its command, and what the
link refuses itself. -/

namespace Sys2Proof.Machine

set_option Elab.async false

/-! ### The readers of the catalogue take the fields of their commands -/

section Bodies

theorem fits_one {n : Nat} (h : fitsUnsigned 1 n = true) : n < 256 ^ 1 := of_decide_eq_true h

theorem fits_four {n : Nat} (h : fitsUnsigned 4 n = true) : n < 256 ^ 4 := of_decide_eq_true h

theorem noFields_firm (f : Owner) : Firm (noFields f) := firm_nothing (some f)

theorem noFields_takes (f : Owner) : Takes (noFields f) (fieldBytes []) (some f) := takes_nothing (some f)

theorem oneNumber_firm (k : Nat) (f : Nat → Owner) : Firm (oneNumber k f) := (firm_unsigned k).map fun n => some (f n)

theorem oneNumber_takes_u8 (f : Nat → Owner) {n : Nat} (h : fitsUnsigned 1 n = true) :
    Takes (oneNumber 1 f) (fieldBytes [.u8 n]) (some (f n)) :=
  (takes_unsigned (fits_one h)).map fun n => some (f n)

theorem oneNumber_takes_u32 (f : Nat → Owner) {n : Nat} (h : n < 256 ^ 4) :
    Takes (oneNumber 4 f) (fieldBytes [.u32 n]) (some (f n)) :=
  (takes_unsigned h).map fun n => some (f n)

theorem oneMember_firm {α : Type} (members : List α) (f : α → Owner) : Firm (oneMember members f) :=
  (firm_member members).map fun m => m.map f

theorem oneMember_takes {α : Type} {members : List α} (f : α → Owner) {i : Nat} {a : α} (h : members[i]? = some a)
    (hi : i < 256) : Takes (oneMember members f) (fieldBytes [.u8 i]) (some (f a)) :=
  ((takes_member hi).map fun m => m.map f).of_value_eq (by rw [h]; rfl)

theorem readRunServiceBody_firm : Firm readRunServiceBody :=
  firm_runSet.readThen fun runs => (firm_member _).map fun dir => runs.bind fun rs => dir.map fun d => takeRunService rs d

theorem readRunServiceBody_takes (runs : RunSet) (dir : Direction) :
    Takes readRunServiceBody (fieldBytes [runSetField runs, .u8 (directionCode dir)])
      (if runs = noRuns then none else some (takeRunService runs dir)) := by
  have hdir : Takes (readMember [Direction.into, Direction.out]) (Field.u8 (directionCode dir)).bytes (some dir) :=
    (takes_member (by cases dir <;> decide)).of_value_eq (by cases dir <;> rfl)
  refine Takes.of_value_eq (Takes.readThen (takes_runSet runs) (Takes.map hdir _)) ?_
  split <;> rfl

theorem readLiveEntry_firm : Firm readLiveEntry :=
  (firm_unsigned 1).readThen fun _ => (firm_member _).readThen fun _ => firm_signed.map fun _ => _

theorem readLiveEntry_takes {e : LiveEntry} (h : e.wellFormed = true) :
    Takes readLiveEntry (fieldBytes [.u8 e.index, .u8 (transmitterCode e.status), .s32 e.value]) (some e) := by
  obtain ⟨hindex, hvalue⟩ := Bool.and_eq_true_iff.mp h
  obtain ⟨index, status, value⟩ := e
  have hstatus : Takes (readMember [TransmitterStatus.ok, TransmitterStatus.fault])
      (Field.u8 (transmitterCode status)).bytes (some status) :=
    (takes_member (by cases status <;> decide)).of_value_eq (by cases status <;> rfl)
  exact (takes_unsigned (fits_one hindex)).readThen (hstatus.readThen ((takes_signed hvalue).map fun _ => _))

theorem readLiveValuesBody_firm : Firm readLiveValuesBody := (firm_list readLiveEntry_firm).map fun _ => _

theorem readLiveValuesBody_takes {entries : List LiveEntry} (h : fitsList LiveEntry.wellFormed entries = true) :
    Takes readLiveValuesBody
      (fieldBytes (listField entries fun e => [.u8 e.index, .u8 (transmitterCode e.status), .s32 e.value]))
      (some (takeLiveValues entries)) := by
  obtain ⟨hlength, hall⟩ := Bool.and_eq_true_iff.mp h
  refine ((takes_list entries some _ (of_decide_eq_true hlength) fun e he => readLiveEntry_takes
    (List.all_eq_true.mp hall e he)).map fun _ => _).of_value_eq ?_
  rw [allSome_map_some]
  rfl

theorem readReadValuesBody_firm : Firm readReadValuesBody :=
  (firm_member _).readThen fun _ => (firm_list (firm_unsigned 1)).map fun _ => _

theorem readReadValuesBody_takes (mark : ListMark) {indices : List Nat} (h : fitsList (fitsUnsigned 1) indices = true) :
    Takes readReadValuesBody (fieldBytes (.u8 (listMarkCode mark) :: listField indices fun n => [.u8 n]))
      (some (takeReadValues mark indices)) := by
  obtain ⟨hlength, hall⟩ := Bool.and_eq_true_iff.mp h
  have hmark : Takes (readMember [ListMark.list, ListMark.all]) (Field.u8 (listMarkCode mark)).bytes (some mark) :=
    (takes_member (by cases mark <;> decide)).of_value_eq (by cases mark <;> rfl)
  have hindices : Takes (readList (readUnsigned 1)) (fieldBytes (listField indices fun n => [.u8 n])) indices :=
    (takes_list indices id _ (of_decide_eq_true hlength) fun n hn =>
      takes_unsigned (k := 1) (fits_one (List.all_eq_true.mp hall n hn))).of_value_eq (List.map_id indices)
  exact hmark.readThen (hindices.map fun _ => _)

theorem readOverrideSetBody_firm : Firm readOverrideSetBody :=
  (firm_unsigned 1).readThen fun _ => firm_signed.map fun _ => _

theorem readOverrideSetBody_takes {index : Nat} {value : Int} (hindex : fitsUnsigned 1 index = true)
    (hvalue : fitsSigned value = true) :
    Takes readOverrideSetBody (fieldBytes [.u8 index, .s32 value]) (some (takeOverrideSet index value)) :=
  (takes_unsigned (fits_one hindex)).readThen ((takes_signed hvalue).map fun _ => _)

theorem readStageOpenBody_firm : Firm readStageOpenBody :=
  (firm_member _).readThen fun _ => (firm_optional firm_runSet).readThen fun _ => (firm_unsigned 1).map fun _ => _

theorem readStageOpenBody_takes (kind : SectionKind) (runs : Option RunSet) {count : Nat}
    (h : fitsUnsigned 1 count = true) :
    Takes readStageOpenBody
      (fieldBytes (.u8 (sectionKindCode kind) :: optField runs (fun rs => [runSetField rs]) ++ [.u8 count]))
      (if runs = some noRuns then none else some (takeStageOpen kind runs count)) := by
  have hkind : Takes (readMember sectionKinds) (Field.u8 (sectionKindCode kind)).bytes (some kind) :=
    (takes_member (by cases kind <;> decide)).of_value_eq (by cases kind <;> rfl)
  have hruns : Takes (readOptional readRunSet) (fieldBytes (optField runs fun rs => [runSetField rs])) (runs.map fun rs =>
      if rs = noRuns then none else some rs) := takes_optional runs _ _ fun rs _ => takes_runSet rs
  refine Takes.of_bytes_eq (bs := (Field.u8 (sectionKindCode kind)).bytes
    ++ (fieldBytes (optField runs fun rs => [runSetField rs]) ++ (Field.u8 count).bytes))
    (Takes.of_value_eq (Takes.readThen hkind (Takes.readThen hruns (Takes.map (takes_unsigned (fits_one h)) _))) ?_) ?_
  · cases runs with
    | none => rfl
    | some rs =>
      by_cases hrs : rs = noRuns
      · simp [hrs, namedOption]
      · simp [hrs, namedOption]
  · rw [List.cons_append, fieldBytes_cons, fieldBytes_append]
    rfl

theorem readReadTotalsBody_firm : Firm readReadTotalsBody :=
  (firm_member _).readThen fun _ => (firm_member _).readThen fun _ => (firm_optional (firm_unsigned 1)).readThen fun _ =>
    (firm_optional (firm_unsigned 4)).map fun _ => _

/-- An optional number of `k` bytes. -/
theorem takes_optional_unsigned {k : Nat} {o : Option Nat} {field : Nat → Field}
    (hfield : ∀ n : Nat, (field n).bytes = leBytes k n) (h : fitsOptional (fitsUnsigned k) o = true) :
    Takes (readOptional (readUnsigned k)) (fieldBytes (optField o fun n => [field n])) o := by
  refine (takes_optional o id _ fun n hn => ?_).of_value_eq (congrFun Option.map_id o)
  rw [hn] at h
  rw [fieldBytes_cons, hfield, fieldBytes_nil, List.append_nil]
  exact takes_unsigned (of_decide_eq_true h)

theorem readReadTotalsBody_takes (source : TotalsSource) (part : TotalsPart) {run batchId : Option Nat}
    (hrun : fitsOptional (fitsUnsigned 1) run = true) (hbatch : fitsOptional (fitsUnsigned 4) batchId = true) :
    Takes readReadTotalsBody
      (fieldBytes ([.u8 (sourceCode source), .u8 (partCode part)] ++ optField run (fun n => [.u8 n])
        ++ optField batchId (fun n => [.u32 n])))
      (some (takeReadTotals source part run batchId)) := by
  have hsource : Takes (readMember [TotalsSource.live, TotalsSource.snapshot]) (Field.u8 (sourceCode source)).bytes
      (some source) := (takes_member (by cases source <;> decide)).of_value_eq (by cases source <;> rfl)
  have hpart : Takes (readMember [TotalsPart.station, TotalsPart.run, TotalsPart.batch]) (Field.u8 (partCode part)).bytes
      (some part) := (takes_member (by cases part <;> decide)).of_value_eq (by cases part <;> rfl)
  refine Takes.of_bytes_eq (bs := (Field.u8 (sourceCode source)).bytes ++ ((Field.u8 (partCode part)).bytes
      ++ (fieldBytes (optField run fun n => [.u8 n]) ++ fieldBytes (optField batchId fun n => [.u32 n]))))
    (Takes.readThen hsource (Takes.readThen hpart (Takes.readThen (takes_optional_unsigned (fun _ => rfl) hrun)
      (Takes.map (takes_optional_unsigned (fun _ => rfl) hbatch) _)))) ?_
  simp only [List.cons_append, List.nil_append, fieldBytes_cons, fieldBytes_append]

theorem readBatchQueueAddBody_firm : Firm readBatchQueueAddBody :=
  (firm_unsigned 4).readThen fun _ => (firm_unsigned 1).readThen fun _ => (firm_optional firm_text).readThen fun _ =>
    (firm_optional (firm_unsigned 4)).readThen fun _ => (firm_optional (firm_unsigned 4)).readThen fun _ =>
      (firm_optional (firm_unsigned 2)).readThen fun _ => (firm_optional (firm_unsigned 1)).map fun _ => _

theorem readBatchQueueAddBody_takes {rec : BatchRecord} (h : rec.wellFormed = true) :
    Takes readBatchQueueAddBody (fieldBytes (recordFields rec))
      (if vesselPrintable rec.vessel then some (takeBatchQueueAdd rec) else none) := by
  unfold BatchRecord.wellFormed at h
  simp only [Bool.and_eq_true] at h
  obtain ⟨⟨⟨⟨⟨⟨hid, hcode⟩, hvessel⟩, htarget⟩, hmargin⟩, hdensity⟩, hcan⟩ := h
  have htext : Takes (readOptional readText) (fieldBytes (optField rec.vessel fun t => [.text t])) rec.vessel := by
    refine (takes_optional rec.vessel id _ fun t ht => ?_).of_value_eq (congrFun Option.map_id rec.vessel)
    rw [ht] at hvessel
    have hlen : t.length ≤ 16 := of_decide_eq_true hvessel
    exact (takes_text (Nat.lt_of_le_of_lt hlen (by decide))).of_bytes_eq (List.append_nil _).symm
  refine Takes.of_bytes_eq (bs := (Field.u32 rec.id).bytes ++ ((Field.u8 rec.code).bytes
      ++ (fieldBytes (optField rec.vessel fun t => [.text t]) ++ (fieldBytes (optField rec.target fun n => [.u32 n])
      ++ (fieldBytes (optField rec.margin fun n => [.u32 n]) ++ (fieldBytes (optField rec.density fun n => [.u16 n])
      ++ fieldBytes (optField rec.can fun n => [.u8 n])))))))
    (Takes.readThen (takes_unsigned (fits_four hid)) (Takes.readThen (takes_unsigned (fits_one hcode))
      (Takes.readThen htext (Takes.readThen (takes_optional_unsigned (fun _ => rfl) htarget)
        (Takes.readThen (takes_optional_unsigned (fun _ => rfl) hmargin)
          (Takes.readThen (takes_optional_unsigned (fun _ => rfl) hdensity)
            (Takes.map (takes_optional_unsigned (fun _ => rfl) hcan) _))))))) ?_
  simp only [recordFields, List.cons_append, List.nil_append, fieldBytes_cons, fieldBytes_append, List.append_assoc,
    Field.bytes]

theorem readMatchPair_firm : Firm readMatchPair := (firm_member _).readThen fun _ => (firm_member _).map fun _ => _

theorem readMatchPair_takes (p : MatchPair) :
    Takes readMatchPair (fieldBytes [.u8 (if p.wantSet then 0 else 1), .u8 (if p.care then 0 else 1)]) (some p) := by
  have hbit (b : Bool) : Takes (readMember [true, false]) (Field.u8 (if b then 0 else 1)).bytes (some b) :=
    (takes_member (by cases b <;> decide)).of_value_eq (by cases b <;> rfl)
  exact (hbit p.wantSet).readThen ((hbit p.care).map fun _ => _)

theorem readStatusMatchBody_firm : Firm readStatusMatchBody := (firm_list readMatchPair_firm).map fun _ => _

theorem readStatusMatchBody_takes {pairs : List MatchPair} (h : pairs.length < 256) :
    Takes readStatusMatchBody
      (fieldBytes (listField pairs fun p => [.u8 (if p.wantSet then 0 else 1), .u8 (if p.care then 0 else 1)]))
      (some (takeStatusMatch pairs)) := by
  refine ((takes_list pairs some _ h fun p _ => readMatchPair_takes p).map fun _ => _).of_value_eq ?_
  rw [allSome_map_some]
  rfl

theorem readAlarmAckBody_firm : Firm readAlarmAckBody :=
  (firm_member _).readThen fun _ => (firm_optional (firm_member _)).readThen fun _ =>
    (firm_optional (firm_unsigned 1)).map fun _ => _

theorem alarmNames_code (n : AlarmName) : alarmNames[alarmNameCode n]? = some n ∧ alarmNameCode n < 256 := by
  cases n with
  | run a => cases a <;> decide
  | station a => cases a <;> decide

theorem readAlarmAckBody_takes (mark : AckMark) (name : Option AlarmName) {run : Option Nat}
    (h : fitsOptional (fitsUnsigned 1) run = true) :
    Takes readAlarmAckBody
      (fieldBytes (.u8 (ackMarkCode mark) :: optField name (fun n => [.u8 (alarmNameCode n)])
        ++ optField run (fun n => [.u8 n])))
      (some (takeAlarmAck mark name run)) := by
  have hmark : Takes (readMember [AckMark.one, AckMark.all]) (Field.u8 (ackMarkCode mark)).bytes (some mark) :=
    (takes_member (by cases mark <;> decide)).of_value_eq (by cases mark <;> rfl)
  have hname : Takes (readOptional (readMember alarmNames))
      (fieldBytes (optField name fun n => [.u8 (alarmNameCode n)])) (name.map some) := by
    refine takes_optional name some _ fun n _ => ?_
    obtain ⟨hcode, hlt⟩ := alarmNames_code n
    exact ((takes_member hlt).of_value_eq hcode).of_bytes_eq (List.append_nil _).symm
  refine Takes.of_bytes_eq (bs := (Field.u8 (ackMarkCode mark)).bytes
      ++ (fieldBytes (optField name fun n => [.u8 (alarmNameCode n)]) ++ fieldBytes (optField run fun n => [.u8 n])))
    (Takes.of_value_eq (Takes.readThen hmark (Takes.readThen hname
      (Takes.map (takes_optional_unsigned (fun _ => rfl) h) _))) ?_) ?_
  · cases name <;> rfl
  · rw [List.cons_append, fieldBytes_cons, fieldBytes_append]

theorem readReadAlarmsBody_firm : Firm readReadAlarmsBody := (firm_optional (firm_member _)).map fun _ => _

theorem readReadAlarmsBody_takes (all : Bool) :
    Takes readReadAlarmsBody (fieldBytes (optField (if all then some () else none) fun _ => [.u8 0]))
      (some (takeReadAlarms all)) := by
  have hmark : Takes (readOptional (readMember [true])) (fieldBytes (optField (if all then some () else none) fun _ =>
      [.u8 0])) ((if all then some () else none).map fun _ => some true) :=
    takes_optional _ _ _ fun _ _ => takes_member (by decide)
  refine (hmark.map fun _ => _).of_value_eq ?_
  cases all <;> rfl

end Bodies

/-! ### The frame of a command -/

/-- The commands whose frame a reader reads to the end with an owner: a run set names a run, and a vessel name is printable. -/
def Readable : Instr → Bool
  | .runService runs _ => decide (runs ≠ noRuns)
  | .stageOpen _ runs _ => decide (runs ≠ some noRuns)
  | .batchQueueAdd rec => vesselPrintable rec.vessel
  | _ => true

/-- The reader of a kind takes the fields of a command, firmly, and ends with the owner of the command where it is
readable. -/
def Carries (kind : Byte) (fields : List Field) (c : Instr) : Prop :=
  ∃ (reader : List Byte → Parse (Option Owner)) (owner : Owner), catalogue kind.toNat = some reader
    ∧ kind.toNat < 0x80 ∧ Firm reader ∧ Takes reader (fieldBytes fields) (if Readable c then some owner else none)
    ∧ Instr.taking c = .request owner

theorem carries_of_owner {kind : Byte} {fields : List Field} {c : Instr} {reader : List Byte → Parse (Option Owner)}
    {owner : Owner} (hcatalogue : catalogue kind.toNat = some reader) (hkind : kind.toNat < 0x80) (hfirm : Firm reader)
    (htakes : Takes reader (fieldBytes fields) (some owner)) (hreadable : Readable c = true)
    (htaking : Instr.taking c = .request owner) : Carries kind fields c :=
  ⟨reader, owner, hcatalogue, hkind, hfirm, by rwa [if_pos hreadable], htaking⟩

theorem carries_noFields {kind : Byte} {c : Instr} {owner : Owner}
    (hcatalogue : catalogue kind.toNat = some (noFields owner)) (hkind : kind.toNat < 0x80) (hreadable : Readable c = true)
    (htaking : Instr.taking c = .request owner) : Carries kind [] c :=
  carries_of_owner hcatalogue hkind (noFields_firm owner) (noFields_takes owner) hreadable htaking

theorem carries_u8 {kind : Byte} {c : Instr} {f : Nat → Owner} {n : Nat}
    (hcatalogue : catalogue kind.toNat = some (oneNumber 1 f)) (hkind : kind.toNat < 0x80)
    (hn : fitsUnsigned 1 n = true) (hreadable : Readable c = true) (htaking : Instr.taking c = .request (f n)) :
    Carries kind [.u8 n] c :=
  carries_of_owner hcatalogue hkind (oneNumber_firm 1 f) (oneNumber_takes_u8 f hn) hreadable htaking

theorem carries_u32 {kind : Byte} {c : Instr} {f : Nat → Owner} {n : Nat}
    (hcatalogue : catalogue kind.toNat = some (oneNumber 4 f)) (hkind : kind.toNat < 0x80)
    (hn : n < 256 ^ 4) (hreadable : Readable c = true) (htaking : Instr.taking c = .request (f n)) :
    Carries kind [.u32 n] c :=
  carries_of_owner hcatalogue hkind (oneNumber_firm 4 f) (oneNumber_takes_u32 f hn) hreadable htaking

/-- Every request but STAGE ITEM is carried by its kind. -/
theorem carries_of_requestFields {c : Instr} {kind : Byte} {fields : List Field}
    (h : requestFields? c = some (kind, fields)) (hwf : c.wellFormed = true) : Carries kind fields c := by
  cases c <;> cases h
  case runService runs dir =>
    refine ⟨_, takeRunService runs dir, rfl, by decide, readRunServiceBody_firm,
      (readRunServiceBody_takes runs dir).of_value_eq ?_, rfl⟩
    simp only [Readable]
    split <;> simp_all
  case liveValues entries =>
    exact carries_of_owner rfl (by decide) readLiveValuesBody_firm (readLiveValuesBody_takes hwf) rfl rfl
  case readValues mark indices =>
    exact carries_of_owner rfl (by decide) readReadValuesBody_firm (readReadValuesBody_takes mark hwf) rfl rfl
  case overrideSet index value =>
    obtain ⟨hindex, hvalue⟩ := Bool.and_eq_true_iff.mp hwf
    exact carries_of_owner rfl (by decide) readOverrideSetBody_firm (readOverrideSetBody_takes hindex hvalue) rfl rfl
  case overrideRelease index => exact carries_u8 rfl (by decide) hwf rfl rfl
  case stageOpen kind runs count =>
    refine ⟨_, takeStageOpen kind runs count, rfl, by decide, readStageOpenBody_firm,
      (readStageOpenBody_takes kind runs hwf).of_value_eq ?_, rfl⟩
    simp only [Readable]
    split <;> simp_all
  case stageCommit => exact carries_noFields rfl (by decide) rfl rfl
  case stageCancel => exact carries_noFields rfl (by decide) rfl rfl
  case lockSection number => exact carries_u8 rfl (by decide) hwf rfl rfl
  case unlockAll => exact carries_noFields rfl (by decide) rfl rfl
  case readSection number => exact carries_u8 rfl (by decide) hwf rfl rfl
  case readRun number => exact carries_u8 rfl (by decide) hwf rfl rfl
  case freeze => exact carries_noFields rfl (by decide) rfl rfl
  case readTotals source part run batchId =>
    obtain ⟨hrun, hbatch⟩ := Bool.and_eq_true_iff.mp hwf
    exact carries_of_owner rfl (by decide) readReadTotalsBody_firm (readReadTotalsBody_takes source part hrun hbatch)
      rfl rfl
  case restart kind =>
    exact carries_of_owner rfl (by decide) (oneMember_firm _ _)
      (oneMember_takes takeRestart (a := kind) (by cases kind <;> rfl) (by cases kind <;> decide)) rfl rfl
  case batchQueueAdd rec =>
    exact ⟨_, takeBatchQueueAdd rec, rfl, by decide, readBatchQueueAddBody_firm, readBatchQueueAddBody_takes hwf, rfl⟩
  case batchQueueRemove id => exact carries_u32 rfl (by decide) (fits_four hwf) rfl rfl
  case batchStart => exact carries_noFields rfl (by decide) rfl rfl
  case batchEnd => exact carries_noFields rfl (by decide) rfl rfl
  case batchChange => exact carries_noFields rfl (by decide) rfl rfl
  case batchList => exact carries_noFields rfl (by decide) rfl rfl
  case proveStart number => exact carries_u8 rfl (by decide) hwf rfl rfl
  case proveAccept => exact carries_noFields rfl (by decide) rfl rfl
  case proveReject => exact carries_noFields rfl (by decide) rfl rfl
  case proveAbort => exact carries_noFields rfl (by decide) rfl rfl
  case readProve => exact carries_noFields rfl (by decide) rfl rfl
  case canReset number => exact carries_u8 rfl (by decide) hwf rfl rfl
  case samplerEnable enable =>
    exact carries_of_owner rfl (by decide) (oneMember_firm _ _)
      (oneMember_takes takeSamplerEnable (a := enable) (by cases enable <;> rfl) (by cases enable <;> decide)) rfl rfl
  case readSampler => exact carries_noFields rfl (by decide) rfl rfl
  case ticketRead number => exact carries_u32 rfl (by decide) (fits_four hwf) rfl rfl
  case ticketAck number => exact carries_u32 rfl (by decide) (fits_four hwf) rfl rfl
  case archiveStatus => exact carries_noFields rfl (by decide) rfl rfl
  case auditRead start =>
    refine carries_u32 (f := fun n => takeAuditRead (BitVec.ofNat 32 n)) rfl (by decide) start.isLt rfl ?_
    rw [BitVec.ofNat_toNat, BitVec.setWidth_eq]
    rfl
  case status => exact carries_noFields rfl (by decide) rfl rfl
  case statusMatch pairs =>
    exact carries_of_owner rfl (by decide) readStatusMatchBody_firm (readStatusMatchBody_takes (of_decide_eq_true hwf))
      rfl rfl
  case alarmAck mark name run =>
    exact carries_of_owner rfl (by decide) readAlarmAckBody_firm (readAlarmAckBody_takes mark name hwf) rfl rfl
  case readAlarms all =>
    exact carries_of_owner rfl (by decide) readReadAlarmsBody_firm (readReadAlarmsBody_takes all) rfl rfl
  case setTime value => exact carries_u32 rfl (by decide) (fits_four hwf) rfl rfl

end Sys2Proof.Machine
end

section
/-! The judgement of frames (R207, R209, R213): what reaches an owner, and what the link refuses. -/

namespace Sys2Proof.Machine

set_option Elab.async false

/-! ### The judgement of a frame by its reader -/

section Judgement

variable {kind tag : Byte} {body : List Byte} {reader : List Byte → Parse (Option Owner)}

theorem judgeFrame_eq (hkind : kind.toNat < 0x80) (hcatalogue : catalogue kind.toNat = some reader) (tag : Byte)
    (body : List Byte) : judgeFrame ⟨kind, tag, body⟩ = judgeBody (reader body) := by
  unfold judgeFrame
  rw [if_neg (by show ¬ 0x80 ≤ kind.toNat; omega)]
  simp only [hcatalogue]

theorem judgeFrame_of_misfit (hkind : kind.toNat < 0x80) (hcatalogue : catalogue kind.toNat = some reader)
    (h : (reader body).fits = false) : judgeFrame ⟨kind, tag, body⟩ = .refusal .badLength := by
  rw [judgeFrame_eq hkind hcatalogue, judgeBody_of_not_fits h]

theorem judgeFrame_of_done_none (hkind : kind.toNat < 0x80) (hcatalogue : catalogue kind.toNat = some reader)
    (h : reader body = .done none []) : judgeFrame ⟨kind, tag, body⟩ = .refusal .badParam := by
  rw [judgeFrame_eq hkind hcatalogue, h]
  rfl

theorem judgeFrame_kinds (f : Frame) :
    (0x80 ≤ f.kind.toNat → judgeFrame f = .discard)
      ∧ (f.kind.toNat < 0x80 → catalogue f.kind.toNat = none → judgeFrame f = .refusal .unknownKind) := by
  refine ⟨fun h => if_pos h, fun h hnone => ?_⟩
  unfold judgeFrame
  rw [if_neg (by omega)]
  simp only [hnone]

/-- The body of a command's fields is taken whole by its reader. -/
theorem Takes.whole {α : Type} {p : List Byte → Parse α} {a : α} (h : Takes p body a) : p body = .done a [] := by
  have htakes := h []
  rwa [List.append_nil] at htakes

end Judgement

/-! ### Requests -/

section Commands

variable {c : Instr} {tag : Byte} {f : Frame}

/-- The frame of a command other than STAGE ITEM, with its kind and fields. -/
theorem requestFrame?_fields (h : requestFrame? tag c = some f) (hitem : ∀ item : List Byte, c ≠ .stageItem item) :
    ∃ (kind : Byte) (fields : List Field), requestFields? c = some (kind, fields)
      ∧ f = ⟨kind, tag, fieldBytes fields⟩ := by
  have hmap : (requestFields? c).map (fun x => (⟨x.1, tag, fieldBytes x.2⟩ : Frame)) = some f := by
    cases c
    case stageItem item => exact absurd rfl (hitem item)
    all_goals exact h
  obtain ⟨⟨kind, fields⟩, hfields, hframe⟩ := Option.map_eq_some_iff.mp hmap
  exact ⟨kind, fields, hfields, hframe.symm⟩

/-- The frame of a well-formed command that is readable reaches its owner, and neither a longer body nor a shorter one
does. -/
theorem requestFrame?_judged (h : requestFrame? tag c = some f) (hwf : c.wellFormed = true)
    (hreadable : Readable c = true) :
    (∃ owner : Owner, judgeFrame f = .owner owner ∧ Instr.taking c = .request owner)
      ∧ ∀ extra : List Byte, extra ≠ [] → (∀ item : List Byte, c ≠ .stageItem item) →
        judgeFrame { f with body := f.body ++ extra } = .refusal .badLength
        ∧ ∀ cut : List Byte, f.body = cut ++ extra → judgeFrame { f with body := cut } = .refusal .badLength := by
  by_cases hitem : ∃ item : List Byte, c = .stageItem item
  · obtain ⟨item, rfl⟩ := hitem
    cases h
    have hlength : 1 ≤ item.length := (of_decide_eq_true hwf).1
    refine ⟨⟨takeStageItem item, ?_, rfl⟩, fun _ _ hne => absurd rfl (hne item)⟩
    cases item with
    | nil => exact absurd hlength (by decide)
    | cons b bs => rfl
  · have hne : ∀ item : List Byte, c ≠ .stageItem item := fun item h' => hitem ⟨item, h'⟩
    obtain ⟨kind, fields, hfields, rfl⟩ := requestFrame?_fields h hne
    obtain ⟨reader, owner, hcatalogue, hkind, hfirm, htakes, htaking⟩ := carries_of_requestFields hfields hwf
    rw [if_pos hreadable] at htakes
    refine ⟨⟨owner, ?_, htaking⟩, fun extra hextra _ => ?_⟩
    · rw [judgeFrame_eq hkind hcatalogue, htakes.whole]
      rfl
    · obtain ⟨hlonger, hshorter⟩ := hfirm.misfits htakes.whole hextra
      exact ⟨judgeFrame_of_misfit hkind hcatalogue hlonger,
        fun cut hcut => judgeFrame_of_misfit hkind hcatalogue (hshorter cut hcut)⟩

theorem readable_of_named (hruns : ∀ dir : Direction, c ≠ .runService noRuns dir)
    (hopen : ∀ (kind : SectionKind) (n : Nat), c ≠ .stageOpen kind (some noRuns) n)
    (hvessel : ∀ rec : BatchRecord, c = .batchQueueAdd rec → vesselPrintable rec.vessel = true) : Readable c = true := by
  cases c
  case runService runs dir => exact decide_eq_true fun h => hruns dir (by rw [h])
  case stageOpen kind runs n => exact decide_eq_true fun h => hopen kind n (by rw [h])
  case batchQueueAdd rec => exact hvessel rec rfl
  all_goals rfl

/-- A vessel name with a character outside 20h to 7Eh (R209). -/
theorem judgeFrame_unprintable {rec : BatchRecord} (h : requestFrame? tag (.batchQueueAdd rec) = some f)
    (hwf : (Instr.batchQueueAdd rec).wellFormed = true) (hvessel : vesselPrintable rec.vessel = false) :
    judgeFrame f = .refusal .badParam := by
  obtain ⟨kind, fields, hfields, rfl⟩ := requestFrame?_fields h fun _ => by simp
  cases hfields
  have htakes := readBatchQueueAddBody_takes hwf
  rw [if_neg (by simp [hvessel])] at htakes
  exact judgeFrame_of_done_none (by decide) rfl htakes.whole

end Commands

/-! ### The kinds of the catalogue (R213) -/

/-- A command of each kind of the catalogue. -/
def sampleRequests : List Instr :=
  [.runService noRuns .into, .liveValues [], .readValues .all [], .overrideSet 0 0, .overrideRelease 0,
    .stageOpen .prover none 0, .stageItem [], .stageCommit, .stageCancel, .lockSection 0, .unlockAll, .readSection 0,
    .readRun 0, .freeze, .readTotals .live .station none none, .restart .warm,
    .batchQueueAdd ⟨0, 0, none, none, none, none, none⟩, .batchQueueRemove 0, .batchStart, .batchEnd, .batchChange,
    .batchList, .proveStart 0, .proveAccept, .proveReject, .proveAbort, .readProve, .canReset 0, .samplerEnable .on,
    .readSampler, .ticketRead 0, .ticketAck 0, .archiveStatus, .auditRead 0, .status, .statusMatch [],
    .alarmAck .all none none, .readAlarms true, .setTime 0]

theorem catalogue_sampled : ∀ kind : Fin 0x80, (catalogue kind.val).isSome = true →
    (sampleRequests.any fun c => ((requestFrame? 0 c).map fun f => f.kind.toNat) == some kind.val) = true := by
  decide

theorem catalogue_of_requestFields {c : Instr} {kind : Byte} {fields : List Field}
    (h : requestFields? c = some (kind, fields)) : (catalogue kind.toNat).isSome = true := by
  cases c <;> cases h <;> rfl

theorem catalogue_iff {kind : Nat} (hkind : kind < 0x80) : (catalogue kind).isSome = true ↔ ∃ (c : Instr) (f : Frame),
    requestFrame? 0 c = some f ∧ f.kind.toNat = kind := by
  refine ⟨fun h => ?_, ?_⟩
  · obtain ⟨c, -, hc⟩ := List.any_eq_true.mp (catalogue_sampled ⟨kind, hkind⟩ h)
    obtain ⟨f, hf, hkindf⟩ := Option.map_eq_some_iff.mp (eq_of_beq hc)
    exact ⟨c, f, hf, hkindf⟩
  · rintro ⟨c, f, hf, rfl⟩
    by_cases hitem : ∃ item : List Byte, c = .stageItem item
    · obtain ⟨item, rfl⟩ := hitem
      cases hf
      rfl
    · obtain ⟨kind, fields, hfields, rfl⟩ := requestFrame?_fields hf fun item h => hitem ⟨item, h⟩
      exact catalogue_of_requestFields hfields

/-! ### Bodies of another length (R207) -/

/-- The kinds whose body has a fixed length, with it. -/
def fixedKinds : List (Byte × Nat) :=
  [(0x01, 2), (0x0A, 5), (0x0B, 1), (0x12, 0), (0x13, 0), (0x14, 1), (0x15, 0), (0x16, 1), (0x18, 1),
    (0x20, 0), (0x22, 1), (0x29, 4), (0x2A, 0), (0x2B, 0), (0x2C, 0), (0x2D, 0), (0x30, 1), (0x31, 0), (0x32, 0),
    (0x33, 0), (0x34, 0), (0x38, 1), (0x39, 1), (0x3A, 0), (0x40, 4), (0x41, 4), (0x42, 0), (0x43, 4), (0x48, 0),
    (0x4C, 4)]

/-- The kind has a reader of that length. -/
def ReadsLength (x : Byte × Nat) : Prop :=
  ∃ reader : List Byte → Parse (Option Owner), catalogue x.1.toNat = some reader ∧ x.1.toNat < 0x80
    ∧ TakesLength reader x.2

theorem readsLength_noFields {kind : Byte} {f : Owner} (h : catalogue kind.toNat = some (noFields f))
    (hkind : kind.toNat < 0x80) : ReadsLength (kind, 0) := ⟨_, h, hkind, takesLength_nothing (some f)⟩

theorem readsLength_oneNumber {kind : Byte} {k : Nat} {f : Nat → Owner}
    (h : catalogue kind.toNat = some (oneNumber k f)) (hkind : kind.toNat < 0x80) : ReadsLength (kind, k) :=
  ⟨_, h, hkind, (takesLength_unsigned k).map fun n => some (f n)⟩

theorem readsLength_oneMember {kind : Byte} {α : Type} {members : List α} {f : α → Owner}
    (h : catalogue kind.toNat = some (oneMember members f)) (hkind : kind.toNat < 0x80) : ReadsLength (kind, 1) :=
  ⟨_, h, hkind, (takesLength_member members).map fun m => m.map f⟩

theorem takesLength_runSet : TakesLength readRunSet 1 := (takesLength_unsigned 1).map runSetOfByte?

theorem readsLength_runService : ReadsLength (0x01, 2) :=
  ⟨readRunServiceBody, rfl, by decide, takesLength_runSet.readThen fun _ => (takesLength_member _).map fun _ => _⟩

theorem readsLength_overrideSet : ReadsLength (0x0A, 5) :=
  ⟨readOverrideSetBody, rfl, by decide, (takesLength_unsigned 1).readThen fun _ => takesLength_signed.map fun _ => _⟩

theorem fixedKinds_readsLength : ∀ x ∈ fixedKinds, ReadsLength x := by
  have hnone {kind : Byte} {f : Owner} := readsLength_noFields (kind := kind) (f := f)
  have hnumber {kind : Byte} {k : Nat} {f : Nat → Owner} := readsLength_oneNumber (kind := kind) (k := k) (f := f)
  simp only [fixedKinds, List.forall_mem_cons]
  exact ⟨readsLength_runService, readsLength_overrideSet, hnumber rfl (by decide), hnone rfl (by decide),
    hnone rfl (by decide), hnumber rfl (by decide), hnone rfl (by decide), hnumber rfl (by decide),
    hnumber rfl (by decide), hnone rfl (by decide), readsLength_oneMember rfl (by decide), hnumber rfl (by decide),
    hnone rfl (by decide), hnone rfl (by decide), hnone rfl (by decide), hnone rfl (by decide),
    hnumber rfl (by decide), hnone rfl (by decide), hnone rfl (by decide), hnone rfl (by decide),
    hnone rfl (by decide), hnumber rfl (by decide), readsLength_oneMember rfl (by decide), hnone rfl (by decide),
    hnumber rfl (by decide), hnumber rfl (by decide), hnone rfl (by decide), hnumber rfl (by decide),
    hnone rfl (by decide), hnumber rfl (by decide), List.forall_mem_nil _⟩

theorem judgeFrame_fixed {kind tag : Byte} {k : Nat} {body : List Byte} (h : (kind, k) ∈ fixedKinds)
    (hlength : body.length ≠ k) : judgeFrame ⟨kind, tag, body⟩ = .refusal .badLength := by
  obtain ⟨reader, hcatalogue, hkind, hreads⟩ := fixedKinds_readsLength _ h
  exact judgeFrame_of_misfit hkind hcatalogue (hreads.misfits hlength)

/-! ### Bytes that name no member (R209) -/

section Members

variable {α β : Type} {tag a b x y : Byte} {members : List α} {bs : List Byte}

theorem readUnsigned_one (b : Byte) (bs : List Byte) : readUnsigned 1 (b :: bs) = .done b.toNat bs := by
  have hone : readBytes 1 (b :: bs) = .done [b] bs := rfl
  unfold readUnsigned readThen
  rw [hone]
  show Parse.done (ofLe [b]) bs = _
  rw [show ofLe [b] = b.toNat from Nat.add_zero _]

theorem readThen_unsigned_one (f : Nat → List Byte → Parse β) (b : Byte) (bs : List Byte) :
    readThen (readUnsigned 1) f (b :: bs) = f b.toNat bs := by
  unfold readThen
  rw [readUnsigned_one]
  rfl

theorem readMember_cons (b : Byte) (bs : List Byte) : readMember members (b :: bs) = .done members[b.toNat]? bs :=
  readThen_unsigned_one _ b bs

theorem readThen_member (f : Option α → List Byte → Parse β) (b : Byte) (bs : List Byte) :
    readThen (readMember members) f (b :: bs) = f members[b.toNat]? bs := by
  unfold readThen
  rw [readMember_cons]
  rfl

theorem readThen_runSet (f : Option RunSet → List Byte → Parse β) (b : Byte) (bs : List Byte) :
    readThen readRunSet f (b :: bs) = f (runSetOfByte? b.toNat) bs := by
  unfold readThen readRunSet
  rw [readThen_unsigned_one]
  rfl

theorem readThen_optional_absent {p : List Byte → Parse α} (f : Option α → List Byte → Parse β) (bs : List Byte) :
    readThen (readOptional p) f (0 :: bs) = f none bs := rfl

theorem readThen_optional_present {p : List Byte → Parse α} (f : Option α → List Byte → Parse β) {cs : List Byte} {a : α}
    (h : p bs = .done a cs) : readThen (readOptional p) f (1 :: bs) = f (some a) cs := by
  show ((readThen p (fun a => readNothing (some a)) bs).andThen f) = _
  unfold readThen
  rw [h]
  rfl

theorem readThen_list_empty {p : List Byte → Parse α} (f : List α → List Byte → Parse β) (bs : List Byte) :
    readThen (readList p) f (0 :: bs) = f [] bs := by
  unfold readThen readList
  rw [readThen_unsigned_one]
  rfl

theorem readThen_list_one {p : List Byte → Parse α} (f : List α → List Byte → Parse β) {cs : List Byte} {a : α}
    (h : p bs = .done a cs) : readThen (readList p) f (1 :: bs) = f [a] cs := by
  unfold readThen readList
  rw [readThen_unsigned_one]
  show ((readThen p (fun a => readThen (readEntries p 0) (fun more => readNothing (a :: more))) bs).andThen f) = _
  unfold readThen
  rw [h]
  rfl

theorem getElem?_eq_none_of_two {u v : α} (h : 2 ≤ a.toNat) : [u, v][a.toNat]? = none :=
  List.getElem?_eq_none h

theorem runSetOfByte?_none (h : a = 0 ∨ 16 ≤ a.toNat) : runSetOfByte? a.toNat = none := by
  refine if_neg fun hbounds => ?_
  rcases h with rfl | h
  · exact absurd hbounds.1 (by decide)
  · omega

theorem judge_runService (h : a = 0 ∨ 16 ≤ a.toNat ∨ 2 ≤ b.toNat) :
    judgeFrame ⟨0x01, tag, [a, b]⟩ = .refusal .badParam := by
  refine judgeFrame_of_done_none (by decide) rfl ?_
  unfold readRunServiceBody
  rw [readThen_runSet, readThen_member]
  rcases h with h | h | h
  · rw [runSetOfByte?_none (.inl h)]
    rfl
  · rw [runSetOfByte?_none (.inr h)]
    rfl
  · rw [getElem?_eq_none_of_two h]
    exact congrArg (Parse.done · []) (by cases runSetOfByte? a.toNat <;> rfl)

theorem judge_liveValues {value : List Byte} (hvalue : value.length = 4) (h : 2 ≤ a.toNat) :
    judgeFrame ⟨0x08, tag, [1, x, a] ++ value⟩ = .refusal .badParam := by
  obtain ⟨v, hread⟩ := (takesLength_signed value).2 (by omega)
  rw [List.drop_eq_nil_of_le (by omega)] at hread
  have hentry : readLiveEntry (x :: a :: value) = .done none [] := by
    unfold readLiveEntry
    rw [readThen_unsigned_one, readThen_member, getElem?_eq_none_of_two h]
    unfold readThen
    rw [hread]
    rfl
  refine judgeFrame_of_done_none (by decide) rfl ?_
  exact readThen_list_one _ hentry

theorem judge_readValues (h : 2 ≤ a.toNat) : judgeFrame ⟨0x09, tag, [a, 0]⟩ = .refusal .badParam := by
  refine judgeFrame_of_done_none (by decide) rfl ?_
  unfold readReadValuesBody
  rw [readThen_member, readThen_list_empty, getElem?_eq_none_of_two h]
  rfl

theorem judge_oneMember {u v : α} {f : α → Owner} {kind : Byte} (hkind : kind.toNat < 0x80)
    (hcatalogue : catalogue kind.toNat = some (oneMember [u, v] f)) (h : 2 ≤ a.toNat) :
    judgeFrame ⟨kind, tag, [a]⟩ = .refusal .badParam := by
  refine judgeFrame_of_done_none hkind hcatalogue ?_
  unfold oneMember
  rw [readThen_member, getElem?_eq_none_of_two h]
  rfl

theorem judge_alarmAck_mark (h : 2 ≤ a.toNat) : judgeFrame ⟨0x4A, tag, [a, 0, 0]⟩ = .refusal .badParam := by
  refine judgeFrame_of_done_none (by decide) rfl ?_
  unfold readAlarmAckBody
  rw [readThen_member, getElem?_eq_none_of_two h]
  rfl

/-- A presence byte that is neither 0 nor 1. -/
theorem judge_readAlarms_presence (h : 2 ≤ a.toNat) : judgeFrame ⟨0x4B, tag, [a]⟩ = .refusal .badParam := by
  have hzero : a ≠ 0 := by
    rintro rfl
    exact absurd h (by decide)
  have hone : a ≠ 1 := by
    rintro rfl
    exact absurd h (by decide)
  rw [judgeFrame_eq (by decide) (reader := readReadAlarmsBody) rfl]
  unfold readReadAlarmsBody readThen readOptional
  dsimp only
  rw [if_neg hzero, if_neg hone]
  rfl

theorem judge_stageOpen_kind (h : 6 ≤ a.toNat) : judgeFrame ⟨0x10, tag, [a, 0, x]⟩ = .refusal .badParam := by
  have hkind : sectionKinds[a.toNat]? = none := List.getElem?_eq_none h
  refine judgeFrame_of_done_none (by decide) rfl ?_
  unfold readStageOpenBody
  rw [readThen_member, readThen_optional_absent, readThen_unsigned_one, hkind]
  rfl

theorem judge_stageOpen_runs (h : a = 0 ∨ 16 ≤ a.toNat) : judgeFrame ⟨0x10, tag, [x, 1, a, y]⟩ = .refusal .badParam := by
  have hruns : readRunSet [a, y] = .done none [y] := by
    unfold readRunSet
    rw [readThen_unsigned_one, runSetOfByte?_none h]
    rfl
  refine judgeFrame_of_done_none (by decide) rfl ?_
  unfold readStageOpenBody
  rw [readThen_member, readThen_optional_present _ hruns, readThen_unsigned_one]
  exact congrArg (Parse.done · []) (by cases sectionKinds[x.toNat]? <;> rfl)

theorem judge_readTotals (h : 2 ≤ a.toNat ∨ 3 ≤ b.toNat) :
    judgeFrame ⟨0x21, tag, [a, b, 0, 0]⟩ = .refusal .badParam := by
  refine judgeFrame_of_done_none (by decide) rfl ?_
  unfold readReadTotalsBody
  rw [readThen_member, readThen_member, readThen_optional_absent, readThen_optional_absent]
  rcases h with h | h
  · rw [getElem?_eq_none_of_two h]
    rfl
  · have hpart : [TotalsPart.station, TotalsPart.run, TotalsPart.batch][b.toNat]? = none := List.getElem?_eq_none h
    rw [hpart]
    exact congrArg (Parse.done · []) (by cases [TotalsSource.live, TotalsSource.snapshot][a.toNat]? <;> rfl)

theorem judge_statusMatch (h : 2 ≤ a.toNat ∨ 2 ≤ b.toNat) : judgeFrame ⟨0x49, tag, [1, a, b]⟩ = .refusal .badParam := by
  have hpair : readMatchPair [a, b] = .done none [] := by
    unfold readMatchPair
    rw [readThen_member, readThen_member]
    rcases h with h | h
    · rw [getElem?_eq_none_of_two h]
      rfl
    · rw [getElem?_eq_none_of_two h]
      exact congrArg (Parse.done · []) (by cases [true, false][a.toNat]? <;> rfl)
  refine judgeFrame_of_done_none (by decide) rfl ?_
  exact readThen_list_one _ hpair

theorem judge_alarmAck_name (h : 24 ≤ a.toNat) : judgeFrame ⟨0x4A, tag, [x, 1, a, 0]⟩ = .refusal .badParam := by
  have hname : alarmNames[a.toNat]? = none := List.getElem?_eq_none h
  have hread : readMember alarmNames [a, 0] = .done none [0] := by rw [readMember_cons, hname]
  refine judgeFrame_of_done_none (by decide) rfl ?_
  unfold readAlarmAckBody
  rw [readThen_member, readThen_optional_present _ hread, readThen_optional_absent]
  exact congrArg (Parse.done · []) (by cases [AckMark.one, AckMark.all][x.toNat]? <;> rfl)

theorem judge_readAlarms_mark (h : 1 ≤ a.toNat) : judgeFrame ⟨0x4B, tag, [1, a]⟩ = .refusal .badParam := by
  have hmark : [true][a.toNat]? = none := List.getElem?_eq_none h
  have hread : readMember [true] [a] = .done none [] := by rw [readMember_cons, hmark]
  refine judgeFrame_of_done_none (by decide) rfl ?_
  exact readThen_optional_present _ hread

end Members

end Sys2Proof.Machine
end

section
/-! The framer and the transmitter (R203 to R206, R210, R214). -/

namespace Sys2Proof.Machine

set_option Elab.async false

/-! ### Requests of an empty body leave the link as it is -/

/-- An owner leaves the link as it is. -/
def KeepsLink (f : Owner) : Prop := ∀ s : State, (f s).1.link = s.link

section KeepsLink

theorem State.auditCommit_link (s : State) (old : Params) (refs : List SectionRef) :
    (s.auditCommit old refs).link = s.link := by
  induction refs generalizing s with
  | nil => rfl
  | cons ref refs ih => exact ih _

theorem keepsLink_takeStageCommit : KeepsLink takeStageCommit := by
  intro s
  unfold takeStageCommit
  split
  · rfl
  · split
    · rfl
    · split
      · rfl
      · split
        · rfl
        · split
          · rfl
          · exact State.auditCommit_link _ _ _

theorem keepsLink_takeStageCancel : KeepsLink takeStageCancel := by
  intro s
  unfold takeStageCancel
  split <;> rfl

theorem keepsLink_takeUnlockAll : KeepsLink takeUnlockAll := by
  intro s
  unfold takeUnlockAll
  split <;> rfl

theorem keepsLink_takeBatchStart : KeepsLink takeBatchStart := by
  intro s
  unfold takeBatchStart
  split
  · rfl
  · split
    · rfl
    · simp

theorem keepsLink_takeBatchEnd : KeepsLink takeBatchEnd := by
  intro s
  unfold takeBatchEnd
  split
  · rfl
  · split
    · rfl
    · simp

theorem keepsLink_takeBatchChange : KeepsLink takeBatchChange := by
  intro s
  unfold takeBatchChange
  split
  · rfl
  · split
    · rfl
    · split
      · rfl
      · simp

theorem State.applyResult_link (s : State) (res : ProveResult) (who : AcceptedBy) :
    (s.applyResult res who).link = s.link := by
  unfold State.applyResult
  dsimp only
  split <;> simp

theorem keepsLink_takeProveAccept : KeepsLink takeProveAccept := by
  intro s
  unfold takeProveAccept
  split
  · exact s.applyResult_link _ _
  · rfl

theorem keepsLink_takeProveReject : KeepsLink takeProveReject := by
  intro s
  unfold takeProveReject
  split
  · simp
  · rfl

theorem keepsLink_takeProveAbort : KeepsLink takeProveAbort := by
  intro s
  unfold takeProveAbort
  split
  · simp
  · rfl

/-- The owners that a frame with an empty body can reach. -/
theorem keepsLink_of_emptyBody {kind tag : Byte} {owner : Owner} (h : judgeFrame ⟨kind, tag, []⟩ = .owner owner) :
    KeepsLink owner := by
  unfold judgeFrame at h
  split at h
  · cases h
  · split at h
    · cases h
    · next reader hreader =>
      unfold catalogue at hreader
      split at hreader <;> cases hreader <;> cases h
      case h_8 => exact keepsLink_takeStageCommit
      case h_9 => exact keepsLink_takeStageCancel
      case h_11 => exact keepsLink_takeUnlockAll
      case h_19 => exact keepsLink_takeBatchStart
      case h_20 => exact keepsLink_takeBatchEnd
      case h_21 => exact keepsLink_takeBatchChange
      case h_24 => exact keepsLink_takeProveAccept
      case h_25 => exact keepsLink_takeProveReject
      case h_26 => exact keepsLink_takeProveAbort
      all_goals exact fun s => rfl

end KeepsLink

/-! ### Characters (R203, R205) -/

section Framer

variable {s : State}

theorem State.settled_hunting (hs : s.Settled) : ({ s with link := s.link.hunting } : State).Settled := hs

theorem exec_rxCharacter (hrun : s.phase = .running) (byte : Byte) (stopBit : Bool) :
    exec (.rxCharacter byte stopBit) s = .next (rxCharacter byte stopBit s).settle :=
  exec_of_event hrun (f := rxCharacter byte stopBit) rfl

theorem exec_rxCharacter_of_eq (hrun : s.phase = .running) {byte : Byte} {stopBit : Bool} {t : State}
    (h : rxCharacter byte stopBit s = t) (ht : t.Settled) : exec (.rxCharacter byte stopBit) s = .next t := by
  rw [exec_rxCharacter hrun, h, State.settle_of_settled t ht]

theorem rxCharacter_receiving {taken : List Byte} (h : s.link.framer = .receiving taken) (byte : Byte) :
    rxCharacter byte true s = s.frameByte (taken ++ [byte]) := by
  unfold rxCharacter
  rw [if_pos rfl]
  simp only [h]

theorem rxCharacter_hunt (h : s.link.framer = .hunt) (byte : Byte) :
    rxCharacter byte true s = if byte = 0xA5#8 then { s with link := s.link.taking [] s.now } else s := by
  unfold rxCharacter
  rw [if_pos rfl]
  simp only [h]

/-- A byte of a frame that does not end it (R205). -/
theorem State.frameByte_taking {taken : List Byte} {byte : Byte} {n : Nat} (hn : n = ofLe ((taken ++ [byte]).take 2))
    (h : taken = [] ∨ n ≤ 1024 ∧ taken.length + 1 < n + 6) :
    s.frameByte (taken ++ [byte]) = { s with link := s.link.taking (taken ++ [byte]) s.now } := by
  have hlength : (taken ++ [byte]).length = taken.length + 1 := List.length_append
  unfold State.frameByte
  rw [hlength]
  by_cases htwo : taken.length + 1 < 2
  · rw [if_pos htwo]
  · rcases h with rfl | ⟨hmax, hmore⟩
    · exact absurd (by decide) htwo
    · rw [if_neg htwo, if_neg (by show ¬ 1024 < ofLe _; omega), if_pos (by show _ < ofLe _ + 6; omega)]

/-- A frame that is too long, or whose CRC differs, is discarded (R204, R205). -/
theorem State.frameByte_discard {taken : List Byte} {byte : Byte} {n : Nat} (hn : n = ofLe ((taken ++ [byte]).take 2))
    (h : taken ≠ [] ∧ 1024 < n
      ∨ taken ≠ [] ∧ n + 6 ≤ taken.length + 1 ∧ ofLe ((taken ++ [byte]).drop (taken.length - 1))
          ≠ (crc16 ((taken ++ [byte]).take (taken.length - 1))).toNat) :
    s.frameByte (taken ++ [byte]) = { s with link := s.link.hunting } := by
  have hlength : (taken ++ [byte]).length = taken.length + 1 := List.length_append
  have htaken : 1 ≤ taken.length := by
    rcases h with ⟨hne, -⟩ | ⟨hne, -⟩
    · exact List.length_pos_iff.mpr hne
    · exact List.length_pos_iff.mpr hne
  unfold State.frameByte
  rw [hlength, if_neg (by omega)]
  by_cases hmax : maxBody < frameLength (taken ++ [byte])
  · rw [if_pos hmax]
  · have hn' : frameLength (taken ++ [byte]) = n := hn.symm
    rcases h with ⟨-, hlong⟩ | ⟨-, hend, hcrc⟩
    · exact absurd (show 1024 < _ by omega) hmax
    · have hagrees : crcAgrees (taken ++ [byte]) = false := by
        unfold crcAgrees
        rw [hlength]
        exact decide_eq_false hcrc
      rw [if_neg hmax, if_neg (by omega)]
      simp only [hagrees]
      rfl

/-- The last byte of a frame whose CRC agrees makes the frame (R204 to R206). -/
theorem State.frameByte_complete {f : Frame} {crc : List Byte} {last : Byte} (hbody : f.body.length ≤ 1024)
    (hcrc : crc ++ [last] = leBytes 2 (crc16 (leBytes 2 f.body.length ++ [f.kind, f.tag] ++ f.body)).toNat) :
    s.frameByte (leBytes 2 f.body.length ++ [f.kind, f.tag] ++ f.body ++ crc ++ [last])
      = ({ s with link := s.link.hunting } : State).frameComplete f := by
  obtain ⟨checked, hchecked⟩ : ∃ x, x = leBytes 2 f.body.length ++ [f.kind, f.tag] ++ f.body := ⟨_, rfl⟩
  rw [← hchecked] at hcrc ⊢
  rw [List.append_assoc, hcrc]
  have hlength : checked.length = f.body.length + 4 := by
    rw [hchecked]
    simp only [List.length_append, leBytes_length, List.length_cons, List.length_nil]
    omega
  have hall : (checked ++ leBytes 2 (crc16 checked).toNat).length = f.body.length + 6 := by
    rw [List.length_append, leBytes_length, hlength]
  have hframe : frameLength (checked ++ leBytes 2 (crc16 checked).toNat) = f.body.length := by
    unfold frameLength
    have htake : (checked ++ leBytes 2 (crc16 checked).toNat).take 2 = leBytes 2 f.body.length := by
      rw [hchecked, List.append_assoc, List.append_assoc]
      exact List.take_left' (leBytes_length 2 _)
    rw [htake, ofLe_leBytes 2 _ (by omega)]
  have hagrees : crcAgrees (checked ++ leBytes 2 (crc16 checked).toNat) = true := by
    unfold crcAgrees
    rw [hall, show f.body.length + 6 - 2 = checked.length by omega, List.drop_left' rfl, List.take_left' rfl,
      ofLe_leBytes 2 _ (crc16 checked).isLt]
    exact decide_eq_true rfl
  have hof : frameOf (checked ++ leBytes 2 (crc16 checked).toNat) = f := by
    unfold frameOf
    rw [hframe, hchecked]
    obtain ⟨kind, tag, body⟩ := f
    have hkept : ((leBytes 2 body.length ++ [kind, tag] ++ body
        ++ leBytes 2 (crc16 (leBytes 2 body.length ++ [kind, tag] ++ body)).toNat).drop 4).take body.length = body :=
      List.take_left' rfl
    exact congrArg (Frame.mk kind tag) hkept
  unfold State.frameByte
  rw [hall, hframe, if_neg (by omega), if_neg (by show ¬ 1024 < _; omega), if_neg (by omega)]
  simp only [hagrees, if_true, hof]

/-! ### Complete frames and the transmitter (R206, R214) -/

theorem State.dispatch_discard {f : Frame} (h : judgeFrame f = .discard) : s.dispatch f = s := by
  unfold State.dispatch
  rw [h]

theorem State.dispatch_refusal {f : Frame} {st : Status} (h : judgeFrame f = .refusal st) :
    s.dispatch f = s.send f ⟨st, []⟩ := by
  unfold State.dispatch
  rw [h]

theorem State.dispatch_owner {f : Frame} {owner : Owner} (h : judgeFrame f = .owner owner) :
    s.dispatch f = (owner s).1.send f (owner s).2 := by
  unfold State.dispatch
  rw [h]

theorem State.frameComplete_restarting {f : Frame} (h : s.link.restartMark ≠ none) : s.frameComplete f = s := by
  unfold State.frameComplete
  cases hmark : s.link.restartMark with
  | none => exact absurd hmark h
  | some kind => rfl

theorem State.frameComplete_idle {f : Frame} (hmark : s.link.restartMark = none) (hsending : s.link.sending = none) :
    s.frameComplete f = s.dispatch f := by
  unfold State.frameComplete
  rw [hmark, hsending]

/-- With a reply on TXD the frame waits, if none waits before it (R206). -/
theorem State.frameComplete_sending {f : Frame} (hmark : s.link.restartMark = none) (hsending : s.link.sending ≠ none) :
    s.frameComplete f = { s with link := { s.link with waiting := some (s.link.waiting.getD f) } } := by
  obtain ⟨bytes, hbytes⟩ := Option.ne_none_iff_exists'.mp hsending
  unfold State.frameComplete
  rw [hmark, hbytes]
  cases hwaiting : s.link.waiting with
  | none => rfl
  | some g =>
    show s = { s with link := { s.link with waiting := some g } }
    rw [← hwaiting]

theorem transmissionComplete_eq (hmark : s.link.restartMark = none) (hsending : s.link.sending ≠ none) :
    transmissionComplete s = (match s.link.waiting with
      | none => { s with link := { s.link with sending := none, waiting := none } }
      | some f => ({ s with link := { s.link with sending := none, waiting := none } } : State).dispatch f) := by
  obtain ⟨bytes, hbytes⟩ := Option.ne_none_iff_exists'.mp hsending
  unfold transmissionComplete
  rw [hmark, hbytes] <;> cases s.link.waiting <;> rfl

theorem exec_transmissionComplete (hrun : s.phase = .running) :
    exec .transmissionComplete s = .next (transmissionComplete s).settle :=
  exec_of_event hrun (f := transmissionComplete) rfl

end Framer

end Sys2Proof.Machine
end

section
/-! The link as a whole (O60). -/

namespace Sys2Proof.Machine

set_option Elab.async false

section Link

variable {s : State}

/-- What a dispatch does, with the one retained update of its event. -/
theorem State.dispatch_settled (hs : s.Settled) (f : Frame) :
    (judgeFrame f = .discard → (s.dispatch f).settle = s)
      ∧ (∀ st : Status, judgeFrame f = .refusal st → (s.dispatch f).settle = { s with
          link := { s.link with sending := some (replyFrame f ⟨st, []⟩) }, reply := some ⟨st, []⟩ })
      ∧ (∀ owner : Owner, judgeFrame f = .owner owner →
        ∃ (u : State) (reply : Reply), owner s = (u, reply)
          ∧ (s.dispatch f).settle = ({ u with
              link := { u.link with sending := some (replyFrame f reply) }, reply := some reply }.settle)) := by
  refine ⟨fun h => ?_, fun st h => ?_, fun owner h => ⟨(owner s).1, (owner s).2, rfl, ?_⟩⟩
  · rw [State.dispatch_discard h]
    exact s.settle_of_settled hs
  · rw [State.dispatch_refusal h]
    exact (s.send f ⟨st, []⟩).settle_of_settled hs
  · rw [State.dispatch_owner h]
    rfl

/-- The last byte of a frame whose CRC agrees (R206). -/
theorem exec_rxCharacter_last (hrun : s.phase = .running) (hs : s.Settled) (f : Frame) (crc : List Byte) (last : Byte)
    (hunting : State) (hbody : f.body.length ≤ 1024)
    (hcrc : crc ++ [last] = leBytes 2 (crc16 (leBytes 2 f.body.length ++ [f.kind, f.tag] ++ f.body)).toNat)
    (hframer : s.link.framer = .receiving (leBytes 2 f.body.length ++ [f.kind, f.tag] ++ f.body ++ crc))
    (hhunting : hunting = { s with link := { s.link with framer := .hunt, gapTimer := none } }) :
    (s.link.restartMark ≠ none → exec (.rxCharacter last true) s = .next hunting)
      ∧ (s.link.restartMark = none →
        (s.link.sending ≠ none →
          exec (.rxCharacter last true) s
            = .next { hunting with link := { hunting.link with waiting := some (s.link.waiting.getD f) } })
        ∧ (s.link.sending = none →
          (judgeFrame f = .discard → exec (.rxCharacter last true) s = .next hunting)
          ∧ (∀ st : Status, judgeFrame f = .refusal st → exec (.rxCharacter last true) s = .next { hunting with
              link := { hunting.link with sending := some (replyFrame f ⟨st, []⟩) }, reply := some ⟨st, []⟩ })
          ∧ (∀ owner : Owner, judgeFrame f = .owner owner →
            ∃ (u : State) (reply : Reply), owner hunting = (u, reply)
              ∧ exec (.rxCharacter last true) s = .next ({ u with
                  link := { u.link with sending := some (replyFrame f reply) }, reply := some reply }.settle)))) := by
  have hcomplete : rxCharacter last true s = hunting.frameComplete f := by
    rw [rxCharacter_receiving hframer, State.frameByte_complete hbody hcrc, hhunting]
    rfl
  have hsettled : hunting.Settled := by
    rw [hhunting]
    exact hs
  have hmark : hunting.link.restartMark = s.link.restartMark := by rw [hhunting]
  have hsending : hunting.link.sending = s.link.sending := by rw [hhunting]
  have hwaiting : hunting.link.waiting = s.link.waiting := by rw [hhunting]
  rw [exec_rxCharacter hrun, hcomplete]
  refine ⟨fun hrestart => ?_, fun hnone => ⟨fun hbusy => ?_, fun hidle => ?_⟩⟩
  · rw [State.frameComplete_restarting (by rwa [hmark]), State.settle_of_settled _ hsettled]
  · rw [State.frameComplete_sending (by rwa [hmark]) (by rwa [hsending]), hwaiting]
    exact congrArg Host.Outcome.next (State.settle_of_settled _ hsettled)
  · rw [State.frameComplete_idle (by rwa [hmark]) (by rwa [hsending])]
    obtain ⟨hdiscard, hrefusal, howner⟩ := hunting.dispatch_settled hsettled f
    refine ⟨fun h => by rw [hdiscard h], fun st h => by rw [hrefusal st h], fun owner h => ?_⟩
    obtain ⟨u, reply, htake, hsettle⟩ := howner owner h
    exact ⟨u, reply, htake, by rw [hsettle]⟩

/-- A reply has left TXD, and a frame waits (R206). -/
theorem exec_transmissionComplete_waiting (hrun : s.phase = .running) (hs : s.Settled) (f : Frame) (idle : State)
    (hmark : s.link.restartMark = none) (hsending : s.link.sending ≠ none) (hwaiting : s.link.waiting = some f)
    (hidle : idle = { s with link := { s.link with sending := none, waiting := none } }) :
    (judgeFrame f = .discard → exec .transmissionComplete s = .next idle)
      ∧ (∀ st : Status, judgeFrame f = .refusal st → exec .transmissionComplete s = .next { idle with
          link := { idle.link with sending := some (replyFrame f ⟨st, []⟩) }, reply := some ⟨st, []⟩ })
      ∧ (∀ owner : Owner, judgeFrame f = .owner owner →
        ∃ (u : State) (reply : Reply), owner idle = (u, reply)
          ∧ exec .transmissionComplete s = .next ({ u with
              link := { u.link with sending := some (replyFrame f reply) }, reply := some reply }.settle)) := by
  have hsettled : idle.Settled := by
    rw [hidle]
    exact hs
  have hcomplete : transmissionComplete s = idle.dispatch f := by
    rw [transmissionComplete_eq hmark hsending, hwaiting, hidle]
  rw [exec_transmissionComplete hrun, hcomplete]
  obtain ⟨hdiscard, hrefusal, howner⟩ := idle.dispatch_settled hsettled f
  refine ⟨fun h => by rw [hdiscard h], fun st h => by rw [hrefusal st h], fun owner h => ?_⟩
  obtain ⟨u, reply, htake, hsettle⟩ := howner owner h
  exact ⟨u, reply, htake, by rw [hsettle]⟩

theorem exec_transmissionComplete_idle (hrun : s.phase = .running) (hs : s.Settled) (hmark : s.link.restartMark = none)
    (hwaiting : s.link.waiting = none) (hsending : s.link.sending ≠ none) :
    exec .transmissionComplete s = .next { s with link := { s.link with sending := none } } := by
  have hcomplete : transmissionComplete s = { s with link := { s.link with sending := none } } := by
    rw [transmissionComplete_eq hmark hsending, hwaiting]
    show ({ s with link := { s.link with sending := none, waiting := none } } : State) = _
    rw [← hwaiting]
  rw [exec_transmissionComplete hrun, hcomplete]
  exact congrArg Host.Outcome.next (State.settle_of_settled _ hs)

/-- A request without a body, from its last byte to its reply. -/
theorem exec_rxCharacter_emptyBody (hrun : s.phase = .running) (hs : s.Settled) (kind tag : Byte) (crc : List Byte)
    (owner : Owner) (last : Byte) (hcrc : crc ++ [last] = leBytes 2 (crc16 [0#8, 0#8, kind, tag]).toNat)
    (hframer : s.link.framer = .receiving ([0#8, 0#8, kind, tag] ++ crc)) (hmark : s.link.restartMark = none)
    (hsending : s.link.sending = none) (howner : judgeFrame ⟨kind, tag, []⟩ = .owner owner) :
    ∃ (t u : State) (reply : Reply), exec (.rxCharacter last true) s = .next t
      ∧ owner { s with link := { s.link with framer := .hunt, gapTimer := none } } = (u, reply)
      ∧ t.link.sending = some (replyFrame ⟨kind, tag, []⟩ reply) ∧ t.reply = some reply ∧ t.link.framer = .hunt
      ∧ t.params = u.params ∧ t.ret = u.ret ∧ t.audit = u.audit ∧ t.Settled := by
  have hhead : leBytes 2 (Frame.mk kind tag []).body.length
      ++ [(Frame.mk kind tag []).kind, (Frame.mk kind tag []).tag] ++ (Frame.mk kind tag []).body
      = [0#8, 0#8, kind, tag] := by simp [leBytes]
  obtain ⟨-, hlast⟩ := exec_rxCharacter_last hrun hs ⟨kind, tag, []⟩ crc last _ (Nat.zero_le _) (by rw [hhead, hcrc])
    (by rw [hhead, hframer]) rfl
  obtain ⟨-, hidle⟩ := hlast hmark
  obtain ⟨-, -, htaken⟩ := hidle hsending
  obtain ⟨u, reply, htake, hexec⟩ := htaken owner howner
  have hlink := keepsLink_of_emptyBody howner { s with link := { s.link with framer := .hunt, gapTimer := none } }
  rw [htake] at hlink
  have hhunt : u.link.framer = .hunt := by rw [hlink]
  obtain ⟨sent, hsent⟩ : ∃ x : State, x = { u with
    link := { u.link with sending := some (replyFrame ⟨kind, tag, []⟩ reply) }, reply := some reply } := ⟨_, rfl⟩
  rw [← hsent] at hexec
  have hsettled := sent.settled_settle
  have hkept := sent.settle_eq_with
  generalize sent.settle = t at hexec hsettled hkept
  refine ⟨t, u, reply, hexec, htake, ?_, ?_, ?_, ?_, ?_, ?_, hsettled⟩
  · rw [hkept, hsent]
  · rw [hkept, hsent]
  · rw [hkept, hsent]
    exact hhunt
  · rw [hkept, hsent]
  · rw [hkept, hsent]
  · rw [hkept, hsent]

/-- Settles O60: characters make frames, the judgement of a frame is that of its reader, and what an owner or the link
answers goes out as one frame. -/
theorem linkTakesFramesAndSendsReplies : Obligations.LinkTakesFramesAndSendsReplies := by
  refine ⟨fun s hrun hs => ⟨fun byte => ?_, fun hhunt => ⟨?_, fun byte hbyte => ?_⟩, fun d hd => ?_,
      fun kind tag crc owner last hcrc hframer hmark hsending howner =>
        exec_rxCharacter_emptyBody hrun hs kind tag crc owner last hcrc hframer hmark hsending howner, judgeFrame_kinds,
      fun taken byte n hframer hn => ⟨fun h => ?_, fun h => ?_⟩,
      fun f crc last hunting => exec_rxCharacter_last hrun hs f crc last hunting,
      exec_transmissionComplete_idle hrun hs, fun f hmark hsending hwaiting hjudge => ?_,
      fun f idle => exec_transmissionComplete_waiting hrun hs f idle⟩,
    fun f reply body n crc hbody hn hcrc => ?_, fun c tag f hframe hwf hruns hopen hvessel => ?_,
    fun kind hkind => catalogue_iff hkind, fun kind k tag body h hlength => judgeFrame_fixed h hlength, fun tag => rfl,
    fun tag a b x y value hvalue => ⟨judge_runService, fun h => ⟨judge_liveValues hvalue h, judge_readValues h,
      judge_oneMember (by decide) rfl h, judge_oneMember (by decide) rfl h, judge_alarmAck_mark h,
      judge_readAlarms_presence h⟩, judge_stageOpen_kind, judge_stageOpen_runs, judge_readTotals, judge_statusMatch,
      judge_alarmAck_name, judge_readAlarms_mark⟩,
    fun rec tag f hframe hwf hvessel => judgeFrame_unprintable hframe hwf hvessel⟩
  · exact exec_rxCharacter_of_eq hrun rfl hs
  · exact exec_rxCharacter_of_eq hrun ((rxCharacter_hunt hhunt _).trans (if_pos rfl)) hs
  · exact exec_rxCharacter_of_eq hrun ((rxCharacter_hunt hhunt _).trans (if_neg hbyte)) hs
  · have hexpiry : gapExpiry s = { s with
        now := max s.now d, link := { s.link with framer := .hunt, gapTimer := none } } := by
      unfold gapExpiry
      rw [hd]
      rfl
    rw [exec_of_event hrun (f := gapExpiry) rfl, hexpiry]
    exact congrArg Host.Outcome.next (State.settle_of_settled _ hs)
  · exact exec_rxCharacter_of_eq hrun ((rxCharacter_receiving hframer byte).trans (State.frameByte_taking hn h)) hs
  · exact exec_rxCharacter_of_eq hrun ((rxCharacter_receiving hframer byte).trans (State.frameByte_discard hn h)) hs
  · exact (exec_transmissionComplete_waiting hrun hs f _ hmark hsending hwaiting rfl).2.1 _ hjudge
  · subst hbody hn hcrc
    rfl
  · obtain ⟨⟨owner, howner, htaking⟩, hextra⟩ :=
      requestFrame?_judged hframe hwf (readable_of_named hruns hopen hvessel)
    exact ⟨⟨owner, howner, fun s hr => exec_of_request hr htaking⟩, hextra⟩

end Link

end Sys2Proof.Machine
end

section
/-! The close tests (R119 to R121): the close of a batch, what one test does, and what a run of tests over the ending list
keeps. -/

namespace Sys2Proof.Machine

set_option Elab.async false

/-! ### Distinct ids -/

section Ids

variable {s : State} {a b x : Batch}

theorem State.active_ne_of_ending (h : s.ret.BatchIdsDistinct) (ha : s.ret.active = some a) (hb : b ∈ s.ret.ending) :
    b.record.id ≠ a.record.id := by
  have hnodup := h.live
  unfold State.liveBatches at hnodup
  rw [ha, List.map_append, List.nodup_append] at hnodup
  obtain ⟨-, -, hne⟩ := hnodup
  exact (hne a.record.id (by simp) b.record.id (List.mem_map_of_mem hb)).symm

theorem State.ending_ids_nodup (h : s.ret.BatchIdsDistinct) : (s.ret.ending.map fun b => b.record.id).Nodup := by
  have hnodup := h.live
  unfold State.liveBatches at hnodup
  rw [List.map_append] at hnodup
  exact hnodup.of_append_right

theorem State.ending_eq_of_id (h : s.ret.BatchIdsDistinct) (hb : b ∈ s.ret.ending) (hx : x ∈ s.ret.ending)
    (hid : x.record.id = b.record.id) : x = b :=
  List.inj_on_of_nodup_map (State.ending_ids_nodup h) hx hb hid

theorem State.active_changedAt (h : s.ret.BatchIdsDistinct) (hb : b ∈ s.ret.ending) (f : Batch → Batch) :
    s.ret.active.map (Batch.changedAt b.record.id f) = s.ret.active := by
  cases ha : s.ret.active with
  | none => rfl
  | some a =>
    have hne := State.active_ne_of_ending h ha hb
    rw [Option.map_some, Batch.changedAt, if_neg (Ne.symm hne)]

/-- Of distinct ids, one leaves the list with its batch. -/
theorem length_filter_id {bs : List Batch} (h : (bs.map fun b => b.record.id).Nodup) {id : Nat}
    (hid : id ∈ bs.map fun b => b.record.id) :
    (bs.filter fun x => decide (x.record.id ≠ id)).length + 1 = bs.length := by
  induction bs with
  | nil => cases hid
  | cons b bs ih =>
    rw [List.map_cons, List.nodup_cons] at h
    obtain ⟨hnotin, hnodup⟩ := h
    by_cases hb : b.record.id = id
    · have hrest : bs.filter (fun x => decide (x.record.id ≠ id)) = bs := by
        rw [List.filter_eq_self]
        intro x hx
        refine decide_eq_true fun hxid => hnotin ?_
        rw [hb, ← hxid]
        exact List.mem_map_of_mem hx
      rw [List.filter_cons_of_neg (by simp [hb]), hrest, List.length_cons]
    · have hmem : id ∈ bs.map fun b => b.record.id := by
        rcases List.mem_cons.mp hid with h' | h'
        · exact absurd h'.symm hb
        · exact h'
      rw [List.filter_cons_of_pos (by simp [hb]), List.length_cons, ih hnodup hmem, List.length_cons]

end Ids

/-! ### The close of a batch (R121) -/

/-- The ticket that a batch gets when it closes now. -/
def State.closingTicket (s : State) (b : Batch) : Ticket :=
  buildTicket s.ret.ticketCounter b s.params.products[b.slot].name s.ret.runTotals

/-- A batch closed, before a write is tried. -/
def State.closed (s : State) (b : Batch) : State :=
  { s with
    archive := { s.archive with numberMark := s.ret.ticketCounter }
    ret := { s.ret with
      ticketCounter := nextTicketNumber s.ret.ticketCounter
      pendingTickets := s.ret.pendingTickets ++ [⟨s.closingTicket b, false⟩]
      ending := s.ret.ending.filter (fun x => decide (x.record.id ≠ b.record.id)) }
    flags := { s.flags with batchClosed := true } }

/-- What the close of a batch leaves. -/
structure State.BatchClosed (s t : State) (b : Batch) : Prop where
  moved : s.ArchiveMoved t
  active : t.ret.active = s.ret.active
  ending : t.ret.ending = s.ret.ending.filter (fun x => decide (x.record.id ≠ b.record.id))
  tickets : t.ret.pendingTickets.map PendingTicket.ticket
    = s.ret.pendingTickets.map PendingTicket.ticket ++ [s.closingTicket b]
  counter : t.ret.ticketCounter = nextTicketNumber s.ret.ticketCounter
  mark : t.archive.numberMark = s.ret.ticketCounter
  flag : t.flags.batchClosed = true

section Close

variable {s t u v : State} {b x : Batch}

theorem State.closeBatch_eq (s : State) (b : Batch) : s.closeBatch b = (s.closed b).tryStartWrite := rfl

theorem State.tryStartWrite_numberMark (s : State) : s.tryStartWrite.archive.numberMark = s.archive.numberMark := by
  rcases s.tryStartWrite_cases with h | h | ⟨p, ps, i, j, opens, -, hstarted, -⟩
  · rw [h]
  · rw [h]
    simp
  · rw [hstarted.archive]

theorem State.tryStartWrite_batchClosed (s : State) : s.tryStartWrite.flags.batchClosed = s.flags.batchClosed := by
  unfold State.tryStartWrite
  split
  · split
    · rfl
    · split
      · next a i j _ =>
        unfold State.startWrite
        dsimp only
        rw [State.suspendErase_suspended _ |>.frame]
        show (State.clearAlarm _ _).flags.batchClosed = _
        rw [State.clearAlarm, (State.alarmsMoved_moveAlarm _ _ _).flags]
      · rw [State.raiseAlarm, (State.alarmsMoved_moveAlarm _ _ _).flags]
  · rfl
  · rfl

theorem State.closeBatch_closed (s : State) (b : Batch) : s.BatchClosed (s.closeBatch b) b := by
  have hmoved := s.archiveMoved_closeBatch b
  have htickets := (s.closed b).tryStartWrite_tickets
  have hmark := (s.closed b).tryStartWrite_numberMark
  have hflag := (s.closed b).tryStartWrite_batchClosed
  obtain ⟨ps, hret⟩ := State.tryStartWrite_ret (s.closed b)
  rw [← State.closeBatch_eq] at htickets hmark hflag hret
  exact {
    moved := hmoved
    active := by
      rw [hret]
      rfl
    ending := by
      rw [hret]
      rfl
    tickets := by
      rw [htickets]
      exact List.map_append
    counter := by
      rw [hret]
      rfl
    mark := hmark
    flag := hflag }

/-- What the close test of one batch does (R119). -/
theorem State.closeTest_cases (s : State) (b : Batch) :
    (s.closeTest b = s ∧ (s.readyToClose b = false ∨ s.pendingHasPlace = true ∧ s.ret.ticketCounter = 0))
      ∨ (s.closeTest b = s.modBatch b.record.id Batch.waitsOnArchive ∧ s.readyToClose b = true
          ∧ s.pendingHasPlace = false)
      ∨ (s.closeTest b = s.closeBatch b ∧ s.readyToClose b = true ∧ s.pendingHasPlace = true
          ∧ s.ret.ticketCounter ≠ 0) := by
  unfold State.closeTest
  cases hready : s.readyToClose b with
  | false => exact .inl ⟨rfl, .inl rfl⟩
  | true =>
    cases hplace : s.pendingHasPlace with
    | false => exact .inr (.inl ⟨rfl, rfl, rfl⟩)
    | true =>
      by_cases hcounter : s.ret.ticketCounter = 0
      · exact .inl ⟨if_pos hcounter, .inr ⟨rfl, hcounter⟩⟩
      · exact .inr (.inr ⟨if_neg hcounter, rfl, rfl, hcounter⟩)

/-! ### A run of close tests -/

/-- The batch, whatever its ARCHIVE_WAIT flag. -/
def Batch.SameButWait (x y : Batch) : Prop := y = { x with flags := { x.flags with archiveWait := y.flags.archiveWait } }

theorem Batch.SameButWait.refl (x : Batch) : x.SameButWait x := rfl

theorem Batch.SameButWait.trans {x y z : Batch} (h : x.SameButWait y) (k : y.SameButWait z) : x.SameButWait z := by
  unfold Batch.SameButWait at h k ⊢
  rw [k, h]

theorem Batch.sameButWait_changedAt (id : Nat) (x : Batch) : x.SameButWait (Batch.changedAt id Batch.waitsOnArchive x) := by
  unfold Batch.changedAt
  split <;> rfl

/-- What close tests of ENDING batches of a state leave of it. -/
structure State.CloseRun (u v : State) : Prop where
  moved : u.ArchiveMoved v
  active : v.ret.active = u.ret.active
  back : ∀ y ∈ v.ret.ending, ∃ x ∈ u.ret.ending, x.SameButWait y
  kept : ∀ x ∈ u.ret.ending, u.readyToClose x = false → x ∈ v.ret.ending

theorem State.readyToClose_congr (h : v.smc = u.smc) (b : Batch) : v.readyToClose b = u.readyToClose b := by
  unfold State.readyToClose State.queuedGrabs
  rw [h]

theorem State.CloseRun.refl (u : State) : u.CloseRun u :=
  ⟨.refl, rfl, fun y hy => ⟨y, hy, .refl y⟩, fun _ hx _ => hx⟩

theorem State.CloseRun.closeTest (hids : u.ret.BatchIdsDistinct) (h : u.CloseRun v) (hb : b ∈ u.ret.ending) :
    u.CloseRun (v.closeTest b) := by
  have hready := State.readyToClose_congr (u := u) (v := v) h.moved.smc b
  have hne : u.readyToClose b = true → ∀ x ∈ u.ret.ending, u.readyToClose x = false → x.record.id ≠ b.record.id :=
    fun hbready x hx hxready hid => by
      rw [State.ending_eq_of_id hids hb hx hid, hbready] at hxready
      cases hxready
  rcases v.closeTest_cases b with ⟨heq, -⟩ | ⟨heq, hbready, -⟩ | ⟨heq, hbready, -⟩
  · rw [heq]
    exact h
  · rw [hready] at hbready
    rw [heq]
    refine ⟨h.moved.trans (heq ▸ v.archiveMoved_closeTest b), ?_, fun y hy => ?_, fun x hx hxready => ?_⟩
    · show v.ret.active.map (Batch.changedAt b.record.id Batch.waitsOnArchive) = u.ret.active
      rw [h.active]
      exact State.active_changedAt hids hb _
    · obtain ⟨y', hy', rfl⟩ := List.mem_map.mp (show y ∈ v.ret.ending.map _ from hy)
      obtain ⟨x, hx, hsame⟩ := h.back y' hy'
      exact ⟨x, hx, hsame.trans (Batch.sameButWait_changedAt _ y')⟩
    · show x ∈ v.ret.ending.map (Batch.changedAt b.record.id Batch.waitsOnArchive)
      refine List.mem_map.mpr ⟨x, h.kept x hx hxready, if_neg (hne hbready x hx hxready)⟩
  · rw [hready] at hbready
    have hclosed := v.closeBatch_closed b
    rw [heq]
    refine ⟨h.moved.trans hclosed.moved, hclosed.active.trans h.active, fun y hy => ?_, fun x hx hxready => ?_⟩
    · rw [hclosed.ending] at hy
      exact h.back y (List.mem_filter.mp hy).1
    · rw [hclosed.ending]
      exact List.mem_filter.mpr ⟨h.kept x hx hxready, decide_eq_true (hne hbready x hx hxready)⟩

theorem State.CloseRun.foldl (hids : u.ret.BatchIdsDistinct) {bs : List Batch} (h : u.CloseRun v)
    (hbs : ∀ b ∈ bs, b ∈ u.ret.ending) : u.CloseRun (bs.foldl State.closeTest v) := by
  induction bs generalizing v with
  | nil => exact h
  | cons b bs ih =>
    exact ih (h.closeTest hids (hbs b List.mem_cons_self)) fun x hx => hbs x (List.mem_cons_of_mem b hx)

theorem State.closeRun_closeTests (hids : u.ret.BatchIdsDistinct) : u.CloseRun u.closeTests :=
  (State.CloseRun.refl u).foldl hids fun _ hb => hb

end Close

end Sys2Proof.Machine
end

section
/-! The completion of a warm start (R98, R169, R185, R186): the archive as examined, the close tests and the first write. -/

namespace Sys2Proof.Machine

set_option Elab.async false

/-! ### The archive as examined (R185, R186) -/

section Examined

variable (a : Archive)

theorem Archive.recover_slot (ij : Sector × Sector) :
    a.recover.slot ij = if a.slot ij = .writing then .defective else a.slot ij := by
  unfold Archive.slot
  rw [Archive.recover_sectors, ArchiveSector.recover_slots]
  cases a.sectors[ij.1].slots[ij.2] <;> rfl

theorem Archive.recover_state (i : Sector) : a.recover.sectors[i].state
    = if a.sectors[i].state = .eraseSuspended then .erasing else a.sectors[i].state := by
  rw [Archive.recover_sectors]
  show a.sectors[i].state.recover = _
  cases a.sectors[i].state <;> rfl

theorem Archive.recover_openNumber (i : Sector) : a.recover.sectors[i].openNumber = a.sectors[i].openNumber := by
  rw [Archive.recover_sectors]
  rfl

theorem Archive.recover_ticketAt? (ij : Sector × Sector) : a.recover.ticketAt? ij = a.ticketAt? ij := by
  have hstate : a.recover.sectors[ij.1].state.holdsTickets = a.sectors[ij.1].state.holdsTickets := by
    rw [Archive.recover_state]
    cases a.sectors[ij.1].state <;> rfl
  have hslot : (a.recover.slot ij).ticket? = (a.slot ij).ticket? := by
    rw [Archive.recover_slot]
    cases a.slot ij <;> rfl
  unfold Archive.ticketAt?
  rw [hstate, hslot]

/-- A number is in the archive exactly where a search for it finds a slot. -/
theorem Archive.contains_ticketNumbers (n : Nat) : a.recover.ticketNumbers.contains n = (a.findTicket? n).isSome := by
  have hnumbers : a.recover.ticketNumbers = allSlots.filterMap fun ij => (a.ticketAt? ij).map Ticket.number := by
    unfold Archive.ticketNumbers
    simp only [Archive.recover_ticketAt?]
  rw [hnumbers, Bool.eq_iff_iff, List.contains_iff_mem, List.mem_filterMap]
  unfold Archive.findTicket?
  rw [List.find?_isSome]
  simp only [decide_eq_true_eq]

theorem reconcile_eq (ps : List PendingTicket) : reconcile a.recover.ticketNumbers ps
    = (ps.filter fun p => (a.findTicket? p.ticket.number).isNone).map fun p => ⟨p.ticket, false⟩ := by
  unfold reconcile
  simp only [Archive.contains_ticketNumbers, Option.not_isSome]
  rfl

/-- The erase that a start takes up again is that of the first sector found ERASING. -/
theorem Archive.restartedErase?_first {i : Sector} {now : Moment} (hi : a.sectors[i].state = .erasing)
    (hfirst : ∀ j : Sector, j < i → a.sectors[j].state ≠ .erasing) :
    a.restartedErase? now = some ⟨i, 15000000, some now⟩ := by
  have hfind : allEight.find? (fun i => decide (a.sectors[i].state = .erasing)) = some i :=
    find?_allEight (by simpa using hi) fun j hj => by simpa using hfirst j hj
  unfold Archive.restartedErase?
  rw [hfind]
  rfl

theorem Archive.restartedErase?_none {now : Moment} (h : ∀ i : Sector, a.sectors[i].state ≠ .erasing) :
    a.restartedErase? now = none := by
  have hfind : allEight.find? (fun i => decide (a.sectors[i].state = .erasing)) = none :=
    List.find?_eq_none.mpr fun i _ => by simpa using h i
  unfold Archive.restartedErase?
  rw [hfind]
  rfl

end Examined

/-! ### The first write -/

section FirstWrite

variable {s u v : State} {b : Batch}

/-- What a write started in the archive of a state has done to it, whatever has been closed since. -/
structure State.WriteBegun (u v : State) (w : WriteInFlight) : Prop where
  write : v.write = some w
  slot : v.archive.slot (w.sector, w.slot) = .writing
  slots : ∀ kl : Sector × Sector, kl ≠ (w.sector, w.slot) → v.archive.slot kl = u.archive.slot kl
  free : u.archive.sectors[w.sector].state = .opened ∧ u.archive.slot (w.sector, w.slot) = .empty
    ∨ u.archive.sectors[w.sector].state = .erased
  erase : ∀ e : EraseInProgress, u.erase = some e → e.Matches u.archive → e.since = some u.now →
    v.erase = some ⟨e.sector, e.remaining, none⟩ ∧ v.archive.sectors[e.sector].state = .eraseSuspended
  tickets : ∃ (k : Ticket) (ps : List PendingTicket), v.ret.pendingTickets = ⟨k, true⟩ :: ps
    ∧ ∀ p ∈ ps, p.writing = false
  alarm : v.alarmRaised (.station .archiveFull) = false

/-- No write has started since, and the archive and the erase stand as they did. -/
structure State.NoWrite (u v : State) : Prop where
  write : v.write = none
  erase : v.erase = u.erase
  sectors : v.archive.sectors = u.archive.sectors
  queued : ∀ p ∈ v.ret.pendingTickets, p.writing = false
  alarm : v.ret.pendingTickets = [] → v.alarmRaised (.station .archiveFull) = false

/-- The archive since a state without a write: as it stood, or with a write begun. -/
def State.WarmArchive (u v : State) : Prop := v.now = u.now ∧ (u.NoWrite v ∨ ∃ w : WriteInFlight, u.WriteBegun v w)

/-- Trying a write with a QUEUED head and none in flight raises ARCHIVE_FULL or starts it. -/
theorem State.tryStartWrite_queued (hne : s.ret.pendingTickets ≠ []) (hqueued : ∀ p ∈ s.ret.pendingTickets, p.writing = false)
    (hwrite : s.write = none) : s.tryStartWrite = s.raiseAlarm (.station .archiveFull)
      ∨ ∃ (p : PendingTicket) (ps : List PendingTicket) (i j : Sector) (opens : Bool),
          s.ret.pendingTickets = p :: ps ∧ State.WriteStarted s s.tryStartWrite p ps i j opens
            ∧ (s.archive.sectors[i].state = .opened ∧ s.archive.slot (i, j) = .empty
              ∨ s.archive.sectors[i].state = .erased) := by
  obtain ⟨p, ps, hps⟩ := List.exists_cons_of_ne_nil hne
  have htry := State.tryStartWrite_of_queued hps (hqueued p (by simp [hps])) hwrite
  cases hchoose : s.archive.chooseSlot? with
  | none =>
    rw [hchoose] at htry
    exact .inl htry
  | some x =>
    obtain ⟨a, i, j⟩ := x
    obtain ⟨opens, hbegin, hopen, hfree⟩ := Archive.chooseSlot?_cases hchoose
    rw [hchoose] at htry
    refine .inr ⟨p, ps, i, j, opens, hps, ?_, ?_⟩
    · rw [htry]
      exact State.startWrite_started hps hbegin
    · cases opens with
      | false => exact .inl (hopen rfl)
      | true => exact .inr (hfree rfl)

theorem State.NoWrite.begun (h : u.NoWrite v) (hnow : v.now = u.now) {p : PendingTicket} {ps : List PendingTicket}
    {i j : Sector} {opens : Bool} {t : State} (hps : v.ret.pendingTickets = p :: ps)
    (hstarted : State.WriteStarted v t p ps i j opens)
    (hfree : v.archive.sectors[i].state = .opened ∧ v.archive.slot (i, j) = .empty ∨ v.archive.sectors[i].state = .erased) :
    u.WriteBegun t ⟨i, j⟩ := by
  have hslot (kl : Sector × Sector) : v.archive.slot kl = u.archive.slot kl := by
    unfold Archive.slot
    rw [h.sectors]
  rw [hslot, h.sectors] at hfree
  refine ⟨hstarted.write, hstarted.slot, fun kl hkl => (hstarted.slots kl hkl).trans (hslot kl), hfree,
    fun e he hmatch hsince => ?_, ⟨p.ticket, ps, ?_, fun q hq => h.queued q ?_⟩, hstarted.cleared⟩
  · have hstate : u.archive.sectors[e.sector].state = .erasing := by
      rw [hmatch, hsince]
      rfl
    have hne : e.sector ≠ i := by
      rintro rfl
      rw [hstate] at hfree
      rcases hfree with ⟨hopen, -⟩ | herased
      · cases hopen
      · cases herased
    obtain ⟨hsuspended, -, hrunning⟩ := hstarted.inErase e (h.erase.trans he) hne
    refine ⟨?_, hsuspended ?_⟩
    · rw [hrunning u.now hsince, hnow, Nat.sub_self, Nat.sub_zero]
    · rw [EraseInProgress.Matches, h.sectors]
      exact hmatch
  · rw [hstarted.ret]
  · rw [hps]
    exact List.mem_cons_of_mem p hq

theorem State.raiseAlarm_noWrite (h : u.NoWrite v) (hne : v.ret.pendingTickets ≠ []) :
    u.NoWrite (v.raiseAlarm (.station .archiveFull)) := by
  refine ⟨?_, ?_, ?_, ?_, fun hnil => absurd hnil ?_⟩
  · exact (by simp : (v.raiseAlarm (.station .archiveFull)).write = v.write).trans h.write
  · exact (by simp : (v.raiseAlarm (.station .archiveFull)).erase = v.erase).trans h.erase
  · rw [show (v.raiseAlarm (.station .archiveFull)).archive = v.archive by simp, h.sectors]
  · rw [show (v.raiseAlarm (.station .archiveFull)).ret = v.ret by simp]
    exact h.queued
  · rw [show (v.raiseAlarm (.station .archiveFull)).ret = v.ret by simp]
    exact hne

/-- Trying a write keeps the two cases apart, and ARCHIVE_FULL is raised after it exactly where a ticket waits. -/
theorem State.WarmArchive.tryStartWrite (h : u.WarmArchive v) : u.WarmArchive v.tryStartWrite
    ∧ v.tryStartWrite.alarmRaised (.station .archiveFull)
        = (!v.tryStartWrite.ret.pendingTickets.isEmpty && v.tryStartWrite.write.isNone) := by
  obtain ⟨hnow, hcases⟩ := h
  have hnow' : v.tryStartWrite.now = u.now := (by simp : v.tryStartWrite.now = v.now).trans hnow
  rcases hcases with hidle | ⟨w, hbegun⟩
  · by_cases hnil : v.ret.pendingTickets = []
    · have hself := State.tryStartWrite_eq_self (s := v) (.inl hnil)
      rw [hself]
      refine ⟨⟨hnow, .inl hidle⟩, ?_⟩
      rw [hidle.alarm hnil, hnil]
      rfl
    · rcases State.tryStartWrite_queued hnil hidle.queued hidle.write with hraise | ⟨p, ps, i, j, opens, hps, hstarted, hfree⟩
      · have hkept := State.raiseAlarm_noWrite hidle hnil
        have hraised : (v.raiseAlarm (.station .archiveFull)).alarmRaised (.station .archiveFull) = true :=
          State.alarmRaised_setAlarm v (.station .archiveFull) true
        rw [hraise] at hnow' ⊢
        refine ⟨⟨hnow', .inl hkept⟩, ?_⟩
        rw [hraised, hkept.write, show (v.raiseAlarm (.station .archiveFull)).ret = v.ret by simp]
        simp [List.isEmpty_eq_false_iff.mpr hnil]
      · have hbegun := hidle.begun hnow hps hstarted hfree
        refine ⟨⟨hnow', .inr ⟨_, hbegun⟩⟩, ?_⟩
        rw [hbegun.alarm, hbegun.write]
        simp
  · have hself := State.tryStartWrite_eq_self (s := v) (.inr (.inl (by rw [hbegun.write]; simp)))
    rw [hself]
    refine ⟨⟨hnow, .inr ⟨w, hbegun⟩⟩, ?_⟩
    rw [hbegun.alarm, hbegun.write]
    simp

theorem State.WarmArchive.closed (h : u.WarmArchive v) (b : Batch) : u.WarmArchive (v.closed b) := by
  obtain ⟨hnow, hcases⟩ := h
  have halarm : (v.closed b).alarmRaised (.station .archiveFull) = v.alarmRaised (.station .archiveFull) := rfl
  refine ⟨hnow, ?_⟩
  rcases hcases with hidle | ⟨w, hbegun⟩
  · refine .inl ⟨hidle.write, hidle.erase, hidle.sectors, fun p hp => ?_, fun hnil => ?_⟩
    · rcases List.mem_append.mp hp with hp | hp
      · exact hidle.queued p hp
      · rw [List.mem_singleton.mp hp]
    · exact absurd (List.append_eq_nil_iff.mp hnil).2 (by simp)
  · obtain ⟨k, ps, hps, hqueued⟩ := hbegun.tickets
    refine .inr ⟨w, hbegun.write, hbegun.slot, hbegun.slots, hbegun.free, hbegun.erase,
      ⟨k, ps ++ [⟨v.closingTicket b, false⟩], ?_, fun p hp => ?_⟩, hbegun.alarm⟩
    · show v.ret.pendingTickets ++ _ = _
      rw [hps]
      rfl
    · rcases List.mem_append.mp hp with hp | hp
      · exact hqueued p hp
      · rw [List.mem_singleton.mp hp]

theorem State.WarmArchive.closeTest (h : u.WarmArchive v) (b : Batch) : u.WarmArchive (v.closeTest b) := by
  rcases v.closeTest_cases b with ⟨heq, -⟩ | ⟨heq, -⟩ | ⟨heq, -⟩
  · rw [heq]
    exact h
  · rw [heq]
    obtain ⟨hnow, hidle | ⟨w, hbegun⟩⟩ := h
    · exact ⟨hnow, .inl ⟨hidle.write, hidle.erase, hidle.sectors, hidle.queued, hidle.alarm⟩⟩
    · exact ⟨hnow, .inr ⟨w, hbegun.write, hbegun.slot, hbegun.slots, hbegun.free, hbegun.erase, hbegun.tickets,
        hbegun.alarm⟩⟩
  · rw [heq, State.closeBatch_eq]
    exact ((h.closed b).tryStartWrite).1

theorem State.WarmArchive.closeTests (h : u.WarmArchive v) (bs : List Batch) :
    u.WarmArchive (bs.foldl State.closeTest v) := by
  induction bs generalizing v with
  | nil => exact h
  | cons b bs ih => exact ih (h.closeTest b)

end FirstWrite

/-! ### The tickets of the batches that close -/

section ClosedTickets

variable {u v : State} {b : Batch}

/-- The tickets that joined the pending queue since a state, each for a batch that left the ending list; with none of
them, neither the tickets nor the archive moved. -/
structure State.TicketsJoined (u v : State) (closed : List Ticket) : Prop where
  tickets : v.ret.pendingTickets.map PendingTicket.ticket = u.ret.pendingTickets.map PendingTicket.ticket ++ closed
  ending : closed.length + v.ret.ending.length = u.ret.ending.length
  none : closed = [] → v.ret.ticketCounter = u.ret.ticketCounter ∧ v.archive = u.archive ∧ v.write = u.write
    ∧ v.erase = u.erase ∧ v.ret.pendingTickets = u.ret.pendingTickets

/-- One more close test: the batch is held in the ending list, and the ids stay those of the list but for it. -/
theorem State.TicketsJoined.closeTest {closed : List Ticket} (h : u.TicketsJoined v closed)
    (hnodup : (v.ret.ending.map fun b => b.record.id).Nodup) (hb : b.record.id ∈ v.ret.ending.map fun b => b.record.id) :
    (∃ closed' : List Ticket, u.TicketsJoined (v.closeTest b) closed')
      ∧ ((v.closeTest b).ret.ending.map fun b => b.record.id).Nodup
      ∧ ∀ id ∈ v.ret.ending.map (fun b => b.record.id), id ≠ b.record.id →
          id ∈ (v.closeTest b).ret.ending.map fun b => b.record.id := by
  rcases v.closeTest_cases b with ⟨heq, -⟩ | ⟨heq, -⟩ | ⟨heq, -⟩
  · rw [heq]
    exact ⟨⟨closed, h⟩, hnodup, fun id hid _ => hid⟩
  · have hids : ((v.modBatch b.record.id Batch.waitsOnArchive).ret.ending.map fun b => b.record.id)
        = v.ret.ending.map fun b => b.record.id := by
      show (v.ret.ending.map (Batch.changedAt b.record.id Batch.waitsOnArchive)).map _ = _
      rw [List.map_map]
      refine List.map_congr_left fun x _ => ?_
      exact KeepsBatch.changedAt_id (f := Batch.waitsOnArchive) {} x
    rw [heq, hids]
    refine ⟨⟨closed, h.tickets, ?_, h.none⟩, hnodup, fun id hid _ => hid⟩
    rw [← h.ending]
    exact congrArg (closed.length + ·) (List.length_map _)
  · have hclosed := v.closeBatch_closed b
    rw [heq, hclosed.ending]
    refine ⟨⟨closed ++ [v.closingTicket b], ?_, ?_, fun hnil => ?_⟩, ?_, fun id hid hne => ?_⟩
    · rw [hclosed.tickets, h.tickets, List.append_assoc]
    · rw [hclosed.ending, ← h.ending, ← length_filter_id hnodup hb, List.length_append, List.length_singleton]
      omega
    · exact absurd (List.append_eq_nil_iff.mp hnil).2 (by simp)
    · exact hnodup.sublist (List.filter_sublist.map _)
    · obtain ⟨x, hx, rfl⟩ := List.mem_map.mp hid
      exact List.mem_map_of_mem (List.mem_filter.mpr ⟨hx, decide_eq_true hne⟩)

theorem State.TicketsJoined.foldl {bs : List Batch} {closed : List Ticket} (h : u.TicketsJoined v closed)
    (hnodup : (v.ret.ending.map fun b => b.record.id).Nodup) (hbs : (bs.map fun b => b.record.id).Nodup)
    (hmem : ∀ b ∈ bs, b.record.id ∈ v.ret.ending.map fun b => b.record.id) :
    ∃ closed' : List Ticket, u.TicketsJoined (bs.foldl State.closeTest v) closed' := by
  induction bs generalizing v closed with
  | nil => exact ⟨closed, h⟩
  | cons b bs ih =>
    rw [List.map_cons, List.nodup_cons] at hbs
    obtain ⟨hnotin, hrest⟩ := hbs
    obtain ⟨⟨closed', h'⟩, hnodup', hkept⟩ := h.closeTest hnodup (hmem b List.mem_cons_self)
    refine ih h' hnodup' hrest fun x hx => hkept _ (hmem x (List.mem_cons_of_mem b hx)) fun hid => hnotin ?_
    rw [← hid]
    exact List.mem_map_of_mem hx

theorem State.ticketsJoined_closeTests (hids : u.ret.BatchIdsDistinct) :
    ∃ closed : List Ticket, u.TicketsJoined u.closeTests closed :=
  State.TicketsJoined.foldl (closed := []) ⟨(List.append_nil _).symm, Nat.zero_add _, fun _ => ⟨rfl, rfl, rfl, rfl, rfl⟩⟩
    (State.ending_ids_nodup hids) (State.ending_ids_nodup hids) fun _ hb => List.mem_map_of_mem hb

end ClosedTickets

end Sys2Proof.Machine
end

section
/-! What the completion of a warm start keeps and loses (O39). -/

namespace Sys2Proof.Machine

set_option Elab.async false

section Warm

variable {s : State} {cause : StartCause}

theorem Batch.recover_record (b : Batch) : b.recover.record = b.record := rfl

theorem State.warmContent_distinct (h : s.ret.BatchIdsDistinct) : s.warmContent.BatchIdsDistinct := by
  have hactive : s.warmContent.active.toList.map (fun b => b.record.id) = s.ret.active.toList.map fun b => b.record.id := by
    show (s.ret.active.map Batch.recover).toList.map _ = _
    cases s.ret.active <;> rfl
  have hending : s.warmContent.ending.map (fun b => b.record.id) = s.ret.ending.map fun b => b.record.id := by
    show (s.ret.ending.map fun b => { b.recover with owing := noRuns }).map _ = _
    rw [List.map_map]
    rfl
  unfold Retained.BatchIdsDistinct
  rw [hactive, hending]
  exact h

/-- The module's state when the tests of a warm start are done, against the state before its close tests. -/
theorem State.warmArchive_warmReady (hready : s.WarmReady (s.warmReady cause) cause) :
    (s.warmReady cause).WarmArchive (s.warmReady cause).closeTests := by
  generalize s.warmReady cause = u at hready
  have hof {α : Type} (p : State → α) := congrArg p hready.frame
  have hpending : u.ret.pendingTickets = (s.ret.pendingTickets.filter
      fun p => (s.archive.findTicket? p.ticket.number).isNone).map fun p => ⟨p.ticket, false⟩ :=
    (hof (·.ret.pendingTickets)).trans (reconcile_eq s.archive s.ret.pendingTickets)
  have hnormal : (u.alarm (.station .archiveFull)).state = .normal := by
    rw [hready.alarm]
    unfold State.startState State.warmMomentary
    cases s.missesGrabs <;> rfl
  refine State.WarmArchive.closeTests ⟨rfl, .inl ⟨hof State.write, rfl, rfl, fun p hp => ?_, fun _ => ?_⟩⟩ _
  · rw [hpending] at hp
    obtain ⟨q, -, rfl⟩ := List.mem_map.mp hp
    rfl
  · unfold State.alarmRaised
    rw [hnormal]

/-- The erase, slots and tickets of an archive since a state without a write, after a test of reclaim. -/
theorem State.WarmArchive.reclaimed {u d : State} (h : u.WarmArchive d) :
    (∀ kl : Sector × Sector, (∀ w : WriteInFlight, d.testReclaim.write = some w → kl ≠ (w.sector, w.slot)) →
        d.testReclaim.archive.slot kl = u.archive.slot kl)
      ∧ (∀ w : WriteInFlight, d.testReclaim.write = some w → d.testReclaim.archive.slot (w.sector, w.slot) = .writing
          ∧ (u.archive.slot (w.sector, w.slot) = .empty ∨ u.archive.sectors[w.sector].state = .erased))
      ∧ (∀ i : Sector, ∀ n : Nat, u.erase = some ⟨i, n, some u.now⟩ → u.archive.sectors[i].state = .erasing →
          d.testReclaim.erase = some ⟨i, n, if d.testReclaim.write.isSome then none else some u.now⟩
            ∧ d.testReclaim.archive.sectors[i].state
                = (if d.testReclaim.write.isSome then .eraseSuspended else .erasing))
      ∧ d.testReclaim.WritesFromTheHead := by
  have hwrite : d.testReclaim.write = d.write := by simp
  have hret : d.testReclaim.ret = d.ret := by simp
  obtain ⟨-, hidle | ⟨w, hbegun⟩⟩ := h
  · refine ⟨fun kl _ => ?_, fun w hw => ?_, fun i n he hstate => ?_, ?_, ?_⟩
    · rw [State.testReclaim_slot]
      unfold Archive.slot
      rw [hidle.sectors]
    · rw [hwrite, hidle.write] at hw
      cases hw
    · have herase := hidle.erase.trans he
      rw [State.testReclaim_eq_self (.inl (by rw [herase]; simp)), hidle.write, herase, hidle.sectors, hstate]
      exact ⟨rfl, rfl⟩
    · rw [hret, hwrite, hidle.write]
      cases hps : d.ret.pendingTickets with
      | nil => rfl
      | cons p ps => exact hidle.queued p (by simp [hps])
    · rw [hret]
      exact fun p hp => hidle.queued p (List.mem_of_mem_tail hp)
  · have hself : d.testReclaim = d := State.testReclaim_eq_self (.inr (.inl (by rw [hbegun.write]; simp)))
    rw [hself]
    refine ⟨fun kl hkl => hbegun.slots kl (hkl w hbegun.write), fun w' hw' => ?_, fun i n he hstate => ?_, ?_⟩
    · obtain rfl := Option.some.inj (hbegun.write.symm.trans hw')
      exact ⟨hbegun.slot, hbegun.free.imp (fun hfree => hfree.2) id⟩
    · obtain ⟨herase, hsuspended⟩ := hbegun.erase _ he hstate rfl
      rw [herase, hsuspended, hbegun.write]
      exact ⟨rfl, rfl⟩
    · obtain ⟨k, ps, hps, hqueued⟩ := hbegun.tickets
      unfold State.WritesFromTheHead
      rw [hps, hbegun.write]
      exact ⟨rfl, hqueued⟩

/-- SAMPLER_MISSED follows the grabs that the recovery counts as missed (R169). -/
theorem State.missesGrabs_eq (s : State) :
    s.missesGrabs = s.liveBatches.any (fun b => decide (b.sampling.taken + b.sampling.missed < b.sampling.due)) := by
  unfold State.missesGrabs Sampling.queued
  congr 1
  funext b
  refine decide_eq_decide.mpr ?_
  omega

/-- The sampler of a start (R169). -/
theorem State.startSampler_spec (s : State) :
    s.startSampler.state = (if s.ret.enable = .off then .off else if s.ret.selectedCan = .can1 then .ready else .swapping)
      ∧ s.startSampler.swapTimer = (if s.startSampler.state = .swapping then some (s.now + 50000000) else none)
      ∧ s.startSampler.queue = [] ∧ s.startSampler.grab = false
      ∧ s.startSampler.canSelect = decide (s.ret.selectedCan = .can2) ∧ s.startSampler.haltedCan = none
      ∧ s.startSampler.widthTimer = none ∧ s.startSampler.intervalTimer = none
      ∧ s.startSampler.full1 = ⟨s.smc.full1.raw, s.smc.full1.raw, none⟩
      ∧ s.startSampler.full2 = ⟨s.smc.full2.raw, s.smc.full2.raw, none⟩ := by
  unfold State.startSampler
  cases s.ret.enable <;> cases s.ret.selectedCan <;> exact ⟨rfl, rfl, rfl, rfl, rfl, rfl, rfl, rfl, rfl, rfl⟩

/-- The archive, the erase and the pending tickets of a warm start before its close tests. -/
structure State.Examined (s u : State) : Prop where
  now : u.now = s.now
  write : u.write = none
  tickets : u.ret.pendingTickets = (s.ret.pendingTickets.filter
    fun p => (s.archive.findTicket? p.ticket.number).isNone).map fun p => ⟨p.ticket, false⟩
  archive : u.archive = s.archive.recover
  erase : u.erase = s.archive.recover.restartedErase? s.now

theorem State.warmReady_examined (s : State) (cause : StartCause) : s.Examined (s.warmReady cause) := by
  have hready := s.warmReady_ready cause
  generalize s.warmReady cause = u at hready
  have hof {α : Type} (p : State → α) := congrArg p hready.frame
  exact ⟨hof State.now, hof State.write, (hof (·.ret.pendingTickets)).trans (reconcile_eq s.archive s.ret.pendingTickets),
    hof State.archive, hof State.erase⟩

section Examined

variable {u v : State}

theorem State.Examined.slot (h : s.Examined u) (ij : Sector × Sector) :
    u.archive.slot ij = if s.archive.slot ij = .writing then .defective else s.archive.slot ij := by
  rw [h.archive, Archive.recover_slot]

theorem State.Examined.state (h : s.Examined u) (i : Sector) : u.archive.sectors[i].state
    = if s.archive.sectors[i].state = .eraseSuspended then .erasing else s.archive.sectors[i].state := by
  rw [h.archive, Archive.recover_state]

theorem State.Examined.erasing_iff (h : s.Examined u) (i : Sector) : u.archive.sectors[i].state = .erasing
    ↔ s.archive.sectors[i].state = .erasing ∨ s.archive.sectors[i].state = .eraseSuspended := by
  rw [h.state]
  cases s.archive.sectors[i].state <;> simp

theorem State.Examined.erased_iff (h : s.Examined u) (i : Sector) : u.archive.sectors[i].state = .erased
    ↔ s.archive.sectors[i].state = .erased := by
  rw [h.state]
  cases s.archive.sectors[i].state <;> simp

theorem State.Examined.empty_iff (h : s.Examined u) (ij : Sector × Sector) : u.archive.slot ij = .empty
    ↔ s.archive.slot ij = .empty := by
  rw [h.slot]
  cases s.archive.slot ij <;> simp

theorem State.Examined.erase_first (h : s.Examined u) {i : Sector} (hi : u.archive.sectors[i].state = .erasing)
    (hfirst : ∀ j : Sector, j < i → u.archive.sectors[j].state ≠ .erasing) : u.erase = some ⟨i, 15000000, some s.now⟩ := by
  rw [h.erase]
  rw [h.archive] at hi hfirst
  exact Archive.restartedErase?_first _ hi hfirst

theorem State.Examined.erase_none (h : s.Examined u) (hnone : ∀ i : Sector, u.archive.sectors[i].state ≠ .erasing) :
    u.erase = none := by
  rw [h.erase]
  rw [h.archive] at hnone
  exact Archive.restartedErase?_none _ hnone

end Examined

/-- The completion of a warm start in its three last steps. -/
theorem State.completeWarm_steps (s : State) (cause : StartCause) :
    s.completeWarm cause = (s.warmReady cause).closeTests.tryStartWrite.testReclaim := s.completeWarm_eq cause

/-- Slots, write and erase at the completion of a warm start (R185). -/
theorem State.completeWarm_archive (s : State) (cause : StartCause) (x : State) (hx : x = s.completeWarm cause) :
    (∀ ij : Sector × Sector, (∀ w : WriteInFlight, x.write = some w → ij ≠ (w.sector, w.slot)) →
        x.archive.slot ij = (if s.archive.slot ij = .writing then SlotState.defective else s.archive.slot ij))
      ∧ (∀ w : WriteInFlight, x.write = some w → x.archive.slot (w.sector, w.slot) = .writing
        ∧ (s.archive.ErasedAreEmpty → s.archive.slot (w.sector, w.slot) = .empty))
      ∧ (∀ i : Sector, (s.archive.sectors[i].state = .erasing ∨ s.archive.sectors[i].state = .eraseSuspended) →
        (∀ j : Sector, j < i →
          s.archive.sectors[j].state ≠ .erasing ∧ s.archive.sectors[j].state ≠ .eraseSuspended) →
        x.erase = some ⟨i, 15000000, if x.write.isSome then none else some s.now⟩
          ∧ x.archive.sectors[i].state = (if x.write.isSome then .eraseSuspended else .erasing))
      ∧ x.WritesFromTheHead
      ∧ x.alarmRaised (.station .archiveFull) = (!x.ret.pendingTickets.isEmpty && x.write.isNone) := by
  have hexamined := s.warmReady_examined cause
  obtain ⟨hwarm, halarm⟩ := (State.warmArchive_warmReady (s.warmReady_ready cause)).tryStartWrite
  rw [State.completeWarm_steps] at hx
  generalize s.warmReady cause = u at hexamined hwarm halarm hx
  generalize u.closeTests.tryStartWrite = d at hwarm halarm hx
  obtain ⟨hslots, hwrite, herase, hhead⟩ := hwarm.reclaimed
  have hraised : d.testReclaim.alarmRaised (.station .archiveFull) = d.alarmRaised (.station .archiveFull) := by
    have halarms : d.testReclaim.alarms = d.alarms := by rw [d.testReclaim_reclaimed.frame]
    unfold State.alarmRaised
    rw [State.alarm_eq_of_alarms_eq halarms]
  have hsame := d.testReclaim_ret
  generalize d.testReclaim = x' at *
  subst hx
  obtain ⟨hret, hwriting⟩ := hsame
  refine ⟨fun ij hij => (hslots ij hij).trans (hexamined.slot ij), fun w hw => ?_, fun i hi hfirst => ?_, hhead, ?_⟩
  · obtain ⟨hslot, hfree⟩ := hwrite w hw
    refine ⟨hslot, fun hempty => ?_⟩
    rcases hfree with hfree | hfree
    · exact (hexamined.empty_iff _).mp hfree
    · exact hempty w.sector w.slot ((hexamined.erased_iff _).mp hfree)
  · have hstate := (hexamined.erasing_iff i).mpr hi
    have hstart := hexamined.erase_first hstate fun j hj hj' => by
      obtain ⟨hne, hne'⟩ := hfirst j hj
      rcases (hexamined.erasing_iff j).mp hj' with h | h
      · exact hne h
      · exact hne' h
    rw [← hexamined.now] at hstart ⊢
    exact herase i 15000000 hstart hstate
  · rw [hraised, halarm, hret, hwriting]

/-- The tickets at the completion of a warm start (R186). -/
theorem State.completeWarm_tickets (s : State) (cause : StartCause) (hids : s.ret.BatchIdsDistinct) (x : State)
    (hx : x = s.completeWarm cause) : ∃ closed : List Ticket,
    (closed = [] → ∃ u : State, x = u.tryStartWrite.testReclaim ∧ s.Examined u)
    ∧ x.ret.pendingTickets.map PendingTicket.ticket
        = (s.ret.pendingTickets.filter
            (fun p => (s.archive.findTicket? p.ticket.number).isNone)).map PendingTicket.ticket ++ closed
    ∧ closed.length + x.ret.ending.length = s.ret.ending.length
    ∧ (closed = [] → x.ret.ticketCounter = s.ret.ticketCounter ∧ x.archive.numberMark = s.archive.numberMark) := by
  have hready := s.warmReady_ready cause
  have hexamined := s.warmReady_examined cause
  rw [State.completeWarm_steps] at hx
  have hofret : (s.warmReady cause).ret = s.warmContent := by rw [hready.frame]
  have hdistinct : (s.warmReady cause).ret.BatchIdsDistinct := by
    rw [hofret]
    exact State.warmContent_distinct hids
  have hcounter : (s.warmReady cause).ret.ticketCounter = s.ret.ticketCounter := by
    rw [hofret]
    rfl
  have hending : (s.warmReady cause).ret.ending.length = s.ret.ending.length := by
    rw [hofret]
    exact List.length_map _
  obtain ⟨closed, hjoined⟩ := State.ticketsJoined_closeTests hdistinct
  have hcloses := State.closeRun_closeTests hdistinct
  generalize s.warmReady cause = u at *
  obtain ⟨ps, hret⟩ := State.tryStartWrite_ret u.closeTests
  have hmark := u.closeTests.tryStartWrite_numberMark
  have htickets := u.closeTests.tryStartWrite_tickets
  have hlast : x.ret = u.closeTests.tryStartWrite.ret ∧ x.archive.numberMark = u.closeTests.tryStartWrite.archive.numberMark := by
    rw [hx]
    refine ⟨(State.testReclaim_ret _).1, ?_⟩
    rw [(State.testReclaim_reclaimed _).archive]
  refine ⟨closed, fun hnil => ⟨u.closeTests, hx, ?_⟩, ?_, ?_, fun hnil => ?_⟩
  · obtain ⟨-, harchive, hwrite, herase, hpending⟩ := hjoined.none hnil
    exact ⟨hcloses.moved.now.trans hexamined.now, hwrite.trans hexamined.write, hpending.trans hexamined.tickets,
      harchive.trans hexamined.archive, herase.trans hexamined.erase⟩
  · rw [hlast.1, htickets, hjoined.tickets, hexamined.tickets, List.map_map]
    rfl
  · rw [hlast.1, hret]
    exact hjoined.ending.trans hending
  · obtain ⟨hkept, harchive, -⟩ := hjoined.none hnil
    rw [hlast.1, hlast.2, hmark, harchive, hexamined.archive, hret]
    exact ⟨hkept.trans hcounter, rfl⟩

/-- The retained content at the completion of a warm start: that of the start but for the batches and tickets, the ACTIVE
batch recovered and no ENDING batch owed by a run (R125, R169). -/
theorem State.completeWarm_content (s : State) (cause : StartCause) (hids : s.ret.BatchIdsDistinct) (x : State)
    (hx : x = s.completeWarm cause) :
    x.ret = { s.warmContent with ending := x.ret.ending, pendingTickets := x.ret.pendingTickets
                                 ticketCounter := x.ret.ticketCounter }
      ∧ ∀ b ∈ x.ret.ending, b.owing = noRuns := by
  have hready := s.warmReady_ready cause
  rw [State.completeWarm_steps] at hx
  have hofret : (s.warmReady cause).ret = s.warmContent := by rw [hready.frame]
  have hdistinct : (s.warmReady cause).ret.BatchIdsDistinct := by
    rw [hofret]
    exact State.warmContent_distinct hids
  have hcloses := State.closeRun_closeTests hdistinct
  generalize s.warmReady cause = u at *
  obtain ⟨ps, hret⟩ := State.tryStartWrite_ret u.closeTests
  have hxret : x.ret = { u.closeTests.ret with pendingTickets := ps } := by
    rw [hx, (State.testReclaim_ret _).1, hret]
  refine ⟨?_, fun b hb => ?_⟩
  · rw [hxret, hcloses.moved.ret, hcloses.active, hofret]
  · rw [hxret] at hb
    obtain ⟨y, hy, hsame⟩ := hcloses.back b hb
    rw [hofret] at hy
    obtain ⟨z, -, rfl⟩ := List.mem_map.mp (show y ∈ s.ret.ending.map _ from hy)
    rw [hsame]

end Warm

/-- Settles O39: all volatile state is that of `State.warmReady`, whose close tests, first write and test of reclaim move
the batches, the tickets, the archive and ARCHIVE_FULL alone. -/
theorem warmStartKeepsRetainedMemory : Obligations.WarmStartKeepsRetainedMemory := by
  intro s cause hphase hids
  obtain ⟨x, hx⟩ : ∃ x, x = s.completeWarm cause := ⟨_, rfl⟩
  have hexec : exec .startCompletion s = .next x.settle := by
    show Host.Outcome.next (startCompletion s) = _
    unfold startCompletion
    rw [hphase, hx]
  have hready := s.warmReady_ready cause
  have hmoved := s.archiveMoved_completeWarm cause
  rw [← hx] at hmoved
  obtain ⟨hcontent, howing⟩ := s.completeWarm_content cause hids.ret x hx
  obtain ⟨hslots, hwrite, herase, hhead, hfull⟩ := s.completeWarm_archive cause x hx
  obtain ⟨closed, hnone, htickets, hending, hcounter⟩ := s.completeWarm_tickets cause hids.ret x hx
  have hsettle := x.settle_eq_with
  have hsettled : x.settle.Settled := State.settled_settle
  generalize s.warmReady cause = u at hready hmoved
  generalize hbankA : x.settle.bankA = bankA at hsettle
  generalize hbankB : x.settle.bankB = bankB at hsettle
  generalize hcurrent : x.settle.current = current at hsettle
  have hof {α : Type} (p : State → α) := congrArg p hready.frame
  have hkept {α : Type} (p : State → α) := congrArg p hmoved.frame
  have hin {α : Type} (p : Retained → α) := congrArg p hcontent
  have halarm (a : AlarmId) (ha : a ≠ .station .archiveFull) :
      (x.alarm a).state = (s.warmFresh cause).startState s.warmMomentary a := by
    rw [hmoved.other a ha, hready.alarm]
  have hpulses (r : Run) : x.pulses[r] = s.warmRetained.startRun r := by
    rw [show x.pulses = u.pulses from hkept State.pulses, show u.pulses = s.warmRetained.freshen.pulses from hof State.pulses]
    exact s.warmRetained.freshen_pulses r
  have hsmc : x.smc = s.warmRetained.startSampler := hmoved.smc.trans (hof State.smc)
  obtain ⟨hstate, hswap, hqueue, hgrab, hcan, hhalted, hwidth, hinterval, hfull1, hfull2⟩ :=
    s.warmRetained.startSampler_spec
  rw [← hsmc] at hstate hswap hqueue hgrab hcan hhalted hwidth hinterval hfull1 hfull2
  have hseal : x.seal = (s.warmFresh cause).seal :=
    (hkept State.seal).trans (show u.seal = (s.warmFresh cause).seal from hof State.seal)
  have haudit : x.audit = (s.warmFresh cause).sealRecorded.audit := (hkept State.audit).trans hready.audit
  refine ⟨x.settle, hexec, ?_⟩
  rw [hsettle] at hsettled ⊢
  refine ⟨(hkept State.phase).trans (hof State.phase), hsettled, hin Retained.service, hin Retained.rem,
    hin Retained.periodSeq, hin Retained.runTotals, hin Retained.pulseCounts, hin Retained.station,
    hin Retained.unbatched, hin Retained.queue, hin Retained.endPending, hin Retained.lastSlot, hin Retained.slowdown,
    hin Retained.stop, hin Retained.enable, hin Retained.selectedCan, hin Retained.canCount1, hin Retained.canCount2,
    hin Retained.clockSet, hin Retained.lastSeen, hin Retained.active, howing,
    (hkept State.clock).trans (hof State.clock), (hkept State.params).trans (hof State.params),
    (hkept State.locks).trans (hof State.locks), hin Retained.marker, fun m hm => ⟨?_, ?_⟩, fun hm => ?_,
    fun r hr => ?_, fun r hr => ?_,
    (hkept State.snapshot).trans (hof State.snapshot), (hkept State.staging).trans (hof State.staging),
    (hkept State.values).trans (hof State.values), (hkept (·.psq.state)).trans (hof (·.psq.state)),
    (hkept (·.psq.route)).trans (hof (·.psq.route)), (hkept (·.psq.dirReverse)).trans (hof (·.psq.dirReverse)), ?_, ?_, ?_,
    hslots, hwrite, herase, hstate, hswap, hqueue, hgrab, hcan, hhalted, hwidth, hinterval, hfull1, hfull2, ?_, ?_,
    ⟨closed, fun hnil => ?_, htickets, hending, hcounter⟩, hhead, hfull, ?_⟩
  · show x.flags.proveFinished = true
    rw [hmoved.flags]
    exact hready.finished (by rw [hm]; simp)
  · refine (hin Retained.lastProve).trans ?_
    unfold State.warmContent
    rw [hm] <;> rfl
  · refine (hin Retained.lastProve).trans ?_
    unfold State.warmContent
    rw [hm]
  · have hpulse := (hpulses r).trans (State.startRun_in _ hr)
    show x.pulses[r].flow = _ ∧ x.pulses[r].timerFrom = _ ∧ x.pulses[r].counts = _ ∧ x.pulses[r].history = _
      ∧ x.pulses[r].goodIndex = _ ∧ x.pulses[r].reference = _
    rw [hpulse]
    exact ⟨rfl, rfl, rfl, rfl, rfl, rfl⟩
  · have hpulse := (hpulses r).trans (State.startRun_out _ hr)
    show x.pulses[r].flow = _ ∧ x.pulses[r].timerFrom = _
    rw [hpulse]
    exact ⟨rfl, rfl⟩
  · show x.flags.restarted = true
    rw [hmoved.flags]
    exact hready.restarted
  · refine (halarm _ (by simp)).trans ?_
    unfold State.startState State.warmMomentary
    cases s.missesGrabs <;> rfl
  · refine (halarm _ (by simp)).trans ?_
    unfold State.startState State.warmMomentary
    cases s.missesGrabs <;> rfl
  · rw [← State.missesGrabs_eq]
    refine (halarm _ (by simp)).trans ?_
    unfold State.startState State.warmMomentary
    cases s.missesGrabs <;> rfl
  · refine (halarm _ (by simp)).trans ?_
    unfold State.startState State.warmMomentary
    cases s.missesGrabs <;> rfl
  · obtain ⟨v, hv, hexamined⟩ := hnone hnil
    refine ⟨v, ?_, hexamined.now, hexamined.write, hexamined.tickets, ?_, fun i => ⟨?_, hexamined.state i⟩,
      hexamined.slot, fun i hi hfirst => hexamined.erase_first hi hfirst, hexamined.erase_none⟩
    · rw [← hv, ← hbankA, ← hbankB, ← hcurrent]
      exact x.settle_eq_with.symm
    · rw [hexamined.archive]
      rfl
    · rw [hexamined.archive, Archive.recover_openNumber]
  · rw [State.sealRecorded_audit, ← hseal] at haudit
    exact haudit

end Sys2Proof.Machine
end

section
/-! The sampler's part of a crediting (R158 to R164): which sampling items of which batches it moves, and how. -/

namespace Sys2Proof.Machine

set_option Elab.async false

/-! ### Sampling items moved -/

/-- A batch with its sampling items changed by the function of its id. -/
def Batch.sampledBy (g : Nat → Sampling → Sampling) (b : Batch) : Batch := b.modSampling (g b.record.id)

/-- A change of the sampling items of one id. -/
def Sampling.changedAt (id : Nat) (f : Sampling → Sampling) (j : Nat) (x : Sampling) : Sampling := if j = id then f x else x

/-- The sampling items of the batches have moved as the function says, and beside them at most the selected can and the can
counts, the Sampler Controller's own state and its two alarms. -/
structure State.Sampled (g : Nat → Sampling → Sampling) (s t : State) : Prop where
  active : t.ret.active = s.ret.active.map (Batch.sampledBy g)
  ending : t.ret.ending = s.ret.ending.map (Batch.sampledBy g)
  ret : t.ret = { s.ret with
    active := t.ret.active, ending := t.ret.ending, selectedCan := t.ret.selectedCan
    canCount1 := t.ret.canCount1, canCount2 := t.ret.canCount2 }
  other : ∀ a : AlarmId, a ≠ .station .samplerMissed → a ≠ .station .samplerHalted → t.alarm a = s.alarm a
  missed : t.alarm (.station .samplerMissed) = s.alarm (.station .samplerMissed)
    ∨ (s.alarmRaised (.station .samplerMissed) = false → (t.alarm (.station .samplerMissed)).state = .returnedUnack)
  flags : t.flags = { s.flags with alarmChanged := t.flags.alarmChanged }
  frame : t = { s with ret := t.ret, smc := t.smc, alarms := t.alarms, flags := t.flags }

section Sampled

variable {s t u : State} {g h : Nat → Sampling → Sampling}

theorem Batch.sampledBy_self : Batch.sampledBy (fun _ x => x) = id := rfl

theorem State.Sampled.refl (s : State) : s.Sampled (fun _ x => x) s :=
  ⟨by simp [Batch.sampledBy_self], by simp [Batch.sampledBy_self], rfl, fun _ _ _ => rfl, .inl rfl, rfl, rfl⟩

theorem State.Sampled.trans (hst : s.Sampled g t) (htu : t.Sampled h u) : s.Sampled (fun j x => h j (g j x)) u where
  active := by
    rw [htu.active, hst.active, Option.map_map]
    rfl
  ending := by
    rw [htu.ending, hst.ending, List.map_map]
    rfl
  ret := by rw [htu.ret, hst.ret]
  other a ha ha' := (htu.other a ha ha').trans (hst.other a ha ha')
  missed := by
    rcases htu.missed with hsame | hreturned
    · rw [hsame]
      exact hst.missed
    · refine .inr fun hclear => hreturned ?_
      rcases hst.missed with hsame | hfirst
      · exact (State.alarmRaised_congr hsame).trans hclear
      · unfold State.alarmRaised
        rw [hfirst hclear]
  flags := by rw [htu.flags, hst.flags]
  frame := by rw [htu.frame, hst.frame]

theorem State.Sampled.congr (hst : s.Sampled g t) (hgh : ∀ j x, h j x = g j x) : s.Sampled h t := by
  rw [show h = g from funext fun j => funext fun x => hgh j x]
  exact hst

theorem State.sampled_modSmc (s : State) (f : Sampler → Sampler) : s.Sampled (fun _ x => x) (s.modSmc f) where
  active := by
    rw [Batch.sampledBy_self, Option.map_id]
    rfl
  ending := by
    rw [Batch.sampledBy_self, List.map_id]
    rfl
  ret := rfl
  other _ _ _ := rfl
  missed := .inl rfl
  flags := rfl
  frame := rfl

theorem Batch.changedAt_modSampling (id : Nat) (f : Sampling → Sampling) :
    Batch.changedAt id (Batch.modSampling f) = Batch.sampledBy (Sampling.changedAt id f) := by
  funext b
  unfold Batch.changedAt Batch.sampledBy Sampling.changedAt
  by_cases hb : b.record.id = id
  · simp only [if_pos hb]
  · simp only [if_neg hb]
    rfl

theorem State.sampled_modBatch (s : State) (id : Nat) (f : Sampling → Sampling) :
    s.Sampled (Sampling.changedAt id f) (s.modBatch id (Batch.modSampling f)) where
  active := by
    rw [← Batch.changedAt_modSampling]
    rfl
  ending := by
    rw [← Batch.changedAt_modSampling]
    rfl
  ret := rfl
  other _ _ _ := rfl
  missed := .inl rfl
  flags := rfl
  frame := rfl

theorem State.sampled_pulseMissed (s : State) :
    s.Sampled (fun _ x => x) (s.pulseAlarm (.station .samplerMissed)) := by
  have hmoved := s.alarmsMoved_pulseAlarm (.station .samplerMissed)
  have hreturned := s.pulseAlarm_returned (.station .samplerMissed)
  generalize s.pulseAlarm (.station .samplerMissed) = t at *
  have hret : t.ret = s.ret := by rw [hmoved.frame]
  exact ⟨by simp [hret, Batch.sampledBy_self], by simp [hret, Batch.sampledBy_self], by rw [hret],
    fun a ha _ => hmoved.other a (by simpa using ha), .inr hreturned, hmoved.flags, by rw [hmoved.frame]⟩

theorem State.sampled_raiseHalted (s : State) :
    s.Sampled (fun _ x => x) (s.raiseAlarm (.station .samplerHalted)) := by
  have hmoved : s.AlarmsMoved _ (s.raiseAlarm (.station .samplerHalted)) := s.alarmsMoved_moveAlarm _ _
  generalize s.raiseAlarm (.station .samplerHalted) = t at *
  have hret : t.ret = s.ret := by rw [hmoved.frame]
  exact ⟨by simp [hret, Batch.sampledBy_self], by simp [hret, Batch.sampledBy_self], by rw [hret],
    fun a _ ha => hmoved.other a (by simpa using ha), .inl (hmoved.other _ (by simp)), hmoved.flags,
    by rw [hmoved.frame]⟩

/-! ### Serving the head -/

theorem State.sampled_missGrabs (s : State) (q : List OwedGrab) :
    s.Sampled (fun j x => { x with missed := x.missed + q.countP (fun e => decide (e.batchId = j)) })
      (q.foldl (fun s e => s.missGrab e.batchId) s) := by
  induction q generalizing s with
  | nil => exact .refl s
  | cons e q ih =>
    refine ((s.sampled_modBatch e.batchId Sampling.addMissed).trans (ih _)).congr fun j x => ?_
    unfold Sampling.changedAt Sampling.addMissed
    by_cases hj : j = e.batchId
    · subst hj
      simp only [↓reduceIte, List.countP_cons, decide_true]
      congr 1
      omega
    · simp [hj, Ne.symm hj]

theorem State.sampled_discardQueue (s : State) :
    s.Sampled (fun j x => { x with missed := x.missed + s.queuedGrabs j }) s.discardQueue := by
  unfold State.discardQueue State.queuedGrabs
  cases s.smc.queue with
  | nil => exact .refl s
  | cons e q =>
    exact ((s.sampled_modSmc _).trans (State.sampled_missGrabs _ (e :: q))).trans (State.sampled_pulseMissed _)

/-- What serving the head of the queue does to the sampling items (R161 to R164). -/
def State.servedSampling (s : State) (e : OwedGrab) (j : Nat) (x : Sampling) : Sampling :=
  if e.can ≠ s.ret.selectedCan then x
  else if s.canIsFull e.can then { x with missed := x.missed + s.queuedGrabs j }
  else { x with taken := x.taken + if e.batchId = j then 1 else 0 }

theorem State.sampled_startGrab (s : State) (e : OwedGrab) (rest : List OwedGrab) :
    s.Sampled (fun j x => { x with taken := x.taken + if e.batchId = j then 1 else 0 }) (s.startGrab e rest) := by
  have hcount : s.Sampled (fun _ x => x) (s.setCanCount e.can (s.canCount e.can + 1)) := by
    unfold State.setCanCount
    cases e.can <;> exact ⟨by simp [State.modRet, Batch.sampledBy_self], by simp [State.modRet, Batch.sampledBy_self], rfl,
      fun _ _ _ => rfl, .inl rfl, rfl, rfl⟩
  unfold State.startGrab
  refine ((hcount.trans (State.sampled_modBatch _ e.batchId fun x => { x with taken := x.taken + 1 })).trans
    (State.sampled_modSmc _ _)).congr fun j x => ?_
  unfold Sampling.changedAt
  by_cases hj : j = e.batchId
  · simp [hj]
  · simp [hj, Ne.symm hj]

theorem State.sampled_examineHead {e : OwedGrab} {rest : List OwedGrab} (hstate : s.smc.state = .ready)
    (hq : s.smc.queue = e :: rest) : s.Sampled (s.servedSampling e) s.examineHead := by
  rw [State.examineHead_eq hstate, hq]
  dsimp only
  by_cases hcan : e.can ≠ s.ret.selectedCan
  · rw [if_pos hcan]
    have hswap : s.Sampled (fun _ x => x) (s.startSwap e.can) :=
      ⟨by simp [State.startSwap, State.modRet, State.modSmc, Batch.sampledBy_self],
        by simp [State.startSwap, State.modRet, State.modSmc, Batch.sampledBy_self], rfl, fun _ _ _ => rfl, .inl rfl, rfl, rfl⟩
    exact hswap.congr fun j x => if_pos hcan
  · rw [if_neg hcan]
    cases hfull : s.canIsFull e.can with
    | true =>
      refine (((s.sampled_modSmc _).trans (State.sampled_discardQueue _)).trans
        (State.sampled_raiseHalted _)).congr fun j x => ?_
      rw [State.servedSampling, if_neg hcan, hfull]
      rfl
    | false =>
      refine (s.sampled_startGrab e rest).congr fun j x => ?_
      rw [State.servedSampling, if_neg hcan, hfull]
      rfl

theorem State.examineHead_rest (h : s.smc.state ≠ .ready ∨ s.smc.queue = []) : s.examineHead = s := by
  unfold State.examineHead
  split <;> simp_all

/-! ### Due grabs -/

/-- How many of the grabs that fall due find a place (R159, R160). -/
def State.placed (s : State) (n : Nat) : Nat := if s.smc.state = .halted then 0 else min n (8 - s.smc.queue.length)

/-- Grabs of one batch have fallen due: so many of them queued, the others missed (R159, R160). -/
structure State.GrabsDue (s t : State) (id : Nat) (can : Can) (n k : Nat) : Prop where
  sampled : s.Sampled (Sampling.changedAt id fun x => { x with due := x.due + n, missed := x.missed + (n - k) }) t
  smc : t.smc = { s.smc with queue := s.smc.queue ++ List.replicate k ⟨id, can⟩ }
  cans : t.ret.selectedCan = s.ret.selectedCan ∧ t.ret.canCount1 = s.ret.canCount1 ∧ t.ret.canCount2 = s.ret.canCount2
  missed : k < n → s.alarmRaised (.station .samplerMissed) = false →
    (t.alarm (.station .samplerMissed)).state = .returnedUnack

theorem State.GrabsDue.refl (s : State) (id : Nat) (can : Can) : s.GrabsDue s id can 0 0 where
  sampled := (State.Sampled.refl s).congr fun j x => by
    unfold Sampling.changedAt
    split <;> rfl
  smc := by simp
  cans := ⟨rfl, rfl, rfl⟩
  missed h := absurd h (Nat.lt_irrefl 0)

theorem State.GrabsDue.trans {id n k m l : Nat} {can : Can} (hk : k ≤ n) (hl : l ≤ m) (hst : s.GrabsDue t id can n k)
    (htu : t.GrabsDue u id can m l) : s.GrabsDue u id can (n + m) (k + l) where
  sampled := (hst.sampled.trans htu.sampled).congr fun j x => by
    unfold Sampling.changedAt
    split
    · simp only [Sampling.mk.injEq, true_and]
      omega
    · rfl
  smc := by
    rw [htu.smc, hst.smc]
    rw [List.append_assoc, List.replicate_append_replicate]
  cans := by
    obtain ⟨h, h1, h2⟩ := hst.cans
    obtain ⟨k, k1, k2⟩ := htu.cans
    exact ⟨k.trans h, k1.trans h1, k2.trans h2⟩
  missed hlt hclear := by
    by_cases hlast : l < m
    · refine htu.missed hlast ?_
      rcases hst.sampled.missed with hsame | hfirst
      · exact (State.alarmRaised_congr hsame).trans hclear
      · unfold State.alarmRaised
        rw [hfirst hclear]
    · have hfirst := hst.missed (by omega) hclear
      rcases htu.sampled.missed with hsame | hnext
      · rw [hsame, hfirst]
      · refine hnext ?_
        unfold State.alarmRaised
        rw [hfirst]

theorem State.dueGrab_due (s : State) (id : Nat) (can : Can) : s.GrabsDue (s.dueGrab id can) id can 1 (s.placed 1) := by
  have hdue := s.sampled_modBatch id fun x => { x with due := x.due + 1 }
  unfold State.dueGrab
  by_cases hfull : s.smc.state = .halted ∨ Config.owedLimit ≤ s.smc.queue.length
  · have hplaced : s.placed 1 = 0 := by
      unfold State.placed
      split
      · rfl
      · next hrun =>
        have hlen : 8 ≤ s.smc.queue.length := hfull.resolve_left hrun
        omega
    have htest : (decide (s.smc.state = .halted) || decide (Config.owedLimit ≤ s.smc.queue.length)) = true := by
      simpa using hfull
    simp only [htest, ↓reduceIte]
    rw [hplaced]
    obtain ⟨v, hv⟩ : ∃ v, v = (s.modBatch id (Batch.modSampling fun x => { x with due := x.due + 1 })).missGrab id :=
      ⟨_, rfl⟩
    have hmiss := hdue.trans (State.sampled_modBatch _ id Sampling.addMissed)
    rw [show State.modBatch _ id (Batch.modSampling Sampling.addMissed) = v from hv.symm] at hmiss
    have hkept : v.smc = s.smc ∧ v.ret.selectedCan = s.ret.selectedCan ∧ v.ret.canCount1 = s.ret.canCount1
        ∧ v.ret.canCount2 = s.ret.canCount2 ∧ v.alarms = s.alarms := by
      rw [hv]
      exact ⟨rfl, rfl, rfl, rfl, rfl⟩
    rw [← hv]
    have hmoved := v.alarmsMoved_pulseAlarm (.station .samplerMissed)
    have hreturned := v.pulseAlarm_returned (.station .samplerMissed)
    have hpulsed := hmiss.trans v.sampled_pulseMissed
    obtain ⟨hsmc, hcan, h1, h2, halarms⟩ := hkept
    generalize v.pulseAlarm (.station .samplerMissed) = w at *
    refine ⟨hpulsed.congr fun j x => ?_, ?_, ?_, fun _ hclear => hreturned ?_⟩
    · unfold Sampling.changedAt Sampling.addMissed
      split <;> rfl
    · rw [hmoved.frame]
      simp [hsmc]
    · rw [hmoved.frame]
      exact ⟨hcan, h1, h2⟩
    · exact (State.alarmRaised_congr (State.alarm_eq_of_alarms_eq halarms _)).trans hclear
  · obtain ⟨hrun, hlen⟩ := not_or.mp hfull
    have hplaced : s.placed 1 = 1 := by
      unfold State.placed
      rw [if_neg hrun]
      have hfree : ¬ 8 ≤ s.smc.queue.length := hlen
      omega
    have htest : (decide (s.smc.state = .halted) || decide (Config.owedLimit ≤ s.smc.queue.length)) = false := by
      simpa [hrun] using hlen
    simp only [htest, Bool.false_eq_true, ↓reduceIte]
    rw [hplaced]
    exact ⟨(hdue.trans (State.sampled_modSmc _ _)).congr fun j x => rfl, rfl,
      ⟨rfl, rfl, rfl⟩, fun h => absurd h (Nat.lt_irrefl 1)⟩

theorem State.placed_le (s : State) (n : Nat) : s.placed n ≤ n := by
  unfold State.placed
  split
  · exact Nat.zero_le n
  · exact Nat.min_le_left _ _

theorem State.dueGrabs_due (s : State) (id : Nat) (can : Can) (n : Nat) :
    s.GrabsDue (s.dueGrabs id can n) id can n (s.placed n) := by
  induction n generalizing s with
  | zero =>
    have hplaced : s.placed 0 = 0 := by simp [State.placed]
    rw [hplaced]
    exact .refl s id can
  | succ n ih =>
    have hfirst := s.dueGrab_due id can
    have hrest := ih (s.dueGrab id can)
    have hsum : s.placed (n + 1) = s.placed 1 + (s.dueGrab id can).placed n := by
      unfold State.placed
      rw [hfirst.smc]
      simp only [List.length_append, List.length_replicate, State.placed]
      split <;> omega
    rw [show (s.dueGrabs id can (n + 1)) = (s.dueGrab id can).dueGrabs id can n from rfl, hsum, Nat.add_comm n 1]
    exact hfirst.trans (s.placed_le 1) (State.placed_le _ n) hrest

/-! ### The credited volume of a batch -/

/-- The grab volume in mL. -/
def State.grabVolume (s : State) : Nat := s.params.station.grabVolume * 1000

/-- The grabs that a batch's credited volume makes due (R158). -/
def State.grabsDue (s : State) (b : Batch) (gsv : Nat) : Nat := (b.sampling.accumulator + gsv) / s.grabVolume

/-- The sampling items after the credited volume of a batch, before the head of the queue is served (R158 to R160). -/
def State.creditedSampling (s : State) (b : Batch) (gsv : Nat) : Nat → Sampling → Sampling :=
  Sampling.changedAt b.record.id fun x =>
    ⟨(b.sampling.accumulator + gsv) % s.grabVolume, x.due + s.grabsDue b gsv, x.taken,
      x.missed + (s.grabsDue b gsv - s.placed (s.grabsDue b gsv))⟩

/-- The owed-grab queue after the credited volume of a batch, before its head is served (R159). -/
def State.creditedQueue (s : State) (b : Batch) (gsv : Nat) : List OwedGrab :=
  s.smc.queue ++ List.replicate (s.placed (s.grabsDue b gsv)) ⟨b.record.id, b.can⟩

/-- The credited volume of a batch taken up: its grabs due are queued or missed, and the head is not yet served. -/
structure State.VolumeTaken (s t : State) (b : Batch) (gsv : Nat) : Prop where
  sampled : s.Sampled (s.creditedSampling b gsv) t
  smc : t.smc = { s.smc with queue := s.creditedQueue b gsv }
  cans : t.ret.selectedCan = s.ret.selectedCan ∧ t.ret.canCount1 = s.ret.canCount1 ∧ t.ret.canCount2 = s.ret.canCount2
  missed : s.placed (s.grabsDue b gsv) < s.grabsDue b gsv → s.alarmRaised (.station .samplerMissed) = false →
    (t.alarm (.station .samplerMissed)).state = .returnedUnack

theorem State.sampleBatch_on (b : Batch) (gsv : Nat) (h : s.ret.enable = .on) :
    ∃ w : State, s.VolumeTaken w b gsv ∧ s.sampleBatch b gsv = w.examineHead := by
  obtain ⟨v, hv⟩ : ∃ v, v = s.modBatch b.record.id
      (Batch.modSampling fun x => { x with accumulator := (b.sampling.accumulator + gsv) % s.grabVolume }) := ⟨_, rfl⟩
  have hsample : s.sampleBatch b gsv = (v.dueGrabs b.record.id b.can (s.grabsDue b gsv)).examineHead := by
    unfold State.sampleBatch
    rw [h, hv]
    rfl
  have haccumulated := s.sampled_modBatch b.record.id
    fun x => { x with accumulator := (b.sampling.accumulator + gsv) % s.grabVolume }
  rw [← hv] at haccumulated
  have hkept : v.smc = s.smc ∧ v.ret.selectedCan = s.ret.selectedCan ∧ v.ret.canCount1 = s.ret.canCount1
      ∧ v.ret.canCount2 = s.ret.canCount2 ∧ v.alarms = s.alarms := by
    rw [hv]
    exact ⟨rfl, rfl, rfl, rfl, rfl⟩
  obtain ⟨hsmc, hcan, h1, h2, halarms⟩ := hkept
  have hdue := v.dueGrabs_due b.record.id b.can (s.grabsDue b gsv)
  have hplaced : v.placed (s.grabsDue b gsv) = s.placed (s.grabsDue b gsv) := by
    unfold State.placed
    rw [hsmc]
  rw [hplaced] at hdue
  refine ⟨_, ⟨(haccumulated.trans hdue.sampled).congr fun j x => ?_, ?_, ?_, fun hlt hclear => hdue.missed hlt ?_⟩, hsample⟩
  · unfold State.creditedSampling Sampling.changedAt
    split <;> rfl
  · rw [hdue.smc, hsmc]
    rfl
  · obtain ⟨k, k1, k2⟩ := hdue.cans
    exact ⟨k.trans hcan, k1.trans h1, k2.trans h2⟩
  · exact (State.alarmRaised_congr (State.alarm_eq_of_alarms_eq halarms _)).trans hclear

/-- A batch with its sampling items changed by the function of its id, and SAMPLING_OFF joined where the mark says so. -/
def Batch.sampledAs (g : Nat → Sampling → Sampling) (off : Nat → Bool) (b : Batch) : Batch :=
  { b with
    sampling := g b.record.id b.sampling
    flags := { b.flags with samplingOff := b.flags.samplingOff || off b.record.id } }

/-- The batch to whose flags a crediting joins SAMPLING_OFF (R160). -/
def State.marksOff (s : State) (target : CreditTarget) (gsv : Nat) (j : Nat) : Bool :=
  decide (s.ret.enable = .off ∧ target = .batch j ∧ 0 < gsv)

/-- What the sampler's part of a crediting moves. -/
structure State.SampleCredited (g : Nat → Sampling → Sampling) (off : Nat → Bool) (s t : State) : Prop where
  active : t.ret.active = s.ret.active.map (Batch.sampledAs g off)
  ending : t.ret.ending = s.ret.ending.map (Batch.sampledAs g off)
  ret : t.ret = { s.ret with
    active := t.ret.active, ending := t.ret.ending, selectedCan := t.ret.selectedCan
    canCount1 := t.ret.canCount1, canCount2 := t.ret.canCount2 }
  other : ∀ a : AlarmId, a ≠ .station .samplerMissed → a ≠ .station .samplerHalted → t.alarm a = s.alarm a
  flags : t.flags = { s.flags with alarmChanged := t.flags.alarmChanged }
  frame : t = { s with ret := t.ret, smc := t.smc, alarms := t.alarms, flags := t.flags }

/-- What the head of the queue comes to once the credited volume of a batch has been taken up (R158 to R164). -/
structure State.GrabsServed (g : Nat → Sampling → Sampling) (s t : State) (b : Batch) (gsv : Nat) : Prop where
  missed : s.placed (s.grabsDue b gsv) < s.grabsDue b gsv → s.alarmRaised (.station .samplerMissed) = false →
    (t.alarm (.station .samplerMissed)).state = .returnedUnack
  rest : (s.smc.state ≠ .ready ∨ s.creditedQueue b gsv = []) →
    t.smc = { s.smc with queue := s.creditedQueue b gsv } ∧ t.ret.selectedCan = s.ret.selectedCan
      ∧ g = s.creditedSampling b gsv
  swap : ∀ (e : OwedGrab) (rest : List OwedGrab), s.smc.state = .ready → s.creditedQueue b gsv = e :: rest →
    e.can ≠ s.ret.selectedCan →
    t.smc = { s.smc with
        state := .swapping, queue := s.creditedQueue b gsv, canSelect := decide (e.can = .can2)
        swapTimer := some (s.now + 50000000) }
      ∧ t.ret.selectedCan = e.can ∧ g = s.creditedSampling b gsv
  halt : ∀ (e : OwedGrab) (rest : List OwedGrab), s.smc.state = .ready → s.creditedQueue b gsv = e :: rest →
    e.can = s.ret.selectedCan → s.canIsFull e.can = true →
    t.smc = { s.smc with state := .halted, queue := [], haltedCan := some e.can }
      ∧ t.alarmRaised (.station .samplerHalted) = true
      ∧ g = fun j x => { s.creditedSampling b gsv j x with
          missed := (s.creditedSampling b gsv j x).missed
            + (s.creditedQueue b gsv).countP fun o => decide (o.batchId = j) }
  grab : ∀ (e : OwedGrab) (rest : List OwedGrab), s.smc.state = .ready → s.creditedQueue b gsv = e :: rest →
    e.can = s.ret.selectedCan → s.canIsFull e.can = false →
    t.smc = { s.smc with
        state := .grabbing, queue := rest, grab := true
        widthTimer := some (s.now + s.params.station.grabWidth * 10000)
        intervalTimer := some (s.now + s.params.station.grabInterval * 10000) }
      ∧ t.canCount e.can = s.canCount e.can + 1
      ∧ g = fun j x => { s.creditedSampling b gsv j x with
          taken := (s.creditedSampling b gsv j x).taken + if e.batchId = j then 1 else 0 }

theorem State.Sampled.credited {off : Nat → Bool} (hst : s.Sampled g t) (hoff : ∀ j, off j = false) :
    s.SampleCredited g off t := by
  have hsame : Batch.sampledAs g off = Batch.sampledBy g := by
    funext b
    unfold Batch.sampledAs
    rw [hoff, Bool.or_false]
    rfl
  exact ⟨hsame ▸ hst.active, hsame ▸ hst.ending, hst.ret, hst.other, hst.flags, hst.frame⟩

theorem State.VolumeTaken.served {b : Batch} {gsv : Nat} {w : State} (h : s.VolumeTaken w b gsv) :
    ∃ g : Nat → Sampling → Sampling, s.Sampled g w.examineHead ∧ s.GrabsServed g w.examineHead b gsv := by
  obtain ⟨hcan, h1, h2⟩ := h.cans
  have hstate : w.smc.state = s.smc.state := by rw [h.smc]
  have hqueue : w.smc.queue = s.creditedQueue b gsv := by rw [h.smc]
  have hcount (c : Can) : w.canCount c = s.canCount c := by
    unfold State.canCount
    cases c
    exacts [h1, h2]
  have hfull (c : Can) : w.canIsFull c = s.canIsFull c := by
    have hinput : w.smc.fullInput c = s.smc.fullInput c := by
      rw [h.smc]
      cases c <;> rfl
    unfold State.canIsFull
    rw [hcount, hinput, h.sampled.frame]
  have hnow : w.now = s.now := by rw [h.sampled.frame]
  have hparams : w.params = s.params := by rw [h.sampled.frame]
  by_cases hserve : s.smc.state = .ready ∧ s.creditedQueue b gsv ≠ []
  · obtain ⟨hready, hne⟩ := hserve
    obtain ⟨e, rest, hq⟩ := List.exists_cons_of_ne_nil hne
    have hserved := State.examineHead_served (hstate.trans hready)
    have hsampled := h.sampled.trans (State.sampled_examineHead (hstate.trans hready) (hqueue.trans hq))
    have hmissed := (State.sampled_examineHead (hstate.trans hready) (hqueue.trans hq)).missed
    have hhead {e' : OwedGrab} {rest' : List OwedGrab} (he : s.creditedQueue b gsv = e' :: rest') :
        e' = e ∧ rest' = rest := by
      rw [hq] at he
      cases he
      exact ⟨rfl, rfl⟩
    refine ⟨_, hsampled, fun hlt hclear => ?_, fun hrest => ?_, fun e' rest' _ he hc => ?_, fun e' rest' _ he hc hf => ?_,
      fun e' rest' _ he hc hf => ?_⟩
    · have hfirst := h.missed hlt hclear
      rcases hmissed with hsame | hnext
      · rw [hsame, hfirst]
      · refine hnext ?_
        unfold State.alarmRaised
        rw [hfirst]
    · exact absurd (hrest.resolve_left fun h => h hready) hne
    all_goals obtain ⟨rfl, rfl⟩ := hhead he
    · obtain ⟨hsmc, hselected⟩ := hserved.swap e' rest' (hqueue.trans hq) (hcan ▸ hc)
      refine ⟨by rw [hsmc, h.smc, hnow], hselected, ?_⟩
      funext j x
      exact if_pos (hcan ▸ hc)
    · obtain ⟨hsmc, hraised⟩ := hserved.halt e' rest' (hqueue.trans hq) (hcan ▸ hc) ((hfull _).trans hf)
      refine ⟨by rw [hsmc, h.smc], hraised, ?_⟩
      funext j x
      rw [State.servedSampling, if_neg (not_not.mpr (hcan ▸ hc)), hfull, hf]
      unfold State.queuedGrabs
      rw [hqueue]
      rfl
    · obtain ⟨hsmc, htaken⟩ := hserved.grab e' rest' (hqueue.trans hq) (hcan ▸ hc) ((hfull _).trans hf)
      refine ⟨by rw [hsmc, h.smc, hnow, hparams], htaken.trans (by rw [hcount]), ?_⟩
      funext j x
      rw [State.servedSampling, if_neg (not_not.mpr (hcan ▸ hc)), hfull, hf]
      rfl
  · have hrest : s.smc.state ≠ .ready ∨ s.creditedQueue b gsv = [] := by
      by_cases hready : s.smc.state = .ready
      · exact .inr (not_not.mp fun hne => hserve ⟨hready, hne⟩)
      · exact .inl hready
    have hself : w.examineHead = w := State.examineHead_rest (by rw [hstate, hqueue]; exact hrest)
    rw [hself]
    refine ⟨_, h.sampled, h.missed, fun _ => ⟨h.smc, hcan, rfl⟩, fun e rest hready hq => ?_, fun e rest hready hq => ?_,
      fun e rest hready hq => ?_⟩
    all_goals exact absurd ⟨hready, by rw [hq]; exact List.cons_ne_nil e rest⟩ hserve

theorem State.sampledAs_markOff (s : State) {id : Nat} {gsv : Nat} (henable : s.ret.enable = .off) (hgsv : 0 < gsv) :
    Batch.changedAt id Batch.markSamplingOff = Batch.sampledAs (fun _ x => x) (s.marksOff (.batch id) gsv) := by
  funext b
  unfold Batch.changedAt Batch.sampledAs State.marksOff
  by_cases hb : b.record.id = id
  · rw [if_pos hb, decide_eq_true (by simp [henable, hgsv, hb]), Bool.or_true]
    rfl
  · rw [if_neg hb, decide_eq_false (by simp [Ne.symm hb]), Bool.or_false]

theorem State.sampleCredited_self {off : Nat → Bool} (hoff : ∀ b ∈ s.liveBatches, off b.record.id = false) :
    s.SampleCredited (fun _ x => x) off s := by
  have hsame (b : Batch) (hb : b ∈ s.liveBatches) : Batch.sampledAs (fun _ x => x) off b = b := by
    unfold Batch.sampledAs
    rw [hoff b hb, Bool.or_false]
  refine ⟨?_, ?_, rfl, fun _ _ _ => rfl, rfl, rfl⟩
  · cases ha : s.ret.active with
    | none => rfl
    | some a => rw [Option.map_some, hsame a (by simp [State.liveBatches, ha])]
  · refine (List.map_id _).symm.trans (List.map_congr_left fun b hb => ?_)
    exact (hsame b (List.mem_append_right _ hb)).symm

/-- The sampler's part of a crediting: what it moves, and what it leaves where it has nothing to serve. -/
theorem State.sampleCredit_spec (s : State) (target : CreditTarget) (gsv : Nat) :
    ∃ g : Nat → Sampling → Sampling, s.SampleCredited g (s.marksOff target gsv) (s.sampleCredit target gsv)
      ∧ (((∀ id : Nat, target = .batch id → s.heldBatch? id = none) ∨ s.ret.enable = .off) →
          (s.sampleCredit target gsv).smc = s.smc ∧ g = fun _ x => x)
      ∧ ∀ (id : Nat) (b : Batch), target = .batch id → s.heldBatch? id = some b → s.ret.enable = .on →
          s.GrabsServed g (s.sampleCredit target gsv) b gsv := by
  cases target with
  | unbatched =>
    refine ⟨_, (State.Sampled.refl s).credited fun j => decide_eq_false (by simp), fun _ => ⟨rfl, rfl⟩, ?_⟩
    intro id b h
    cases h
  | batch id =>
    cases hheld : s.heldBatch? id with
    | none =>
      have hself : s.sampleCredit (.batch id) gsv = s := by
        unfold State.sampleCredit
        simp only [hheld]
      rw [hself]
      refine ⟨_, State.sampleCredited_self fun b hb => ?_, fun _ => ⟨rfl, rfl⟩, ?_⟩
      · refine decide_eq_false fun ⟨_, hid, _⟩ => ?_
        obtain rfl := CreditTarget.batch.inj hid
        have hsome := State.heldBatch?_isSome hb
        rw [hheld] at hsome
        cases hsome
      · intro j b hj hb
        obtain rfl := CreditTarget.batch.inj hj
        rw [hheld] at hb
        cases hb
    | some b =>
      have hsample : s.sampleCredit (.batch id) gsv = s.sampleBatch b gsv := by
        unfold State.sampleCredit
        simp only [hheld]
      obtain ⟨-, rfl⟩ := State.heldBatch?_spec hheld
      rw [hsample]
      cases henable : s.ret.enable with
      | on =>
        obtain ⟨w, htaken, heq⟩ := s.sampleBatch_on b gsv henable
        obtain ⟨g, hsampled, hserved⟩ := htaken.served
        rw [heq]
        refine ⟨g, hsampled.credited fun j => decide_eq_false (by simp [henable]), fun hnone => ?_, ?_⟩
        · rcases hnone with hnone | hoff
          · have hcontra := hnone b.record.id rfl
            rw [hheld] at hcontra
            cases hcontra
          · cases hoff
        · intro j b' hj hb' _
          obtain rfl := CreditTarget.batch.inj hj
          rw [hheld] at hb'
          obtain rfl := Option.some.inj hb'
          exact hserved
      | off =>
        have hoff : s.sampleBatch b gsv = if 0 < gsv then s.modBatch b.record.id Batch.markSamplingOff else s := by
          unfold State.sampleBatch
          simp only [henable]
        rw [hoff]
        refine ⟨fun _ x => x, ?_, fun _ => ⟨by split <;> rfl, rfl⟩, fun _ _ _ _ h => (by cases h)⟩
        split
        · next hgsv =>
          have hmark := s.sampledAs_markOff (id := b.record.id) henable hgsv
          exact ⟨by rw [← hmark]; rfl, by rw [← hmark]; rfl, rfl, fun _ _ _ => rfl, rfl, rfl⟩
        · next hgsv => exact State.sampleCredited_self fun x _ => decide_eq_false (by simp [hgsv])

end Sampled

end Sys2Proof.Machine
end

section
/-! The crediting of a computed period up to its close tests (R6, R89 to R93, R112 to R117, R151). -/

namespace Sys2Proof.Machine

set_option Elab.async false

/-! ### Totals (R89 to R93) -/

/-- A batch after a crediting of the state, which changes the one it names (R90). -/
def State.creditedBatch (s : State) (r : Run) (c : ComputedPeriod) (b : Batch) : Batch :=
  if c.record.target = .batch b.record.id then
    b.credit r c.record s.ret.runTotals[r] (s.ret.runTotals[r].add c.record.quantities)
  else b

/-- Retained content with the figures of a crediting in it. -/
def State.creditedContent (s : State) (r : Run) (c : ComputedPeriod) : Retained :=
  { s.ret with
    rem := s.ret.rem.set r c.rem
    periodSeq := s.ret.periodSeq.set r c.record.seq
    runTotals := s.ret.runTotals.set r (s.ret.runTotals[r].add c.record.quantities)
    station := s.ret.station.add c.record.quantities
    pulseCounts := s.ret.pulseCounts.set r (s.ret.pulseCounts[r].add c.record)
    unbatched := if c.record.target = .unbatched then s.ret.unbatched.add c.record.quantities else s.ret.unbatched
    active := s.ret.active.map (s.creditedBatch r c)
    ending := s.ret.ending.map (s.creditedBatch r c) }

/-- What the totals' part of a crediting leaves. -/
structure State.TotalsCredited (s t : State) (r : Run) (c : ComputedPeriod) : Prop where
  ret : t.ret = s.creditedContent r c
  cen : t.cen = s.cen.set r { s.cen[r] with computed := none, latest := some c.record }
  raised : c.record.target = .unbatched → 0 < c.record.iv →
    t.alarm (.station .flowNoBatch) = (s.raiseAlarm (.station .flowNoBatch)).alarm (.station .flowNoBatch)
      ∧ t.alarmRaised (.station .flowNoBatch) = true
  same : (c.record.target ≠ .unbatched ∨ c.record.iv = 0) → t.alarms = s.alarms
  other : ∀ a : AlarmId, a ≠ .station .flowNoBatch → t.alarm a = s.alarm a
  flags : t.flags = { s.flags with alarmChanged := t.flags.alarmChanged }
  frame : t = { s with ret := t.ret, cen := t.cen, alarms := t.alarms, flags := t.flags }

section Totals

variable {s t : State} {r : Run} {c : ComputedPeriod} {id : Nat}

theorem State.creditedBatch_unbatched (h : c.record.target = .unbatched) (b : Batch) : s.creditedBatch r c b = b := by
  unfold State.creditedBatch
  rw [h]
  exact if_neg (by simp)

theorem State.creditedBatch_batch (h : c.record.target = .batch id) :
    s.creditedBatch r c = Batch.changedAt id fun b =>
      b.credit r c.record s.ret.runTotals[r] (s.ret.runTotals[r].add c.record.quantities) := by
  funext b
  unfold State.creditedBatch Batch.changedAt
  rw [h]
  by_cases hb : b.record.id = id
  · rw [if_pos (by rw [hb]), if_pos hb]
  · rw [if_neg (by simpa using Ne.symm hb), if_neg hb]

theorem State.creditedBatch_record (b : Batch) : (s.creditedBatch r c b).record = b.record := by
  unfold State.creditedBatch
  split <;> rfl

theorem State.totalsCredited (s : State) (r : Run) (c : ComputedPeriod) :
    s.TotalsCredited ((s.creditRun r c).creditTarget r c.record s.ret.runTotals[r]) r c := by
  have hafter : (s.creditRun r c).ret.runTotals[r] = s.ret.runTotals[r].add c.record.quantities :=
    Vector.getElem_set_self _
  cases htarget : c.record.target with
  | batch id =>
    have hcredit : (s.creditRun r c).creditTarget r c.record s.ret.runTotals[r]
        = { s with
            ret := s.creditedContent r c
            cen := s.cen.set r { s.cen[r] with computed := none, latest := some c.record } } := by
      unfold State.creditTarget State.creditedContent
      rw [State.creditedBatch_batch htarget, htarget]
      simp only [hafter]
      rfl
    rw [hcredit]
    exact ⟨rfl, rfl, fun h => (by rw [htarget] at h; cases h), fun _ => rfl, fun _ _ => rfl, rfl, rfl⟩
  | unbatched =>
    obtain ⟨u, hu⟩ : ∃ u : State, u = { s with
        ret := s.creditedContent r c
        cen := s.cen.set r { s.cen[r] with computed := none, latest := some c.record } } := ⟨_, rfl⟩
    have hbatches : s.creditedBatch r c = id := funext fun b => State.creditedBatch_unbatched htarget b
    have hcredit : (s.creditRun r c).creditTarget r c.record s.ret.runTotals[r]
        = if 0 < c.record.iv then u.raiseAlarm (.station .flowNoBatch) else u := by
      unfold State.creditTarget
      rw [hu]
      unfold State.creditedContent
      rw [hbatches, Option.map_id, List.map_id, htarget]
      rfl
    have hret : u.ret = s.creditedContent r c := by rw [hu]
    have hcen : u.cen = s.cen.set r { s.cen[r] with computed := none, latest := some c.record } := by rw [hu]
    have halarms : u.alarms = s.alarms := by rw [hu]
    have hclock : u.clock = s.clock := by rw [hu]
    have hflags : u.flags = s.flags := by rw [hu]
    have hframe : u = { s with ret := u.ret, cen := u.cen, alarms := u.alarms, flags := u.flags } := by rw [hu]
    rw [hcredit]
    clear hu hcredit
    split
    · next hiv =>
      have hmoved : u.AlarmsMoved _ (u.raiseAlarm (.station .flowNoBatch)) := u.alarmsMoved_moveAlarm _ _
      have hraised : (u.raiseAlarm (.station .flowNoBatch)).alarmRaised (.station .flowNoBatch) = true :=
        State.alarmRaised_setAlarm u (.station .flowNoBatch) true
      have hsame : (u.raiseAlarm (.station .flowNoBatch)).alarm (.station .flowNoBatch)
          = (s.raiseAlarm (.station .flowNoBatch)).alarm (.station .flowNoBatch) :=
        State.alarm_moveAlarm_congr halarms hclock _ _
      generalize u.raiseAlarm (.station .flowNoBatch) = t at *
      exact ⟨by rw [hmoved.frame, hret], by rw [hmoved.frame, hcen], fun _ _ => ⟨hsame, hraised⟩,
        fun h => absurd h (by rw [htarget]; simp; omega),
        fun a ha => (hmoved.other a (by simpa using ha)).trans (State.alarm_eq_of_alarms_eq halarms a),
        by rw [hmoved.flags, hflags], by rw [hmoved.frame, hframe]⟩
    · next hiv =>
      exact ⟨hret, hcen, fun _ h => absurd h hiv, fun _ => halarms, fun a _ => State.alarm_eq_of_alarms_eq halarms a,
        by rw [hflags], hframe⟩

end Totals

/-! ### The tests of the ACTIVE batch (R115 to R117) -/

/-- The credited batch is at or above its slowdown point (R115). -/
def Batch.slows (b : Batch) (target : Nat) : Bool := decide (slowdownPoint target b.record.margin ≤ b.totals.nsv)

/-- The credited batch reaches its target for the first time (R116). -/
def State.reaches (s : State) (b : Batch) (target : Nat) : Bool :=
  decide (s.ret.endPending = false ∧ b.flags.targetReached = false ∧ target * 1000 ≤ b.totals.nsv)

/-- A batch with TARGET_REACHED joined to its flags, or not. -/
def Batch.withTarget (reached : Bool) (b : Batch) : Batch :=
  { b with flags := { b.flags with targetReached := b.flags.targetReached || reached } }

/-- A batch that has ended by its target (R108, R116). -/
def State.endedByTarget (s : State) (leaving : Option Run) (b : Batch) : Batch :=
  { b with endTime := some s.clock, endReason := some .target, owing := s.owingAtEnd leaving }

/-- What the two tests of a credited ACTIVE batch with a target leave. -/
structure State.TargetJudged (s t : State) (b : Batch) (target : Nat) (leaving : Option Run) : Prop where
  ret : t.ret = { s.ret with
    slowdown := s.ret.slowdown || b.slows target, stop := s.ret.stop || s.reaches b target
    active := t.ret.active, ending := t.ret.ending, endPending := t.ret.endPending }
  flags : t.flags = { s.flags with
    slowdownReached := s.flags.slowdownReached || (!s.ret.slowdown && b.slows target)
    targetReached := s.flags.targetReached || s.reaches b target }
  frame : t = { s with ret := t.ret, flags := t.flags }
  stays : s.ret.endPending = false → s.reaches b target = false →
    t.ret.active = some b ∧ t.ret.ending = s.ret.ending ∧ t.ret.endPending = false
  waits : (s.ret.endPending = true ∨ s.reaches b target = true) → 2 ≤ s.ret.ending.length →
    t.ret.active = some (b.withTarget (s.reaches b target)) ∧ t.ret.ending = s.ret.ending ∧ t.ret.endPending = true
  ends : (s.ret.endPending = true ∨ s.reaches b target = true) → s.ret.ending.length < 2 →
    t.ret.active = none ∧ t.ret.endPending = false
      ∧ t.ret.ending = s.ret.ending ++ [s.endedByTarget leaving (b.withTarget (s.reaches b target))]

section Tests

variable {s t : State} {b : Batch} {target : Nat} {leaving : Option Run} {r : Run} {c : ComputedPeriod} {id : Nat}

theorem Batch.withTarget_false (b : Batch) : b.withTarget false = b := by
  unfold Batch.withTarget
  rw [Bool.or_false]

/-- The slowdown test in one equation. -/
theorem State.slowdownTest_eq (htarget : b.record.target = some target) :
    s.slowdownTest b = { s with
      ret := { s.ret with slowdown := s.ret.slowdown || b.slows target }
      flags := { s.flags with slowdownReached := s.flags.slowdownReached || (!s.ret.slowdown && b.slows target) } } := by
  unfold State.slowdownTest Batch.slows
  rw [htarget]
  dsimp only
  by_cases hpoint : slowdownPoint target b.record.margin ≤ b.totals.nsv
  · cases hslow : s.ret.slowdown with
    | false =>
      rw [if_pos ⟨hpoint, rfl⟩, decide_eq_true hpoint, Bool.not_false, Bool.and_true, Bool.or_true, Bool.or_true]
      rfl
    | true =>
      rw [if_neg (by simp), Bool.not_true, Bool.false_and, Bool.or_false, Bool.true_or, ← hslow]
  · rw [if_neg (by simp [hpoint]), decide_eq_false hpoint, Bool.and_false, Bool.or_false, Bool.or_false]

/-- The end of a batch by its target, at once or later (R116, R117). -/
theorem State.endForTarget_eq (s : State) (b : Batch) (leaving : Option Run) :
    s.endForTarget b leaving = if s.ret.ending.length < 2 then { s with ret := { s.ret with
        active := none, endPending := false, ending := s.ret.ending ++ [s.endedByTarget leaving b] } }
      else { s with ret := { s.ret with endPending := true } } := rfl

theorem State.targetTest_judged (hactive : s.ret.active = some b) (hne : ∀ x ∈ s.ret.ending, x.record.id ≠ b.record.id)
    (htarget : b.record.target = some target) :
    State.TargetJudged s ((s.slowdownTest b).targetTest b leaving) b target leaving := by
  rw [State.slowdownTest_eq htarget]
  unfold State.targetTest
  rw [htarget]
  dsimp only
  cases hpending : s.ret.endPending with
  | true =>
    have hreaches : s.reaches b target = false := decide_eq_false (by simp [hpending])
    simp only [↓reduceIte]
    rw [State.endForTarget_eq]
    dsimp only
    split
    · next hlen =>
      refine ⟨?_, ?_, rfl, fun h => ?_, fun _ h => absurd hlen (by omega), fun _ _ => ⟨rfl, rfl, ?_⟩⟩
      · rw [hreaches, Bool.or_false]
      · rw [hreaches, Bool.or_false]
      · rw [hpending] at h
        cases h
      · rw [hreaches, Batch.withTarget_false]
        rfl
    · next hlen =>
      refine ⟨?_, ?_, rfl, fun h => ?_, fun _ _ => ⟨?_, rfl, rfl⟩, fun _ h => absurd h hlen⟩
      · rw [hreaches, Bool.or_false]
      · rw [hreaches, Bool.or_false]
      · rw [hpending] at h
        cases h
      · rw [hreaches, Batch.withTarget_false]
        exact hactive
  | false =>
    by_cases hreach : target * 1000 ≤ b.totals.nsv ∧ b.flags.targetReached = false
    · have hreaches : s.reaches b target = true := decide_eq_true ⟨hpending, hreach.2, hreach.1⟩
      have hself : s.ret.ending.map (Batch.changedAt b.record.id Batch.reachedTarget) = s.ret.ending := by
        refine (List.map_congr_left fun x hx => ?_).trans (List.map_id _)
        exact if_neg (hne x hx)
      have hbatch : Batch.changedAt b.record.id Batch.reachedTarget b = b.reachedTarget := if_pos rfl
      have hwith : b.reachedTarget = b.withTarget true := by
        unfold Batch.reachedTarget Batch.withTarget
        rw [Bool.or_true]
      simp only [Bool.false_eq_true, ↓reduceIte]
      rw [if_pos hreach, State.endForTarget_eq]
      simp only [State.modBatch, State.modRet, State.addFlag, hself, hactive, Option.map_some, hbatch, hwith]
      split
      · next hlen =>
        refine ⟨?_, ?_, rfl, fun _ h => ?_, fun _ h => absurd hlen (by omega), fun _ _ => ⟨rfl, rfl, ?_⟩⟩
        · rw [hreaches, Bool.or_true]
        · rw [hreaches, Bool.or_true]
          rfl
        · rw [hreaches] at h
          cases h
        · rw [hreaches]
          rfl
      · next hlen =>
        refine ⟨?_, ?_, rfl, fun _ h => ?_, fun _ _ => ⟨?_, rfl, rfl⟩, fun _ h => absurd h hlen⟩
        · rw [hreaches, Bool.or_true]
        · rw [hreaches, Bool.or_true]
          rfl
        · rw [hreaches] at h
          cases h
        · rw [hreaches]
    · have hreaches : s.reaches b target = false := by
        refine decide_eq_false fun ⟨_, h, h'⟩ => hreach ⟨h', h⟩
      simp only [Bool.false_eq_true, ↓reduceIte]
      rw [if_neg hreach]
      refine ⟨?_, ?_, rfl, fun _ _ => ⟨hactive, rfl, rfl⟩, fun h => ?_, fun h => ?_⟩
      · rw [hreaches, Bool.or_false]
      · rw [hreaches, Bool.or_false]
      all_goals
        rw [hpending, hreaches] at h
        simp at h

/-- Without an ACTIVE batch that the crediting names, or without a target, the tests do nothing (R115). -/
theorem State.batchTests_none {credit : CreditTarget}
    (h : ∀ b : Batch, s.ret.active = some b → credit = .batch b.record.id → b.record.target = none) :
    s.batchTests credit leaving = s := by
  unfold State.batchTests
  split
  · next id b hactive =>
    split
    · next hid =>
      have hnone := h b hactive (by rw [hid])
      simp only [State.slowdownTest, State.targetTest, hnone]
    · rfl
  · rfl
  · rfl

theorem State.batchTests_judged (hactive : s.ret.active = some b)
    (hne : ∀ x ∈ s.ret.ending, x.record.id ≠ b.record.id) (htarget : b.record.target = some target) :
    State.TargetJudged s (s.batchTests (.batch b.record.id) leaving) b target leaving := by
  have htests : s.batchTests (.batch b.record.id) leaving = (s.slowdownTest b).targetTest b leaving := by
    unfold State.batchTests
    rw [hactive]
    exact if_pos rfl
  rw [htests]
  exact State.targetTest_judged hactive hne htarget

/-- What the tests leave alone, whether they are made or not. -/
structure State.TestsKept (s t : State) : Prop where
  ret : t.ret = { s.ret with
    slowdown := t.ret.slowdown, stop := t.ret.stop
    active := t.ret.active, ending := t.ret.ending, endPending := t.ret.endPending }
  flags : t.flags = { s.flags with
    slowdownReached := t.flags.slowdownReached, targetReached := t.flags.targetReached }
  frame : t = { s with ret := t.ret, flags := t.flags }
  ending : ∃ ended : List Batch, t.ret.ending = s.ret.ending ++ ended

/-- A batch as it was, but for the end moment, the owing runs and TARGET_REACHED. -/
def Batch.JudgedFrom (b b' : Batch) : Prop :=
  b' = { b with
    endTime := b'.endTime, endReason := b'.endReason, owing := b'.owing
    flags := { b.flags with targetReached := b'.flags.targetReached } }

theorem Batch.JudgedFrom.refl (b : Batch) : b.JudgedFrom b := rfl

theorem Batch.JudgedFrom.trans {x y z : Batch} (h : x.JudgedFrom y) (k : y.JudgedFrom z) : x.JudgedFrom z := by
  unfold Batch.JudgedFrom at h k ⊢
  rw [k, h]

theorem State.mem_live_active (h : s.ret.active = some b) : b ∈ s.liveBatches := by
  unfold State.liveBatches
  rw [h]
  exact List.mem_cons_self

theorem State.mem_live_ending (h : b ∈ s.ret.ending) : b ∈ s.liveBatches := List.mem_append_right _ h

theorem State.mem_live_iff : b ∈ s.liveBatches ↔ s.ret.active = some b ∨ b ∈ s.ret.ending := by
  unfold State.liveBatches
  rw [List.mem_append, Option.mem_toList]

/-- The tests of a crediting are made of the ACTIVE batch that it names, if that has a target, or not at all. -/
theorem State.batchTests_cases (hids : s.ret.BatchIdsDistinct) (credit : CreditTarget) (leaving : Option Run) :
    s.batchTests credit leaving = s
      ∨ ∃ (a : Batch) (target : Nat), s.ret.active = some a ∧ credit = .batch a.record.id
        ∧ State.TargetJudged s (s.batchTests credit leaving) a target leaving := by
  by_cases hmade : ∃ (a : Batch) (target : Nat), s.ret.active = some a ∧ credit = .batch a.record.id
      ∧ a.record.target = some target
  · obtain ⟨a, target, hactive, rfl, htarget⟩ := hmade
    exact .inr ⟨a, target, hactive, rfl, State.batchTests_judged hactive
      (fun x hx => State.active_ne_of_ending hids hactive hx) htarget⟩
  · refine .inl (State.batchTests_none fun a hactive hcredit => ?_)
    refine Option.eq_none_iff_forall_ne_some.mpr fun target htarget => hmade ⟨a, target, hactive, hcredit, htarget⟩

theorem State.TargetJudged.outcome {a : Batch} (h : State.TargetJudged s t a target leaving) :
    (t.ret.ending = s.ret.ending ∧ ∃ a' : Batch, t.ret.active = some a' ∧ a.JudgedFrom a')
      ∨ t.ret.active = none ∧ ∃ a' : Batch, t.ret.ending = s.ret.ending ++ [a'] ∧ a.JudgedFrom a' := by
  by_cases hends : s.ret.endPending = true ∨ s.reaches a target = true
  · by_cases hlen : s.ret.ending.length < 2
    · obtain ⟨hactive, -, hending⟩ := h.ends hends hlen
      exact .inr ⟨hactive, _, hending, rfl⟩
    · obtain ⟨hactive, hending, -⟩ := h.waits hends (by omega)
      exact .inl ⟨hending, _, hactive, rfl⟩
  · rw [not_or, Bool.not_eq_true, Bool.not_eq_true] at hends
    obtain ⟨hpending, hreaches⟩ := hends
    obtain ⟨hactive, hending, -⟩ := h.stays hpending hreaches
    exact .inl ⟨hending, a, hactive, .refl a⟩

theorem State.testsKept (hids : s.ret.BatchIdsDistinct) (credit : CreditTarget) (leaving : Option Run) :
    s.TestsKept (s.batchTests credit leaving) := by
  rcases State.batchTests_cases hids credit leaving with hself | ⟨a, target, -, -, hjudged⟩
  · rw [hself]
    exact ⟨rfl, rfl, rfl, [], (List.append_nil _).symm⟩
  · refine ⟨?_, ?_, hjudged.frame, ?_⟩
    · rw [hjudged.ret]
    · rw [hjudged.flags]
    · rcases hjudged.outcome with ⟨hending, -⟩ | ⟨-, a', hending, -⟩
      · exact ⟨[], by rw [hending, List.append_nil]⟩
      · exact ⟨[a'], hending⟩

theorem State.batchTests_live (hids : s.ret.BatchIdsDistinct) (credit : CreditTarget) (leaving : Option Run)
    (hb : b ∈ s.liveBatches) : ∃ b' ∈ (s.batchTests credit leaving).liveBatches, b.JudgedFrom b' := by
  rcases State.batchTests_cases hids credit leaving with hself | ⟨a, target, hactive, -, hjudged⟩
  · rw [hself]
    exact ⟨b, hb, .refl b⟩
  · rcases State.mem_live_iff.mp hb with hb | hb
    · obtain rfl := Option.some.inj (hactive.symm.trans hb)
      rcases hjudged.outcome with ⟨-, a', hstays, hfrom⟩ | ⟨-, a', hends, hfrom⟩
      · exact ⟨a', State.mem_live_active hstays, hfrom⟩
      · exact ⟨a', State.mem_live_ending (by rw [hends]; simp), hfrom⟩
    · obtain ⟨ended, hending⟩ := (State.testsKept hids credit leaving).ending
      exact ⟨b, State.mem_live_ending (by rw [hending]; exact List.mem_append_left _ hb), .refl b⟩

/-! ### The obligation of a run (R112, R113) -/

/-- The crediting pays an obligation to the ENDING batch of this id: it is of a closing period of its own, or the run
leaves service. -/
abbrev ComputedPeriod.pays (c : ComputedPeriod) (id : Nat) : Prop :=
  c.record.final = true ∨ c.closing = true ∧ c.record.target = .batch id

/-- An ENDING batch after the obligation is paid. -/
def ComputedPeriod.paidEnding (c : ComputedPeriod) (r : Run) (b : Batch) : Batch :=
  if c.pays b.record.id then b.paid r else b

/-- The ACTIVE batch after the obligation is paid. -/
def ComputedPeriod.paidActive (c : ComputedPeriod) (r : Run) (b : Batch) : Batch :=
  if c.record.final = false ∧ c.closing = true ∧ c.record.target = .batch b.record.id then b.paid r else b

theorem State.payObligation_eq (s : State) (r : Run) (c : ComputedPeriod) :
    s.payObligation r c = { s with ret := { s.ret with
      active := s.ret.active.map (c.paidActive r), ending := s.ret.ending.map (c.paidEnding r) } } := by
  have hkept (hactive : c.paidActive r = id) (hending : c.paidEnding r = id) : s = { s with ret := { s.ret with
      active := s.ret.active.map (c.paidActive r), ending := s.ret.ending.map (c.paidEnding r) } } := by
    rw [hactive, hending, Option.map_id, List.map_id]
    rfl
  unfold State.payObligation
  cases hfinal : c.record.final with
  | true =>
    have hactive : c.paidActive r = id := funext fun b => if_neg (by simp [hfinal])
    have hending : c.paidEnding r = Batch.paid r := funext fun b => if_pos (.inl hfinal)
    rw [hactive, hending, Option.map_id]
    rfl
  | false =>
    simp only [Bool.false_eq_true, ↓reduceIte]
    cases hclosing : c.closing with
    | false =>
      exact hkept (funext fun b => if_neg (by simp [hclosing])) (funext fun b => if_neg (by simp [hfinal, hclosing]))
    | true =>
      cases htarget : c.record.target with
      | unbatched =>
        exact hkept (funext fun b => if_neg (by simp [htarget]))
          (funext fun b => if_neg (by simp [hfinal, htarget]))
      | batch id =>
        have hactive : c.paidActive r = Batch.changedAt id (Batch.paid r) := by
          funext b
          unfold ComputedPeriod.paidActive Batch.changedAt
          rw [htarget]
          by_cases hb : b.record.id = id
          · rw [if_pos ⟨hfinal, hclosing, by rw [hb]⟩, if_pos hb]
          · rw [if_neg (by simp [Ne.symm hb]), if_neg hb]
        have hending : c.paidEnding r = Batch.changedAt id (Batch.paid r) := by
          funext b
          unfold ComputedPeriod.paidEnding Batch.changedAt
          by_cases hb : b.record.id = id
          · rw [if_pos (.inr ⟨hclosing, by rw [htarget, hb]⟩), if_pos hb]
          · rw [if_neg (by simp [hfinal, htarget, Ne.symm hb]), if_neg hb]
        rw [hactive, hending]
        rfl

theorem ComputedPeriod.paidEnding_from (c : ComputedPeriod) (r : Run) (b : Batch) : b.JudgedFrom (c.paidEnding r b) := by
  unfold ComputedPeriod.paidEnding
  split <;> rfl

theorem ComputedPeriod.paidActive_from (c : ComputedPeriod) (r : Run) (b : Batch) : b.JudgedFrom (c.paidActive r b) := by
  unfold ComputedPeriod.paidActive
  split <;> rfl

theorem State.payObligation_live (hb : b ∈ s.liveBatches) :
    ∃ b' ∈ (s.payObligation r c).liveBatches, b.JudgedFrom b' := by
  rw [State.payObligation_eq]
  rcases State.mem_live_iff.mp hb with hb | hb
  · exact ⟨_, State.mem_live_active (by rw [hb]; rfl), c.paidActive_from r b⟩
  · exact ⟨_, State.mem_live_ending (List.mem_map_of_mem hb), c.paidEnding_from r b⟩

/-! ### The prove of the run (R6, R151) -/

/-- What an event that may fail the prove leaves alone. -/
structure State.ProveMoved (s t : State) : Prop where
  ret : t.ret = { s.ret with marker := t.ret.marker, lastProve := t.ret.lastProve }
  other : ∀ a : AlarmId, a ≠ .station .proveFailed → t.alarm a = s.alarm a
  flags : t.flags = { s.flags with proveFinished := t.flags.proveFinished, alarmChanged := t.flags.alarmChanged }
  frame : t = { s with ret := t.ret, pulses := t.pulses, psq := t.psq, alarms := t.alarms, flags := t.flags }

theorem State.ProveMoved.refl (s : State) : s.ProveMoved s := ⟨rfl, fun _ _ => rfl, rfl, rfl⟩

theorem State.ProveMoved.trans {u : State} (h : s.ProveMoved t) (k : t.ProveMoved u) : s.ProveMoved u where
  ret := by rw [k.ret, h.ret]
  other a ha := (k.other a ha).trans (h.other a ha)
  flags := by rw [k.flags, h.flags]
  frame := by rw [k.frame, h.frame]

theorem State.failProve_flags (s : State) (cause : ProveCause) : (s.failProve cause).flags
    = { s.flags with proveFinished := true, alarmChanged := (s.failProve cause).flags.alarmChanged } := by
  obtain ⟨v, hv⟩ : ∃ v, v = s.dropPass.raiseAlarm (.station .proveFailed) := ⟨_, rfl⟩
  have hmoved : s.dropPass.AlarmsMoved _ (s.dropPass.raiseAlarm (.station .proveFailed)) :=
    s.dropPass.alarmsMoved_moveAlarm _ _
  rw [← hv] at hmoved
  have hfail : s.failProve cause = v.completeProve (.failed cause) := by rw [hv]; rfl
  have hflags := hmoved.flags
  rw [show s.dropPass.flags = s.flags by rw [State.dropPass_eq]] at hflags
  rw [hfail, State.completeProve_eq]
  show ({ v.flags with proveFinished := true } : EventFlags) = _
  rw [hflags]

theorem State.proveMoved_failProve (s : State) (cause : ProveCause) : s.ProveMoved (s.failProve cause) := by
  have hfailed := s.failProve_failed cause
  refine ⟨?_, hfailed.other, ?_, hfailed.frame⟩
  · rw [hfailed.ret]
    unfold Retained.proveEnded
    split <;> rfl
  · exact (s.failProve_flags cause).trans (by rw [s.failProve_flags cause])

theorem State.proveMoved_productTest (s : State) (r : Run) (rec : PeriodRecord) : s.ProveMoved (s.productTest r rec) := by
  unfold State.productTest
  split
  · exact s.proveMoved_failProve _
  · exact .refl s

theorem State.proveMoved_modRun (s : State) (r : Run) (f : RunPulse → RunPulse) : s.ProveMoved (s.modRun r f) :=
  ⟨rfl, fun _ _ => rfl, rfl, rfl⟩

theorem State.proveMoved_decideFlow (s : State) (r : Run) (rec : PeriodRecord) : s.ProveMoved (s.decideFlow r rec) := by
  unfold State.decideFlow
  split
  · exact .refl s
  · split
    · exact s.proveMoved_modRun r _
    · dsimp only
      split
      · exact (s.proveMoved_modRun r _).trans (State.proveMoved_failProve _ _)
      · exact s.proveMoved_modRun r _

end Tests

end Sys2Proof.Machine
end

section
/-! A crediting of a computed period from its first change to its one retained update (R89). -/

namespace Sys2Proof.Machine

set_option Elab.async false

/-! ### The flow decision and the prove (R6, R151) -/

section Prove

variable {s t : State} {r : Run} {rec : PeriodRecord}

theorem State.productTest_stands
    (h : s.proves r = false ∨ rec.final = true ∨ s.psq.slot = some rec.slot) : s.productTest r rec = s := by
  unfold State.productTest
  refine if_neg fun htest => ?_
  simp only [Bool.and_eq_true, Bool.not_eq_true', decide_eq_true_eq] at htest
  obtain ⟨⟨hproves, hfinal⟩, hslot⟩ := htest
  rcases h with h | h | h
  · rw [h] at hproves
    cases hproves
  · rw [h] at hfinal
    cases hfinal
  · exact hslot h

theorem State.productTest_fails (hproves : s.proves r = true) (hfinal : rec.final = false)
    (hslot : s.psq.slot ≠ some rec.slot) : s.productTest r rec = s.failProve .productChange := by
  unfold State.productTest
  exact if_pos (by simp [hproves, hfinal, hslot])

/-- A run with its flow state decided. -/
def RunPulse.withFlow (x : RunPulse) (f : FlowState) : RunPulse := { x with flow := some f }

/-- What the flow decision of a full period does where no prove fails with it. -/
structure State.FlowDecided (s t : State) (r : Run) : Prop where
  frame : t = { s with pulses := t.pulses }
  capture : t.pulses[r].capture = s.pulses[r].capture ∧ t.pulses[r].watch = s.pulses[r].watch

theorem State.modRun_self (s : State) (r : Run) (f : RunPulse → RunPulse) :
    (s.modRun r f).pulses[r] = f s.pulses[r] := Vector.getElem_set_self _

theorem State.decideFlow_stands
    (h : s.proves r = false ∨ rec.final = true ∨ s.params.meter[r].cutoff ≤ rec.q) :
    s.FlowDecided (s.decideFlow r rec) r := by
  unfold State.decideFlow
  split
  · exact ⟨rfl, rfl, rfl⟩
  · next hfinal =>
    split
    · refine ⟨rfl, ?_⟩
      rw [State.modRun_self]
      exact ⟨rfl, rfl⟩
    · next hcutoff =>
      have hproves : s.proves r = false := (h.resolve_right fun h => h.elim hfinal hcutoff)
      dsimp only
      have hmodified (f : RunPulse → RunPulse) : ¬ (s.modRun r f).proves r = true := by
        show ¬ s.proves r = true
        simp [hproves]
      rw [if_neg (hmodified _)]
      refine ⟨rfl, ?_⟩
      rw [State.modRun_self]
      exact ⟨rfl, rfl⟩

theorem State.decideFlow_fails (hproves : s.proves r = true) (hfinal : rec.final = false)
    (hcutoff : rec.q < s.params.meter[r].cutoff) :
    s.decideFlow r rec = (s.modRun r fun x => { x with flow := some .noFlow }).failProve .flowStopped := by
  unfold State.decideFlow
  rw [if_neg (by simp [hfinal]), if_neg (by omega)]
  exact if_pos hproves

theorem State.failProve_flow (s : State) (cause : ProveCause) (r : Run) :
    (s.failProve cause).pulses[r].flow = s.pulses[r].flow := by
  have hpulses := (s.failProve_failed cause).pulses
  rw [hpulses, Fin.getElem_fin, Vector.getElem_set]
  split
  · next heq =>
    have hrun : s.proveRun = r := Fin.ext heq
    subst hrun
    rfl
  · rfl

/-- The flow state is that of the record's rate against the cutoff (R6). -/
theorem State.decideFlow_flow (hfinal : rec.final = false) : (s.decideFlow r rec).pulses[r].flow
    = some (if s.params.meter[r].cutoff ≤ rec.q then .flowing else .noFlow) := by
  unfold State.decideFlow
  rw [if_neg (by simp [hfinal])]
  split
  · rw [State.modRun_self]
  · dsimp only
    split
    · rw [State.failProve_flow, State.modRun_self]
    · rw [State.modRun_self]

theorem State.decideFlow_final (hfinal : rec.final = true) : s.decideFlow r rec = s := if_pos hfinal

end Prove

/-! ### The phases -/

/-- The states through which a crediting goes: the totals credited, the tests of the ACTIVE batch made, the obligation paid
and the sampler's part done, the product tested, the close tests made, the flow decided. -/
structure State.CreditPhases (s : State) (r : Run) (c : ComputedPeriod) (credited judged sampled ready closed decided : State)
    (g : Nat → Sampling → Sampling) : Prop where
  ids : s.ret.BatchIdsDistinct
  creditedIds : credited.ret.BatchIdsDistinct
  paidIds : (judged.payObligation r c).ret.BatchIdsDistinct
  readyIds : ready.ret.BatchIdsDistinct
  totals : s.TotalsCredited credited r c
  tests : judged = credited.batchTests c.record.target (leavingRun r c.record)
  moved : (judged.payObligation r c).SampleCredited g ((judged.payObligation r c).marksOff c.record.target c.record.gsv)
    sampled
  unserved : ((∀ id : Nat, c.record.target = .batch id → (judged.payObligation r c).heldBatch? id = none)
      ∨ (judged.payObligation r c).ret.enable = .off) →
    sampled.smc = (judged.payObligation r c).smc ∧ g = fun _ x => x
  served : ∀ (id : Nat) (b : Batch), c.record.target = .batch id → (judged.payObligation r c).heldBatch? id = some b →
    (judged.payObligation r c).ret.enable = .on → (judged.payObligation r c).GrabsServed g sampled b c.record.gsv
  product : ready = sampled.productTest r c.record
  closes : closed = ready.closeTests
  flow : decided = closed.decideFlow r c.record

/-- A crediting goes through its phases. -/
theorem State.creditStep_phases {s : State} {r : Run} {c : ComputedPeriod} (hrun : s.phase = .running)
    (hids : s.BatchIdsDistinct) (hc : s.cen[r].computed = some c) :
    ∃ (credited judged sampled ready closed : State) (g : Nat → Sampling → Sampling),
      s.CreditPhases r c credited judged sampled ready closed (creditStep r s) g := by
  obtain ⟨credited, hcredited⟩ : ∃ x, x = (s.creditRun r c).creditTarget r c.record s.ret.runTotals[r] := ⟨_, rfl⟩
  obtain ⟨judged, hjudged⟩ : ∃ x, x = credited.batchTests c.record.target (leavingRun r c.record) := ⟨_, rfl⟩
  obtain ⟨sampled, hsampled⟩ : ∃ x, x = (judged.payObligation r c).sampleCredit c.record.target c.record.gsv := ⟨_, rfl⟩
  obtain ⟨ready, hready⟩ : ∃ x, x = sampled.productTest r c.record := ⟨_, rfl⟩
  have hkeepsCredited : s.KeepsSound credited :=
    hcredited ▸ (s.keeps_creditRun r hc).trans (State.keeps_creditTarget _ r _ _)
  have hkeepsPaid : s.KeepsSound (judged.payObligation r c) :=
    hkeepsCredited.trans ((hjudged ▸ State.keeps_batchTests _ _ _ : credited.KeepsSound judged).trans
      (State.keeps_payObligation _ r c))
  have hkeepsReady : s.KeepsSound ready :=
    hkeepsPaid.trans ((hsampled ▸ State.keeps_sampleCredit _ _ : (judged.payObligation r c).KeepsSound sampled).trans
      (hready ▸ State.keeps_productTest _ r _))
  have hids' {t : State} (h : s.KeepsSound t) : t.ret.BatchIdsDistinct := ((h.of_running hrun).ids hids).ret
  obtain ⟨g, hmoved, hunserved, hserved⟩ :=
    (judged.payObligation r c).sampleCredit_spec c.record.target c.record.gsv
  rw [← hsampled] at hmoved hunserved hserved
  refine ⟨credited, judged, sampled, ready, ready.closeTests, g, hids.ret, hids' hkeepsCredited, hids' hkeepsPaid,
    hids' hkeepsReady, hcredited ▸ s.totalsCredited r c, hjudged, hmoved, hunserved, hserved, hready, rfl, ?_⟩
  have hcredit : s.credit r c = ready.closeTests := by
    rw [hready, hsampled, hjudged, hcredited]
    rfl
  rw [← hcredit]
  unfold creditStep
  rw [hc]

end Sys2Proof.Machine
end

section
/-! What a crediting leaves of its run's contribution, of every batch and of retained content (R89, R90). -/

namespace Sys2Proof.Machine

set_option Elab.async false

/-! ### The contribution of the run (R90) -/

section Contributions

variable {r : Run} {rec : PeriodRecord} {before after : CumulativeTotals} {cs : List Contribution} {x : Contribution}

/-- The run has a contribution that takes the record. -/
theorem exists_creditContributions (cs : List Contribution) :
    ∃ y : Contribution, y.run = r ∧ y.credit rec after ∈ creditContributions r rec before after cs := by
  induction cs with
  | nil => exact ⟨newContribution r before, rfl, List.mem_singleton_self _⟩
  | cons d ds ih =>
    unfold creditContributions
    split
    · next hd => exact ⟨d, hd, List.mem_cons_self⟩
    · split
      · exact ⟨newContribution r before, rfl, List.mem_cons_self⟩
      · obtain ⟨y, hy, hmem⟩ := ih
        exact ⟨y, hy, List.mem_cons_of_mem d hmem⟩

/-- The contributions of the other runs are what they were. -/
theorem mem_creditContributions_of_ne (hx : x.run ≠ r) : x ∈ creditContributions r rec before after cs ↔ x ∈ cs := by
  have hne {y : Contribution} (hy : y.run = r) : x ≠ y := fun h => hx (h ▸ hy)
  induction cs with
  | nil => simp [creditContributions, hne (y := (newContribution r before).credit rec after) rfl]
  | cons d ds ih =>
    unfold creditContributions
    split
    · next hd => simp [hne (y := d.credit rec after) hd, hne hd]
    · split
      · simp [hne (y := (newContribution r before).credit rec after) rfl]
      · rw [List.mem_cons, List.mem_cons]
        exact or_congr Iff.rfl ih

/-- The run's contribution is the one it had with the record credited, or a new one with the record credited. -/
theorem own_creditContributions (h : cs.Pairwise (fun x y => x.run < y.run))
    (hx : x ∈ creditContributions r rec before after cs) (hrun : x.run = r) :
    ((∀ y ∈ cs, y.run ≠ r) → x = (newContribution r before).credit rec after)
      ∧ ∀ y ∈ cs, y.run = r → x = y.credit rec after := by
  induction cs with
  | nil => exact ⟨fun _ => List.mem_singleton.mp hx, fun y hy => absurd hy List.not_mem_nil⟩
  | cons d ds ih =>
    obtain ⟨hd, hds⟩ := List.pairwise_cons.mp h
    unfold creditContributions at hx
    split at hx
    · next hdrun =>
      have hlater {y : Contribution} (hy : y ∈ ds) : y.run ≠ r := fun hyr => (hdrun ▸ hd y hy).ne hyr.symm
      have hxd : x = d.credit rec after := (List.mem_cons.mp hx).resolve_right fun hmem => hlater hmem hrun
      refine ⟨fun hnone => absurd hdrun (hnone d List.mem_cons_self), fun y hy hyr => ?_⟩
      obtain rfl | hy := List.mem_cons.mp hy
      exacts [hxd, absurd hyr (hlater hy)]
    · next hdrun =>
      split at hx
      · next hlt =>
        have hlater {y : Contribution} (hy : y ∈ d :: ds) : y.run ≠ r := fun hyr => by
          obtain rfl | hy := List.mem_cons.mp hy
          exacts [hdrun hyr, (hlt.trans (hd y hy)).ne hyr.symm]
        refine ⟨fun _ => (List.mem_cons.mp hx).resolve_right fun hmem => hlater hmem hrun, fun y hy hyr => ?_⟩
        exact absurd hyr (hlater hy)
      · have hx' := (List.mem_cons.mp hx).resolve_left fun heq => hdrun (heq ▸ hrun)
        obtain ⟨hnew, hown⟩ := ih hds hx'
        refine ⟨fun hnone => hnew fun y hy => hnone y (List.mem_cons_of_mem d hy), fun y hy hyr => ?_⟩
        obtain rfl | hy := List.mem_cons.mp hy
        exacts [absurd hyr hdrun, hown y hy hyr]

end Contributions

/-! ### What the phases leave -/

/-- What a crediting may move of a state. -/
def State.CreditMoved (s t : State) : Prop :=
  t = { s with
    ret := t.ret, pulses := t.pulses, cen := t.cen, psq := t.psq, smc := t.smc, archive := t.archive
    write := t.write, erase := t.erase, alarms := t.alarms, flags := t.flags }

section CreditMoved

variable {s t u : State}

theorem State.CreditMoved.trans (h : s.CreditMoved t) (k : t.CreditMoved u) : s.CreditMoved u := by
  unfold State.CreditMoved at h k ⊢
  rw [k, h]

theorem State.ProveMoved.credit (h : s.ProveMoved t) : s.CreditMoved t := by
  unfold State.CreditMoved
  rw [h.frame]

theorem State.ArchiveMoved.credit (h : s.ArchiveMoved t) : s.CreditMoved t := by
  unfold State.CreditMoved
  rw [h.frame]

theorem State.SampleCredited.credit {g : Nat → Sampling → Sampling} {off : Nat → Bool} (h : s.SampleCredited g off t) :
    s.CreditMoved t := by
  unfold State.CreditMoved
  rw [h.frame]

theorem State.TestsKept.credit (h : s.TestsKept t) : s.CreditMoved t := by
  unfold State.CreditMoved
  rw [h.frame]

theorem State.TotalsCredited.credit {r : Run} {c : ComputedPeriod} (h : s.TotalsCredited t r c) : s.CreditMoved t := by
  unfold State.CreditMoved
  rw [h.frame]

theorem State.payObligation_moved (s : State) (r : Run) (c : ComputedPeriod) : s.CreditMoved (s.payObligation r c) := by
  rw [State.payObligation_eq]
  rfl

end CreditMoved

namespace State.CreditPhases

variable {s credited judged sampled ready closed decided : State} {r : Run} {c : ComputedPeriod}
  {g : Nat → Sampling → Sampling} (h : s.CreditPhases r c credited judged sampled ready closed decided g)

include h

theorem kept : credited.TestsKept judged := by
  rw [h.tests]
  exact State.testsKept h.creditedIds _ _

theorem closeRun : ready.CloseRun closed := by
  rw [h.closes]
  exact State.closeRun_closeTests h.readyIds

theorem proveReady : sampled.ProveMoved ready := by
  rw [h.product]
  exact sampled.proveMoved_productTest r c.record

theorem proveDecided : closed.ProveMoved decided := by
  rw [h.flow]
  exact closed.proveMoved_decideFlow r c.record

/-- Retained content at the end of a crediting. -/
theorem ret : decided.ret = { s.creditedContent r c with
    slowdown := judged.ret.slowdown, stop := judged.ret.stop, endPending := judged.ret.endPending
    active := decided.ret.active, ending := decided.ret.ending
    selectedCan := sampled.ret.selectedCan, canCount1 := sampled.ret.canCount1, canCount2 := sampled.ret.canCount2
    marker := decided.ret.marker, lastProve := decided.ret.lastProve
    pendingTickets := closed.ret.pendingTickets, ticketCounter := closed.ret.ticketCounter } := by
  rw [h.proveDecided.ret, h.closeRun.moved.ret, h.proveReady.ret, h.moved.ret, State.payObligation_eq, h.kept.ret,
    h.totals.ret]

/-- Retained content when the sampler's part is done. -/
theorem sampledRet : sampled.ret = { s.creditedContent r c with
    slowdown := judged.ret.slowdown, stop := judged.ret.stop, endPending := judged.ret.endPending
    active := sampled.ret.active, ending := sampled.ret.ending
    selectedCan := sampled.ret.selectedCan, canCount1 := sampled.ret.canCount1, canCount2 := sampled.ret.canCount2 } := by
  rw [h.moved.ret, State.payObligation_eq, h.kept.ret, h.totals.ret]

theorem paidMoved : s.CreditMoved (judged.payObligation r c) :=
  (h.totals.credit.trans h.kept.credit).trans (judged.payObligation_moved r c)

theorem sampledMoved : s.CreditMoved sampled := h.paidMoved.trans h.moved.credit

theorem decidedMoved : s.CreditMoved decided :=
  ((h.sampledMoved.trans h.proveReady.credit).trans h.closeRun.moved.credit).trans h.proveDecided.credit

theorem cen : decided.cen = s.cen.set r { s.cen[r] with computed := none, latest := some c.record } := by
  rw [h.proveDecided.frame, h.closeRun.moved.frame, h.proveReady.frame, h.moved.frame, State.payObligation_eq,
    h.kept.frame, h.totals.cen]

theorem smc : decided.smc = sampled.smc := by
  rw [h.proveDecided.frame, h.closeRun.moved.frame, h.proveReady.frame]

theorem readySmc : ready.smc = decided.smc := by
  rw [h.smc, h.proveReady.frame]

/-- The alarms of no owner after the sampler stand as the sampler's part left them. -/
theorem alarm_of_sampled {a : AlarmId} (hprove : a ≠ .station .proveFailed) (harchive : a ≠ .station .archiveFull) :
    decided.alarm a = sampled.alarm a :=
  ((h.proveDecided.other a hprove).trans (h.closeRun.moved.other a harchive)).trans (h.proveReady.other a hprove)

theorem flowNoBatch : decided.alarm (.station .flowNoBatch) = credited.alarm (.station .flowNoBatch) := by
  have hjudged : judged.alarms = credited.alarms := by rw [h.kept.frame]
  have hpaid : (judged.payObligation r c).alarms = credited.alarms := by
    rw [State.payObligation_eq]
    exact hjudged
  exact ((h.alarm_of_sampled (by simp) (by simp)).trans (h.moved.other _ (by simp) (by simp))).trans
    (State.alarm_eq_of_alarms_eq hpaid _)

/-- The alarms of the sampler before its part are those of the start of the crediting. -/
theorem paidAlarm {a : AlarmId} (ha : a ≠ .station .flowNoBatch) : (judged.payObligation r c).alarm a = s.alarm a := by
  have hpaid : (judged.payObligation r c).alarms = credited.alarms := by
    rw [State.payObligation_eq, h.kept.frame]
  exact (State.alarm_eq_of_alarms_eq hpaid a).trans (h.totals.other a ha)

/-! ### The batches -/

theorem readyActive : ready.ret.active = (judged.payObligation r c).ret.active.map
    (Batch.sampledAs g ((judged.payObligation r c).marksOff c.record.target c.record.gsv)) := by
  rw [← h.moved.active, h.proveReady.ret]

theorem readyEnding : ready.ret.ending = (judged.payObligation r c).ret.ending.map
    (Batch.sampledAs g ((judged.payObligation r c).marksOff c.record.target c.record.gsv)) := by
  rw [← h.moved.ending, h.proveReady.ret]

theorem decidedActive : decided.ret.active = ready.ret.active := by
  rw [h.proveDecided.ret]
  exact h.closeRun.active

theorem decidedEnding : decided.ret.ending = closed.ret.ending := by rw [h.proveDecided.ret]

theorem sampled_live {b : Batch} (hb : b ∈ (judged.payObligation r c).liveBatches) :
    b.sampledAs g ((judged.payObligation r c).marksOff c.record.target c.record.gsv) ∈ ready.liveBatches := by
  rcases State.mem_live_iff.mp hb with hb | hb
  · exact State.mem_live_active (by rw [h.readyActive, hb]; rfl)
  · exact State.mem_live_ending (by rw [h.readyEnding]; exact List.mem_map_of_mem hb)

/-- A live batch of the start of the crediting, when its obligation is paid. -/
theorem paid_live {b : Batch} (hb : b ∈ s.liveBatches) :
    ∃ m ∈ (judged.payObligation r c).liveBatches, (s.creditedBatch r c b).JudgedFrom m := by
  have hcredited : s.creditedBatch r c b ∈ credited.liveBatches := by
    rcases State.mem_live_iff.mp hb with hb | hb
    · refine State.mem_live_active ?_
      rw [h.totals.ret]
      exact congrArg (Option.map _) hb
    · refine State.mem_live_ending ?_
      rw [h.totals.ret]
      exact List.mem_map_of_mem hb
  obtain ⟨b', hb', hfrom⟩ := State.batchTests_live h.creditedIds c.record.target (leavingRun r c.record) hcredited
  rw [← h.tests] at hb'
  obtain ⟨m, hm, hpaid⟩ := State.payObligation_live (r := r) (c := c) hb'
  exact ⟨m, hm, hfrom.trans hpaid⟩

/-- An ENDING batch of the start of the crediting, before the close tests. -/
theorem ending_ready {b : Batch} (hb : b ∈ s.ret.ending) :
    (c.paidEnding r (s.creditedBatch r c b)).sampledAs g
      ((judged.payObligation r c).marksOff c.record.target c.record.gsv) ∈ ready.ret.ending := by
  obtain ⟨ended, hending⟩ := h.kept.ending
  rw [h.readyEnding, State.payObligation_eq]
  refine List.mem_map_of_mem (List.mem_map_of_mem ?_)
  rw [hending, h.totals.ret]
  exact List.mem_append_left _ (List.mem_map_of_mem hb)

/-- A batch held at the end of the crediting is one that was live before the close tests, but for ARCHIVE_WAIT. -/
theorem decided_live {x : Batch} (hx : x ∈ decided.liveBatches) : ∃ y ∈ ready.liveBatches, y.SameButWait x := by
  rcases State.mem_live_iff.mp hx with hx | hx
  · exact ⟨x, State.mem_live_active (h.decidedActive ▸ hx), .refl x⟩
  · rw [h.decidedEnding] at hx
    obtain ⟨y, hy, hsame⟩ := h.closeRun.back x hx
    exact ⟨y, State.mem_live_ending hy, hsame⟩

end State.CreditPhases

end Sys2Proof.Machine
end

section
/-! The crediting of a computed period (O35). -/

namespace Sys2Proof.Machine

set_option Elab.async false

/-- The owing runs of an ENDING batch after a crediting (R112, R113). -/
theorem ComputedPeriod.paidEnding_owing (s : State) (r : Run) (c : ComputedPeriod) (b : Batch) : (c.paidEnding r (s.creditedBatch r c b)).owing
    = if c.pays b.record.id then b.owing.set r false else b.owing := by
  have howing : (s.creditedBatch r c b).owing = b.owing := by
    unfold State.creditedBatch
    split <;> rfl
  unfold ComputedPeriod.paidEnding
  rw [State.creditedBatch_record]
  split
  · exact congrArg (fun o : RunSet => o.set r false) howing
  · exact howing

theorem ComputedPeriod.paidEnding_record (s : State) (r : Run) (c : ComputedPeriod) (b : Batch) :
    (c.paidEnding r (s.creditedBatch r c b)).record = b.record :=
  (congrArg Batch.record (c.paidEnding_from r (s.creditedBatch r c b))).trans (State.creditedBatch_record b)

theorem Batch.SameButWait.record {x y : Batch} (h : x.SameButWait y) : y.record = x.record := by
  unfold Batch.SameButWait at h
  rw [h]

theorem Batch.SameButWait.owing {x y : Batch} (h : x.SameButWait y) : y.owing = x.owing := by
  unfold Batch.SameButWait at h
  rw [h]

theorem State.ProveFailed.capture_of_run {s t : State} {cause : ProveCause} {r : Run} (h : State.ProveFailed cause s t)
    (hrun : s.proveRun = r) : t.pulses[r].capture = none ∧ t.pulses[r].watch = none := by
  subst hrun
  exact h.capture

namespace State.CreditPhases

variable {s credited judged sampled ready closed decided : State} {r : Run} {c : ComputedPeriod}
  {g : Nat → Sampling → Sampling} (h : s.CreditPhases r c credited judged sampled ready closed decided g)

include h

/-! ### The one retained update (R94) -/

theorem banks (hset : s.Settled) (hseq : c.record.seq ≠ s.ret.periodSeq[r]) :
    decided.settle.current ≠ s.current
      ∧ decided.settle.currentBank = ⟨decided.settle.ret, s.currentBank.generation + 1, true⟩
      ∧ (s.current = .a → decided.settle.bankA = s.bankA) ∧ (s.current = .b → decided.settle.bankB = s.bankB) := by
  have hmoved := h.decidedMoved
  have hbank : decided.currentBank = s.currentBank := by
    rw [hmoved]
    rfl
  have hcurrent : decided.current = s.current := by rw [hmoved]
  have hbankA : decided.bankA = s.bankA := by rw [hmoved]
  have hbankB : decided.bankB = s.bankB := by rw [hmoved]
  have hperiod : decided.ret.periodSeq = s.ret.periodSeq.set r c.record.seq := by
    rw [h.ret]
    rfl
  have hchanged : decided.ret ≠ decided.currentBank.content := by
    rw [hbank]
    intro heq
    rw [heq.trans hset.symm] at hperiod
    refine hseq ?_
    have hself : (s.ret.periodSeq.set r c.record.seq)[r] = c.record.seq := Vector.getElem_set_self _
    rw [← hself, ← hperiod]
  have hsettle : decided.settle = decided.retainedUpdate := if_neg hchanged
  obtain ⟨hnew, hother, ha, hb, hframe⟩ := decided.retainedUpdate_of_current
  rw [hsettle, ← hbankA, ← hbankB, ← hcurrent, ← hbank]
  refine ⟨hother, hnew.trans ?_, ha, hb⟩
  rw [show decided.retainedUpdate.ret = decided.ret by rw [hframe]]

/-! ### The batches held (R90, R93, R158) -/

theorem held_image {id : Nat} {b b' : Batch} (hb : s.heldBatch? id = some b) (hb' : decided.heldBatch? id = some b') :
    ∃ m ∈ (judged.payObligation r c).liveBatches, (s.creditedBatch r c b).JudgedFrom m
      ∧ (m.sampledAs g ((judged.payObligation r c).marksOff c.record.target c.record.gsv)).SameButWait b' := by
  obtain ⟨hlive, hid⟩ := State.heldBatch?_spec hb
  obtain ⟨hlive', hid'⟩ := State.heldBatch?_spec hb'
  obtain ⟨m, hm, hfrom⟩ := h.paid_live hlive
  obtain ⟨y, hy, hsame⟩ := h.decided_live hlive'
  have hrecord : m.record = b.record := (congrArg Batch.record hfrom).trans (State.creditedBatch_record b)
  have hrecord' : b'.record = y.record := hsame.record
  have hyid : y.record.id = m.record.id := by rw [hrecord, hid, ← hrecord', hid']
  have heq := List.inj_on_of_nodup_map h.readyIds.live hy (h.sampled_live hm) hyid
  exact ⟨m, hm, hfrom, heq ▸ hsame⟩

/-- A batch held before and after a crediting, up to its end moment, owing runs, sampling items and three flags. -/
theorem held_eq {id : Nat} {b b' : Batch} (hb : s.heldBatch? id = some b) (hb' : decided.heldBatch? id = some b') :
    b' = { s.creditedBatch r c b with
      endTime := b'.endTime, endReason := b'.endReason, owing := b'.owing, sampling := b'.sampling
      flags := { (s.creditedBatch r c b).flags with
        targetReached := b'.flags.targetReached, samplingOff := b'.flags.samplingOff
        archiveWait := b'.flags.archiveWait } } := by
  obtain ⟨m, -, hfrom, hsame⟩ := h.held_image hb hb'
  unfold Batch.SameButWait Batch.sampledAs at hsame
  rw [hsame, hfrom]

theorem paidEnable : (judged.payObligation r c).ret.enable = s.ret.enable := by
  rw [State.payObligation_eq, h.kept.ret, h.totals.ret]
  rfl

theorem held_sampling {id : Nat} {b b' : Batch} (hb : s.heldBatch? id = some b) (hb' : decided.heldBatch? id = some b') :
    b'.sampling = g id b.sampling ∧ b'.flags.samplingOff
      = (b.flags.samplingOff || decide (s.ret.enable = .off ∧ c.record.target = .batch id ∧ 0 < c.record.gsv)) := by
  obtain ⟨m, -, hfrom, hsame⟩ := h.held_image hb hb'
  obtain ⟨-, hid⟩ := State.heldBatch?_spec hb
  have hcredited : (s.creditedBatch r c b).sampling = b.sampling
      ∧ (s.creditedBatch r c b).flags.samplingOff = b.flags.samplingOff := by
    unfold State.creditedBatch
    split <;> exact ⟨rfl, rfl⟩
  obtain ⟨hsampling, hoff⟩ := hcredited
  have hmid : m.record.id = id := by rw [congrArg Batch.record hfrom, State.creditedBatch_record, hid]
  refine ⟨(congrArg Batch.sampling hsame).trans ?_, (congrArg (·.flags.samplingOff) hsame).trans ?_⟩
  · show g m.record.id m.sampling = _
    rw [hmid, congrArg Batch.sampling hfrom, hsampling]
  · show (m.flags.samplingOff || State.marksOff _ _ _ m.record.id) = _
    rw [hmid, congrArg (·.flags.samplingOff) hfrom, hoff, State.marksOff, h.paidEnable]

/-- The batch that the crediting names (R90, R93). -/
theorem credited_held {id : Nat} {b b' : Batch} (htarget : c.record.target = .batch id) (hb : s.heldBatch? id = some b)
    (hb' : decided.heldBatch? id = some b') :
    b'.totals = b.totals.add c.record.quantities ∧ b'.sums = b.sums.add c.record
      ∧ b'.sumSW = b.sumSW + c.record.sw.value * c.record.iv
      ∧ b'.sumRho = b.sumRho + c.record.rho.value * c.record.iv
      ∧ b'.record = b.record ∧ b'.flags.record = b.flags.record.union c.record.flags
      ∧ b'.contributions = creditContributions r c.record s.ret.runTotals[r]
          (s.ret.runTotals[r].add c.record.quantities) b.contributions := by
  have heq := h.held_eq hb hb'
  obtain ⟨-, hid⟩ := State.heldBatch?_spec hb
  have hcredited : s.creditedBatch r c b
      = b.credit r c.record s.ret.runTotals[r] (s.ret.runTotals[r].add c.record.quantities) := by
    rw [State.creditedBatch_batch htarget]
    exact if_pos hid
  rw [hcredited] at heq
  rw [heq]
  exact ⟨rfl, rfl, rfl, rfl, rfl, rfl, rfl⟩

/-- A batch that the crediting does not name. -/
theorem other_held {id : Nat} {b b' : Batch} (htarget : c.record.target ≠ .batch id) (hb : s.heldBatch? id = some b)
    (hb' : decided.heldBatch? id = some b') :
    b'.totals = b.totals ∧ b'.sums = b.sums ∧ b'.contributions = b.contributions := by
  have heq := h.held_eq hb hb'
  obtain ⟨-, hid⟩ := State.heldBatch?_spec hb
  have hcredited : s.creditedBatch r c b = b := if_neg (hid ▸ htarget)
  rw [hcredited] at heq
  rw [heq]
  exact ⟨rfl, rfl, rfl⟩

/-! ### The ACTIVE batch and the ENDING batches -/

/-- An ACTIVE batch that the crediting does not name, or that has no target, stays ACTIVE (R115). -/
theorem active_stays {b : Batch} (hb : s.ret.active = some b)
    (hnot : c.record.target ≠ .batch b.record.id ∨ b.record.target = none) :
    decided.ret.endPending = s.ret.endPending ∧ ∃ x : Batch, decided.ret.active = some x ∧ x.record = b.record := by
  have hactive : credited.ret.active = some (s.creditedBatch r c b) := by
    rw [h.totals.ret]
    exact congrArg (Option.map _) hb
  have hself : judged = credited := by
    rw [h.tests]
    refine State.batchTests_none fun a ha hcredit => ?_
    obtain rfl := Option.some.inj (hactive.symm.trans ha)
    rw [State.creditedBatch_record] at hcredit ⊢
    exact hnot.resolve_left fun hne => hne hcredit
  refine ⟨?_, ?_⟩
  · rw [h.ret, hself, h.totals.ret]
    rfl
  · rw [h.decidedActive, h.readyActive, State.payObligation_eq, hself, hactive]
    refine ⟨_, rfl, ?_⟩
    show (c.paidActive r (s.creditedBatch r c b)).record = b.record
    rw [congrArg Batch.record (c.paidActive_from r (s.creditedBatch r c b))]
    exact State.creditedBatch_record b

theorem active_none (hnone : s.ret.active = none) : decided.ret.active = none := by
  have hactive : credited.ret.active = none := by
    rw [h.totals.ret]
    exact congrArg (Option.map _) hnone
  have hself : judged = credited := by
    rw [h.tests]
    exact State.batchTests_none fun a ha => (by rw [hactive] at ha; cases ha)
  rw [h.decidedActive, h.readyActive, State.payObligation_eq, hself, hactive]
  rfl

theorem ending_owing {x x' : Batch} (hx : x ∈ s.ret.ending) (hx' : x' ∈ decided.ret.ending)
    (hid : x'.record.id = x.record.id) : x'.owing = if c.pays x.record.id then x.owing.set r false else x.owing := by
  rw [h.decidedEnding] at hx'
  obtain ⟨y, hy, hsame⟩ := h.closeRun.back x' hx'
  have hyid : y.record.id = x.record.id := by rw [← hid, hsame.record]
  have heq := State.ending_eq_of_id h.readyIds (h.ending_ready hx) hy (hyid.trans (congrArg BatchRecord.id (c.paidEnding_record s r x)).symm)
  rw [hsame.owing, heq]
  exact c.paidEnding_owing s r x

/-- An ENDING batch that a run still owes, or that a queued grab names, stays held (R119). -/
theorem ending_stays {b : Batch} (hb : b ∈ s.ret.ending)
    (howed : (∃ q : Run, b.owing[q] = true
        ∧ (q = r → c.record.final = false ∧ ¬ (c.closing = true ∧ c.record.target = .batch b.record.id)))
      ∨ decided.queuedGrabs b.record.id ≠ 0) : ∃ x ∈ decided.ret.ending, x.record = b.record := by
  have hready := h.ending_ready hb
  have hrecord := c.paidEnding_record s r b
  have howing := c.paidEnding_owing s r b
  rw [h.decidedEnding]
  refine ⟨_, h.closeRun.kept _ hready ((State.readyToClose_eq_false_iff _).mpr ?_), hrecord⟩
  rcases howed with ⟨q, hq, hpays⟩ | hgrab
  · refine .inl ⟨q, ?_⟩
    show (c.paidEnding r (s.creditedBatch r c b)).owing[q] = true
    rw [howing]
    split
    · next hpaid =>
      have hne : ¬ (r : Nat) = q := fun heq => by
        obtain ⟨hfinal, hclosing⟩ := hpays (Fin.ext heq.symm)
        rcases hpaid with hpaid | hpaid
        · rw [hfinal] at hpaid
          cases hpaid
        · exact hclosing hpaid
      exact (Vector.getElem_set_ne _ _ hne).trans hq
    · exact hq
  · refine .inr ?_
    show ready.queuedGrabs (c.paidEnding r (s.creditedBatch r c b)).record.id ≠ 0
    rw [hrecord]
    unfold State.queuedGrabs
    rw [h.readySmc]
    exact hgrab

/-! ### The prove and the flow (R6, R151) -/

theorem sampledPsq : sampled.psq = s.psq ∧ sampled.params = s.params ∧ sampled.clock = s.clock ∧ sampled.pulses = s.pulses := by
  have hmoved := h.moved.frame
  rw [State.payObligation_eq, h.kept.frame, h.totals.frame] at hmoved
  rw [hmoved]
  exact ⟨rfl, rfl, rfl, rfl⟩

theorem closedPsq : closed.psq = ready.psq ∧ closed.params = ready.params ∧ closed.clock = ready.clock
    ∧ closed.pulses = ready.pulses ∧ closed.ret.marker = ready.ret.marker ∧ closed.ret.lastProve = ready.ret.lastProve := by
  have hmoved := h.closeRun.moved
  refine ⟨?_, ?_, ?_, ?_, ?_, ?_⟩
  · rw [hmoved.frame]
  · rw [hmoved.frame]
  · rw [hmoved.frame]
  · rw [hmoved.frame]
  · rw [hmoved.ret]
  · rw [hmoved.ret]

theorem sampledMarker : sampled.ret.marker = s.ret.marker ∧ sampled.ret.lastProve = s.ret.lastProve := by
  rw [h.sampledRet]
  exact ⟨rfl, rfl⟩

theorem proves_sampled : sampled.proves r = s.proves r := by
  obtain ⟨hpsq, -⟩ := h.sampledPsq
  unfold State.proves
  rw [hpsq]

/-- A prove that neither the product nor the flow ends goes on as it stood. -/
theorem prove_stands (hstands : s.proves r = false ∨ c.record.final = true
      ∨ s.psq.slot = some c.record.slot ∧ s.params.meter[r].cutoff ≤ c.record.q) :
    decided.psq = s.psq ∧ decided.ret.marker = s.ret.marker ∧ decided.ret.lastProve = s.ret.lastProve := by
  obtain ⟨hpsq, hparams, -, -⟩ := h.sampledPsq
  obtain ⟨hmarker, hlast⟩ := h.sampledMarker
  have hready : ready = sampled := by
    rw [h.product]
    refine State.productTest_stands ?_
    rw [h.proves_sampled, hpsq]
    exact hstands.imp id (Or.imp id And.left)
  obtain ⟨hpsq', hparams', -, -, hmarker', hlast'⟩ := h.closedPsq
  have hdecided : closed.FlowDecided decided r := by
    rw [h.flow]
    refine State.decideFlow_stands ?_
    unfold State.proves
    rw [hpsq', hparams', hready, hpsq, hparams]
    exact hstands.imp id (Or.imp id And.right)
  rw [hready] at hpsq' hmarker' hlast'
  rw [hdecided.frame]
  exact ⟨hpsq'.trans hpsq, hmarker'.trans hmarker, hlast'.trans hlast⟩

/-- What a prove that a crediting fails leaves (R151). -/
theorem prove_fails (cause : ProveCause) (hproves : s.proves r = true) (hfinal : c.record.final = false)
    (hcause : s.psq.slot ≠ some c.record.slot ∧ cause = .productChange
      ∨ s.psq.slot = some c.record.slot ∧ c.record.q < s.params.meter[r].cutoff ∧ cause = .flowStopped) :
    decided.psq = s.psq.toIdle ∧ decided.alarmRaised (.station .proveFailed) = true
      ∧ decided.pulses[r].capture = none ∧ decided.pulses[r].watch = none
      ∧ decided.flags.proveFinished = true
      ∧ ∀ m : ProveMarker, s.ret.marker = some m → decided.ret.marker = none
        ∧ decided.ret.lastProve = s.ret.lastProve.set m.run
            (some ⟨s.clock, m.startTime, m.slot, s.psq.attempts, .failed cause⟩) := by
  obtain ⟨hpsq, hparams, hclock, hpulses⟩ := h.sampledPsq
  obtain ⟨hmarker, hlast⟩ := h.sampledMarker
  obtain ⟨hpsq', hparams', hclock', hpulses', hmarker', hlast'⟩ := h.closedPsq
  have hrun : s.proveRun = r := by
    unfold State.proves at hproves
    rw [Bool.and_eq_true, decide_eq_true_eq] at hproves
    unfold State.proveRun
    rw [hproves.2]
    rfl
  rcases hcause with ⟨hslot, rfl⟩ | ⟨hslot, hcutoff, rfl⟩
  · have hfailed : State.ProveFailed .productChange sampled ready := by
      rw [h.product, State.productTest_fails (h.proves_sampled.trans hproves) hfinal (hpsq ▸ hslot)]
      exact sampled.failProve_failed _
    have hdecided : closed.FlowDecided decided r := by
      rw [h.flow]
      refine State.decideFlow_stands (.inl ?_)
      unfold State.proves
      rw [hpsq', hfailed.psq]
      rfl
    have hsampledRun : sampled.proveRun = r := by
      unfold State.proveRun
      rw [hpsq]
      exact hrun
    have hcapture := hfailed.capture_of_run hsampledRun
    rw [← hpulses', ← hdecided.capture.1, ← hdecided.capture.2] at hcapture
    have hraised : closed.alarmRaised (.station .proveFailed) = true :=
      (State.alarmRaised_congr (h.closeRun.moved.other _ (by simp))).trans hfailed.raised
    have hfinished : closed.flags.proveFinished = true := by
      rw [h.closeRun.moved.flags]
      exact hfailed.finished
    have hpsqDecided : decided.psq = closed.psq := by rw [hdecided.frame]
    have hretDecided : decided.ret = closed.ret := by rw [hdecided.frame]
    have halarms : decided.alarms = closed.alarms := by rw [hdecided.frame]
    have hflags : decided.flags = closed.flags := by rw [hdecided.frame]
    refine ⟨?_, ?_, hcapture.1, hcapture.2, ?_, fun m hm => ?_⟩
    · rw [hpsqDecided, hpsq', hfailed.psq, hpsq]
    · exact (State.alarmRaised_congr (State.alarm_eq_of_alarms_eq halarms _)).trans hraised
    · rw [hflags, hfinished]
    · rw [hretDecided, hmarker', hlast', hfailed.ret, Retained.proveEnded_of_marker (hmarker.trans hm), hlast, hclock, hpsq]
      exact ⟨rfl, rfl⟩
  · have hready : ready = sampled := by
      rw [h.product]
      exact State.productTest_stands (.inr (.inr (hpsq ▸ hslot)))
    rw [hready] at hpsq' hparams' hclock' hpulses' hmarker' hlast'
    have hprovesClosed : closed.proves r = true := by
      unfold State.proves
      rw [hpsq', hpsq]
      exact hproves
    obtain ⟨v, hv⟩ : ∃ v, v = closed.modRun r fun x => { x with flow := some .noFlow } := ⟨_, rfl⟩
    have hfailed : State.ProveFailed .flowStopped v decided := by
      rw [h.flow, State.decideFlow_fails hprovesClosed hfinal (by rw [hparams', hparams]; exact hcutoff), ← hv]
      exact v.failProve_failed _
    have hvpsq : v.psq = s.psq := by
      rw [hv]
      exact hpsq'.trans hpsq
    have hvret : v.ret = closed.ret := by rw [hv]; rfl
    have hvclock : v.clock = s.clock := by
      rw [hv]
      exact hclock'.trans hclock
    have hvRun : v.proveRun = r := by
      unfold State.proveRun
      rw [hvpsq]
      exact hrun
    have hcapture := hfailed.capture_of_run hvRun
    refine ⟨by rw [hfailed.psq, hvpsq], hfailed.raised, hcapture.1, hcapture.2, hfailed.finished, fun m hm => ?_⟩
    have hvm : v.ret.marker = some m := by rw [hvret, hmarker', hmarker, hm]
    rw [hfailed.ret, Retained.proveEnded_of_marker hvm, hvret, hlast', hlast, hvclock, hvpsq]
    exact ⟨rfl, rfl⟩

theorem flow_final (hfinal : c.record.final = true) : decided.pulses[r].flow = s.pulses[r].flow := by
  obtain ⟨-, -, -, hpulses⟩ := h.sampledPsq
  obtain ⟨-, -, -, hpulses', -⟩ := h.closedPsq
  have hready : ready = sampled := by
    rw [h.product]
    exact State.productTest_stands (.inr (.inl hfinal))
  rw [h.flow, State.decideFlow_final hfinal, hpulses', hready, hpulses]

theorem flow_full (hfinal : c.record.final = false) : decided.pulses[r].flow
    = some (if s.params.meter[r].cutoff ≤ c.record.q then .flowing else .noFlow) := by
  have hparams : closed.params = s.params := by
    rw [(h.sampledMoved.trans h.proveReady.credit).trans h.closeRun.moved.credit]
  rw [h.flow, State.decideFlow_flow hfinal, hparams]

end State.CreditPhases

end Sys2Proof.Machine
end

section
/-! The sampler's part of a crediting, and the statement (O35). -/

namespace Sys2Proof.Machine

set_option Elab.async false

/-! ### Batches backward -/

section Back

variable {s : State} {b' : Batch} {r : Run} {c : ComputedPeriod}

theorem State.batchTests_back (hids : s.ret.BatchIdsDistinct) {credit : CreditTarget} {leaving : Option Run}
    (hb : b' ∈ (s.batchTests credit leaving).liveBatches) : ∃ b ∈ s.liveBatches, b.JudgedFrom b' := by
  rcases State.batchTests_cases hids credit leaving with hself | ⟨a, target, hactive, -, hjudged⟩
  · exact ⟨b', hself ▸ hb, .refl b'⟩
  · generalize s.batchTests credit leaving = t at hb hjudged
    rcases hjudged.outcome with ⟨hending, a', hstays, hfrom⟩ | ⟨hnone, a', hends, hfrom⟩
    · rcases State.mem_live_iff.mp hb with hb | hb
      · obtain rfl := Option.some.inj (hstays.symm.trans hb)
        exact ⟨a, State.mem_live_active hactive, hfrom⟩
      · exact ⟨b', State.mem_live_ending (hending ▸ hb), .refl b'⟩
    · rcases State.mem_live_iff.mp hb with hb | hb
      · rw [hnone] at hb
        cases hb
      · rw [hends] at hb
        rcases List.mem_append.mp hb with hb | hb
        · exact ⟨b', State.mem_live_ending hb, .refl b'⟩
        · rw [List.mem_singleton.mp hb]
          exact ⟨a, State.mem_live_active hactive, hfrom⟩

theorem State.payObligation_back (hb : b' ∈ (s.payObligation r c).liveBatches) :
    ∃ b ∈ s.liveBatches, b.JudgedFrom b' := by
  rw [State.payObligation_eq] at hb
  rcases State.mem_live_iff.mp hb with hb | hb
  · obtain ⟨b, hactive, rfl⟩ := Option.map_eq_some_iff.mp hb
    exact ⟨b, State.mem_live_active hactive, c.paidActive_from r b⟩
  · obtain ⟨b, hending, rfl⟩ := List.mem_map.mp hb
    exact ⟨b, State.mem_live_ending hending, c.paidEnding_from r b⟩

theorem Batch.JudgedFrom.record {b : Batch} (h : b.JudgedFrom b') : b'.record = b.record := by
  unfold Batch.JudgedFrom at h
  rw [h]

end Back

namespace State.CreditPhases

variable {s credited judged sampled ready closed decided : State} {r : Run} {c : ComputedPeriod}
  {g : Nat → Sampling → Sampling} (h : s.CreditPhases r c credited judged sampled ready closed decided g)

include h

theorem paid_held_none {id : Nat} (hnone : s.heldBatch? id = none) : (judged.payObligation r c).heldBatch? id = none := by
  refine Option.eq_none_iff_forall_ne_some.mpr fun m hm => ?_
  obtain ⟨hlive, hid⟩ := State.heldBatch?_spec hm
  obtain ⟨b', hb', hpaid⟩ := State.payObligation_back hlive
  rw [h.tests] at hb'
  obtain ⟨x, hx, hjudged⟩ := State.batchTests_back h.creditedIds hb'
  have hrecord : m.record = x.record := hpaid.record.trans hjudged.record
  have hsource : ∃ b ∈ s.liveBatches, x = s.creditedBatch r c b := by
    rcases State.mem_live_iff.mp hx with hx | hx
    · rw [h.totals.ret] at hx
      obtain ⟨b, hb, rfl⟩ := Option.map_eq_some_iff.mp (show s.ret.active.map _ = _ from hx)
      exact ⟨b, State.mem_live_active hb, rfl⟩
    · rw [h.totals.ret] at hx
      obtain ⟨b, hb, rfl⟩ := List.mem_map.mp (show x ∈ s.ret.ending.map _ from hx)
      exact ⟨b, State.mem_live_ending hb, rfl⟩
  obtain ⟨b, hb, rfl⟩ := hsource
  have hsome := State.heldBatch?_isSome hb
  rw [← State.creditedBatch_record (s := s) (r := r) (c := c) b, ← hrecord, hid, hnone] at hsome
  cases hsome

theorem paidSmc : (judged.payObligation r c).smc = s.smc := by
  rw [State.payObligation_eq, h.kept.frame, h.totals.frame]

/-- Without a batch to take the volume, or with the enable OFF, the sampler stands (R158, R160). -/
theorem sampler_stands (hnone : (∀ id : Nat, c.record.target = .batch id → s.heldBatch? id = none) ∨ s.ret.enable = .off) :
    decided.smc = s.smc ∧ g = fun _ x => x := by
  obtain ⟨hsmc, hg⟩ := h.unserved (hnone.imp (fun hheld id htarget => h.paid_held_none (hheld id htarget))
    fun hoff => h.paidEnable.trans hoff)
  exact ⟨(h.smc.trans hsmc).trans h.paidSmc, hg⟩

theorem paidContent : (judged.payObligation r c).ret.selectedCan = s.ret.selectedCan
    ∧ (judged.payObligation r c).ret.canCount1 = s.ret.canCount1 ∧ (judged.payObligation r c).ret.canCount2 = s.ret.canCount2
    ∧ (judged.payObligation r c).params = s.params ∧ (judged.payObligation r c).now = s.now := by
  have hret : (judged.payObligation r c).ret.selectedCan = s.ret.selectedCan
      ∧ (judged.payObligation r c).ret.canCount1 = s.ret.canCount1
      ∧ (judged.payObligation r c).ret.canCount2 = s.ret.canCount2 := by
    rw [State.payObligation_eq, h.kept.ret, h.totals.ret]
    exact ⟨rfl, rfl, rfl⟩
  have hmoved := h.paidMoved
  refine ⟨hret.1, hret.2.1, hret.2.2, ?_, ?_⟩
  · rw [hmoved]
  · rw [hmoved]

/-- With the enable ON the sampler takes the volume of the batch that is held (R158 to R164). -/
theorem sampler_serves {id : Nat} {b : Batch} (htarget : c.record.target = .batch id) (hb : s.heldBatch? id = some b)
    (henable : s.ret.enable = .on) : s.GrabsServed g decided b c.record.gsv := by
  obtain ⟨hlive, hid⟩ := State.heldBatch?_spec hb
  obtain ⟨m, hm, hfrom⟩ := h.paid_live hlive
  have hcredited : (s.creditedBatch r c b).sampling = b.sampling ∧ (s.creditedBatch r c b).can = b.can := by
    unfold State.creditedBatch
    split <;> exact ⟨rfl, rfl⟩
  have hmid : m.record.id = b.record.id :=
    congrArg BatchRecord.id (hfrom.record.trans (State.creditedBatch_record b))
  have hmsampling : m.sampling = b.sampling := (congrArg Batch.sampling hfrom).trans hcredited.1
  have hmcan : m.can = b.can := (congrArg Batch.can hfrom).trans hcredited.2
  have hheld : (judged.payObligation r c).heldBatch? id = some m := by
    rw [← hid, ← hmid]
    exact State.heldBatch?_of_mem h.paidIds hm
  have hserved := h.served id m htarget hheld (h.paidEnable.trans henable)
  obtain ⟨hcan, hcan1, hcan2, hparams, hnow⟩ := h.paidContent
  have hsmc := h.paidSmc
  have hmissed : (judged.payObligation r c).alarm (.station .samplerMissed) = s.alarm (.station .samplerMissed) :=
    h.paidAlarm (by simp)
  have hdecided := h.smc
  have hretCan : decided.ret.selectedCan = sampled.ret.selectedCan ∧ decided.ret.canCount1 = sampled.ret.canCount1
      ∧ decided.ret.canCount2 = sampled.ret.canCount2 := by
    rw [h.ret]
    exact ⟨rfl, rfl, rfl⟩
  obtain ⟨hselected, hcount1, hcount2⟩ := hretCan
  have halarm {a : AlarmId} (h1 : a ≠ .station .proveFailed) (h2 : a ≠ .station .archiveFull) :
      decided.alarm a = sampled.alarm a := h.alarm_of_sampled h1 h2
  generalize judged.payObligation r c = paid at *
  have hvolume : paid.grabVolume = s.grabVolume := by
    unfold State.grabVolume
    rw [hparams]
  have hdue : paid.grabsDue m c.record.gsv = s.grabsDue b c.record.gsv := by
    unfold State.grabsDue
    rw [hvolume, hmsampling]
  have hplaced (n : Nat) : paid.placed n = s.placed n := by
    unfold State.placed
    rw [hsmc]
  have hqueue : paid.creditedQueue m c.record.gsv = s.creditedQueue b c.record.gsv := by
    unfold State.creditedQueue
    rw [hdue, hplaced, hsmc, hmid, hmcan]
  have hsampling : paid.creditedSampling m c.record.gsv = s.creditedSampling b c.record.gsv := by
    unfold State.creditedSampling
    rw [hdue, hplaced, hvolume, hmid, hmsampling]
  have hcount (x : Can) : paid.canCount x = s.canCount x := by
    unfold State.canCount
    cases x
    exacts [hcan1, hcan2]
  have hcount' (x : Can) : decided.canCount x = sampled.canCount x := by
    unfold State.canCount
    cases x
    exacts [hcount1, hcount2]
  have hfull (x : Can) : paid.canIsFull x = s.canIsFull x := by
    unfold State.canIsFull
    rw [hcount, hparams, hsmc]
  refine ⟨fun hlt hclear => ?_, fun hrest => ?_, fun e rest hready he hne => ?_, fun e rest hready he heq hf => ?_,
    fun e rest hready he heq hf => ?_⟩
  · rw [halarm (by simp) (by simp)]
    refine hserved.missed ?_ ((State.alarmRaised_congr hmissed).trans hclear)
    rw [hdue, hplaced]
    exact hlt
  · have hold := hserved.rest (by rw [hsmc, hqueue]; exact hrest)
    rw [hsmc, hqueue, hcan, hsampling] at hold
    rw [hdecided, hselected]
    exact hold
  · have hold := hserved.swap e rest (by rw [hsmc]; exact hready) (hqueue.trans he) (by rw [hcan]; exact hne)
    rw [hsmc, hqueue, hsampling, hnow] at hold
    rw [hdecided, hselected]
    exact hold
  · obtain ⟨hs, hraised, hg⟩ := hserved.halt e rest (by rw [hsmc]; exact hready) (hqueue.trans he) (heq.trans hcan.symm)
      ((hfull _).trans hf)
    rw [hsmc] at hs
    rw [hqueue, hsampling] at hg
    rw [hdecided]
    exact ⟨hs, (State.alarmRaised_congr (halarm (by simp) (by simp))).trans hraised, hg⟩
  · obtain ⟨hs, htaken, hg⟩ := hserved.grab e rest (by rw [hsmc]; exact hready) (hqueue.trans he) (heq.trans hcan.symm)
      ((hfull _).trans hf)
    rw [hsmc, hnow, hparams] at hs
    rw [hsampling] at hg
    rw [hcount] at htaken
    rw [hdecided, hcount']
    exact ⟨hs, htaken, hg⟩

end State.CreditPhases

/-- A newly opened contribution holds what the record gives it alone. -/
theorem newContribution_credit (r : Run) (rec : PeriodRecord) (before after : CumulativeTotals) :
    ((newContribution r before).credit rec after).totals = rec.quantities
      ∧ ((newContribution r before).credit rec after).sums = Sums.zero.add rec := by
  refine ⟨?_, rfl⟩
  show Quantities.zero.add rec.quantities = rec.quantities
  unfold Quantities.add Quantities.zero
  simp only [Nat.zero_add]

/-- What a credited batch's sampling items become is what the statement names, for a batch held under the id. -/
theorem State.creditedSampling_held {s : State} {id j : Nat} {b x : Batch} (gsv : Nat) (hb : s.heldBatch? id = some b)
    (hx : s.heldBatch? j = some x) : s.creditedSampling b gsv j x.sampling
      = if j = id then ⟨(x.sampling.accumulator + gsv) % (s.params.station.grabVolume * 1000),
          x.sampling.due + s.grabsDue b gsv, x.sampling.taken,
          x.sampling.missed + (s.grabsDue b gsv - s.placed (s.grabsDue b gsv))⟩
        else x.sampling := by
  obtain ⟨-, hid⟩ := State.heldBatch?_spec hb
  unfold State.creditedSampling Sampling.changedAt
  rw [hid]
  by_cases hj : j = id
  · obtain rfl := Option.some.inj (hb.symm.trans (hj ▸ hx))
    rw [if_pos hj, if_pos hj]
    rfl
  · rw [if_neg hj, if_neg hj]

/-- Settles O35: the crediting in its phases (`State.CreditPhases`), each conjunct by the lemma of its subject. -/
theorem creditingAddsEverythingOnce : Obligations.CreditingAddsEverythingOnce := by
  intro s r c hrun hids hc
  obtain ⟨credited, judged, sampled, ready, closed, g, h⟩ := State.creditStep_phases hrun hids hc
  have hexec : exec (.periodCrediting r) s = .next (creditStep r s).settle := exec_of_event hrun rfl
  generalize creditStep r s = decided at h hexec
  have hbanks := h.banks
  have hret := h.ret
  have hmoved := h.decidedMoved
  have hsettled : decided.settle.Settled := State.settled_settle
  have hsettle := decided.settle_eq_with
  refine ⟨decided.settle, hexec, hsettled, hbanks, ?_⟩
  clear hbanks
  generalize decided.settle.bankA = bankA at hsettle
  generalize decided.settle.bankB = bankB at hsettle
  generalize decided.settle.current = current at hsettle
  rw [hsettle]
  have hafter : decided.ret.runTotals[r] = s.ret.runTotals[r].add c.record.quantities := by
    rw [hret]
    exact Vector.getElem_set_self _
  refine ⟨by rw [hret]; rfl, by rw [hret]; rfl, by rw [hret]; rfl, by rw [hret]; rfl, by rw [hret]; rfl,
    by rw [hret]; rfl, h.cen, fun id b b' htarget hb hb' => ?_, fun b hb hnot => h.active_stays hb hnot, h.active_none,
    fun b hb howed => h.ending_stays hb howed, fun htarget hiv => ?_, fun hnone => ?_,
    fun id b b' htarget hb hb' => h.other_held htarget hb hb', h.flow_final, h.flow_full, h.prove_stands,
    fun cause hproves hfinal hcause => ?_, fun x hx x' hx' hid => ?_, fun hnone => ?_,
    fun id x x' hx hx' => (h.held_sampling hx hx').2, ?_, ?_⟩
  · obtain ⟨htotals, hsums, hsw, hrho, hrecord, hflags, hcontributions⟩ := h.credited_held htarget hb hb'
    refine ⟨htotals, hsums, hsw, hrho, hrecord, hflags, ?_, fun x hx => ?_, fun hsorted x hx hxr => ?_⟩
    · rw [hcontributions, hafter]
      obtain ⟨y, hy, hmem⟩ := exists_creditContributions (r := r) (rec := c.record) (before := s.ret.runTotals[r])
        (after := s.ret.runTotals[r].add c.record.quantities) b.contributions
      exact ⟨_, hmem, hy, rfl, rfl⟩
    · rw [hcontributions]
      exact mem_creditContributions_of_ne hx
    · rw [hcontributions] at hx
      obtain ⟨hnew, hown⟩ := own_creditContributions hsorted hx hxr
      refine ⟨fun hfirst => ?_, fun y hy hyr => ?_⟩
      · obtain ⟨hnewTotals, hnewSums⟩ := newContribution_credit r c.record s.ret.runTotals[r]
          (s.ret.runTotals[r].add c.record.quantities)
        rw [hnew hfirst]
        exact ⟨rfl, rfl, hnewTotals, hnewSums⟩
      · rw [hown y hy hyr]
        exact ⟨rfl, rfl, rfl, rfl⟩
  · obtain ⟨hsame, hraised⟩ := h.totals.raised htarget hiv
    exact ⟨h.flowNoBatch.trans hsame, (State.alarmRaised_congr h.flowNoBatch).trans hraised⟩
  · exact h.flowNoBatch.trans (State.alarm_eq_of_alarms_eq (h.totals.same hnone) _)
  · obtain ⟨hpsq, hraised, hcapture, hwatch, hfinished, hmarker⟩ := h.prove_fails cause hproves hfinal hcause
    rw [hpsq]
    exact ⟨rfl, rfl, rfl, hraised, hcapture, hwatch, fun m hm => ⟨hfinished, hmarker m hm⟩⟩
  · exact h.ending_owing hx hx' hid
  · obtain ⟨hsmc, hg⟩ := h.sampler_stands hnone
    refine ⟨hsmc, fun id x x' hx hx' => ?_⟩
    rw [(h.held_sampling hx hx').1, hg]
  · intro id b volume n k queue after htarget hb henable hvolume hn hk hqueue hafter
    have hserves := h.sampler_serves htarget hb henable
    obtain ⟨-, rfl⟩ := State.heldBatch?_spec hb
    subst hvolume hn hk hqueue hafter
    have hown {j : Nat} {x : Batch} (hx : s.heldBatch? j = some x) :=
      State.creditedSampling_held c.record.gsv hb hx
    refine ⟨hserves.missed, fun hrest => ?_, fun e rest hready hq => ⟨fun hcan => ?_, fun hcan hfull => ?_, fun hcan hfull => ?_⟩⟩
    · obtain ⟨hsmc, hselected, hg⟩ := hserves.rest hrest
      refine ⟨hsmc, hselected, fun j x x' hx hx' => ?_⟩
      rw [(h.held_sampling hx hx').1, hg]
      exact hown hx
    · obtain ⟨hsmc, hselected, hg⟩ := hserves.swap e rest hready hq hcan
      refine ⟨hsmc, hselected, fun j x x' hx hx' => ?_⟩
      rw [(h.held_sampling hx hx').1, hg]
      exact hown hx
    · obtain ⟨hsmc, hraised, hg⟩ := hserves.halt e rest hready hq hcan hfull
      refine ⟨hsmc, hraised, fun j x x' hx hx' => ?_⟩
      rw [(h.held_sampling hx hx').1, hg]
      dsimp only
      rw [hown hx]
      rfl
    · obtain ⟨hsmc, htaken, hg⟩ := hserves.grab e rest hready hq hcan hfull
      refine ⟨hsmc, htaken, fun j x x' hx hx' => ?_⟩
      rw [(h.held_sampling hx hx').1, hg]
      dsimp only
      rw [hown hx]
      rfl
  · rw [hmoved]

end Sys2Proof.Machine
end

section
/-! A batch with nothing owed closes at its end, or in the crediting that pays the last run (O44). -/

namespace Sys2Proof.Machine

set_option Elab.async false

/-! ### The close test of one batch -/

section CloseTest

variable {s u : State} {b x : Batch}

theorem State.readyToClose_of (howing : ∀ q : Run, b.owing[q] = false) (hgrabs : s.queuedGrabs b.record.id = 0) :
    s.readyToClose b = true := by
  refine Bool.not_eq_false _ ▸ fun hfalse => ?_
  rcases (State.readyToClose_eq_false_iff b).mp hfalse with ⟨q, hq⟩ | hgrab
  · rw [howing q] at hq
    cases hq
  · exact hgrab hgrabs

theorem State.closeTests_single (h : u.ret.ending = [x]) : u.closeTests = u.closeTest x := by
  unfold State.closeTests
  rw [h]
  rfl

theorem State.closeTest_closes (hready : s.readyToClose b = true) (hplace : s.ret.pendingTickets.length < 4)
    (hcounter : s.ret.ticketCounter ≠ 0) : s.closeTest b = s.closeBatch b := by
  unfold State.closeTest State.pendingHasPlace
  rw [if_pos hready, if_pos (decide_eq_true (show _ < Config.pendingLimit from hplace)), if_neg hcounter]

theorem State.closeTest_waits (hready : s.readyToClose b = true) (hplace : 4 ≤ s.ret.pendingTickets.length) :
    s.closeTest b = s.modBatch b.record.id Batch.waitsOnArchive := by
  unfold State.closeTest State.pendingHasPlace
  rw [if_pos hready, if_neg fun h => Nat.not_lt.mpr hplace (show _ < Config.pendingLimit from of_decide_eq_true h)]

theorem State.closeTest_unnumbered (hready : s.readyToClose b = true) (hplace : s.ret.pendingTickets.length < 4)
    (hcounter : s.ret.ticketCounter = 0) : s.closeTest b = s := by
  unfold State.closeTest State.pendingHasPlace
  rw [if_pos hready, if_pos (decide_eq_true (show _ < Config.pendingLimit from hplace)), if_pos hcounter]

/-- The entries of a ticket are those of contributions with volume (R123). -/
theorem mem_ticket_entries {number : Nat} {name : Text} {cums : PerRun CumulativeTotals} {e : RunEntry}
    (h : e ∈ (buildTicket number b name cums).entries) : ∃ c ∈ b.contributions, e.run = c.run ∧ 0 < c.totals.iv := by
  obtain ⟨c, hc, rfl⟩ := List.mem_map.mp h
  obtain ⟨hmem, hiv⟩ := List.mem_filter.mp hc
  exact ⟨c, hmem, rfl, of_decide_eq_true hiv⟩

theorem ticket_entry_of_mem {number : Nat} {name : Text} {cums : PerRun CumulativeTotals} {c : Contribution}
    (hc : c ∈ b.contributions) (hiv : 0 < c.totals.iv) :
    runEntry c cums[c.run] ∈ (buildTicket number b name cums).entries :=
  List.mem_map_of_mem (List.mem_filter.mpr ⟨hc, decide_eq_true hiv⟩)

theorem State.BatchClosed.ending_nil {t : State} (h : u.BatchClosed t x) (hending : u.ret.ending = [x]) :
    t.ret.ending = [] := by
  rw [h.ending, hending]
  simp

end CloseTest

/-! ### At the end of the batch (R108) -/

section AtEnd

variable {s : State} {b : Batch}

/-- BATCH END of the one batch held is its end moment and its close test. -/
theorem exec_batchEnd_single (hr : s.Ready) (hactive : s.ret.active = some b) (hending : s.ret.ending = []) :
    exec .batchEnd s = .next { ((s.endActive b .request none).closeTest
      { b with endTime := some s.clock, endReason := some .request, owing := s.runsInService }).settle with
      reply := some (.okWith (s.endReply b)) } := by
  have hf : takeBatchEnd s = ((s.endActive b .request none).closeTests, .okWith (s.endReply b)) := by
    simp [takeBatchEnd, hactive, hending, Config.endingLimit]
  have hone : (s.endActive b .request none).ret.ending
      = [{ b with endTime := some s.clock, endReason := some .request, owing := s.runsInService }] := by
    show s.ret.ending ++ _ = _
    rw [hending]
    rfl
  rw [exec_of_request_answer hr rfl hf, State.closeTests_single hone]

/-- Nothing is owed at the end of a batch with no run in service and no grab queued. -/
theorem endActive_ready (hservice : ∀ r : Run, s.ret.service[r] = .outOfService)
    (hgrabs : s.queuedGrabs b.record.id = 0) : (s.endActive b .request none).readyToClose
      { b with endTime := some s.clock, endReason := some .request, owing := s.runsInService } = true :=
  State.readyToClose_of
    (fun q => by
      show s.runsInService[q] = false
      rw [s.runsInService_getElem, hservice]
      rfl) hgrabs

end AtEnd

/-! ### In the crediting that pays its last run (R112) -/

/-- A batch with a record credited, its run paid and the sampler's part taken. -/
def State.closingBatch (s : State) (r : Run) (c : ComputedPeriod) (g : Nat → Sampling → Sampling) (off : Nat → Bool)
    (b : Batch) : Batch :=
  ((b.credit r c.record s.ret.runTotals[r] (s.ret.runTotals[r].add c.record.quantities)).paid r).sampledAs g off

namespace State.CreditPhases

variable {s credited judged sampled ready closed decided : State} {r : Run} {c : ComputedPeriod}
  {g : Nat → Sampling → Sampling} (h : s.CreditPhases r c credited judged sampled ready closed decided g)

include h

/-- The tests are not made where the crediting names no ACTIVE batch. -/
theorem judged_of_not_active (hnot : ∀ a : Batch, s.ret.active = some a → c.record.target ≠ .batch a.record.id) :
    judged = credited := by
  rw [h.tests]
  refine State.batchTests_none fun x hx hcredit => ?_
  rw [h.totals.ret] at hx
  obtain ⟨a, ha, rfl⟩ := Option.map_eq_some_iff.mp (show s.ret.active.map _ = _ from hx)
  rw [State.creditedBatch_record] at hcredit
  exact absurd hcredit (hnot a ha)

/-- Where the crediting names no ACTIVE batch, the batches before the close tests are those of the start of it. -/
theorem ready_batches (hnot : ∀ a : Batch, s.ret.active = some a → c.record.target ≠ .batch a.record.id) :
    ready.ret.ending = s.ret.ending.map (fun b => (c.paidEnding r (s.creditedBatch r c b)).sampledAs g
        ((judged.payObligation r c).marksOff c.record.target c.record.gsv))
      ∧ ready.ret.active.map Batch.record = s.ret.active.map Batch.record := by
  have hself := h.judged_of_not_active hnot
  refine ⟨?_, ?_⟩
  · rw [h.readyEnding, State.payObligation_eq, hself, h.totals.ret]
    show ((s.ret.ending.map _).map _).map _ = _
    rw [List.map_map, List.map_map]
    rfl
  · rw [h.readyActive, State.payObligation_eq, hself, h.totals.ret]
    show (((s.ret.active.map _).map _).map _).map _ = _
    cases s.ret.active with
    | none => rfl
    | some a => exact congrArg some ((c.paidActive_from r _).record.trans (State.creditedBatch_record a))

/-- What the close tests find of the tickets, the counter and the archive. -/
theorem ready_tickets : ready.ret.pendingTickets = s.ret.pendingTickets ∧ ready.ret.ticketCounter = s.ret.ticketCounter
    ∧ ready.archive = s.archive ∧ ready.ret.runTotals = s.ret.runTotals.set r (s.ret.runTotals[r].add c.record.quantities)
    ∧ ready.params = s.params := by
  have hret := h.proveReady.ret
  rw [h.sampledRet] at hret
  have hframe := h.moved.frame
  rw [State.payObligation_eq, h.kept.frame, h.totals.frame] at hframe
  refine ⟨by rw [hret]; rfl, by rw [hret]; rfl, ?_, by rw [hret]; rfl, ?_⟩
  · rw [h.proveReady.frame, hframe]
  · rw [h.proveReady.frame, hframe]

/-- What the flow decision leaves of the close tests. -/
theorem decided_closed : decided.ret.ending = closed.ret.ending ∧ decided.ret.active = closed.ret.active
    ∧ decided.ret.pendingTickets = closed.ret.pendingTickets ∧ decided.ret.ticketCounter = closed.ret.ticketCounter
    ∧ decided.archive = closed.archive ∧ decided.flags.batchClosed = closed.flags.batchClosed := by
  have hmoved := h.proveDecided
  refine ⟨by rw [hmoved.ret], by rw [hmoved.ret], by rw [hmoved.ret], by rw [hmoved.ret], by rw [hmoved.frame],
    by rw [hmoved.flags]⟩

/-- A batch that no queued grab names and that no grab of the crediting makes due is left by the sampler as it was. -/
theorem sampler_quiet {b : Batch} (htarget : c.record.target = .batch b.record.id) (hb : s.heldBatch? b.record.id = some b)
    (hgrabs : s.queuedGrabs b.record.id = 0)
    (hnodue : s.ret.enable = .off ∨ b.sampling.accumulator + c.record.gsv < s.params.station.grabVolume * 1000) :
    decided.queuedGrabs b.record.id = 0 ∧ (g b.record.id b.sampling).due = b.sampling.due
      ∧ (g b.record.id b.sampling).taken = b.sampling.taken ∧ (g b.record.id b.sampling).missed = b.sampling.missed := by
  cases henable : s.ret.enable with
  | off =>
    obtain ⟨hsmc, hg⟩ := h.sampler_stands (.inr henable)
    rw [hg]
    refine ⟨?_, rfl, rfl, rfl⟩
    unfold State.queuedGrabs
    rw [hsmc]
    exact hgrabs
  | on =>
    have hserves := h.sampler_serves htarget hb henable
    have hlt := hnodue.resolve_left (by simp [henable])
    have hdue : s.grabsDue b c.record.gsv = 0 := Nat.div_eq_of_lt hlt
    have hplaced : s.placed 0 = 0 := Nat.le_zero.mp (s.placed_le 0)
    have hqueue : s.creditedQueue b c.record.gsv = s.smc.queue := by
      unfold State.creditedQueue
      rw [hdue, hplaced]
      exact List.append_nil _
    have hsampling : s.creditedSampling b c.record.gsv b.record.id b.sampling
        = { b.sampling with accumulator := (b.sampling.accumulator + c.record.gsv) % s.grabVolume } := by
      unfold State.creditedSampling Sampling.changedAt
      rw [if_pos rfl, hdue, hplaced]
      rfl
    have hcount : s.smc.queue.countP (fun o => decide (o.batchId = b.record.id)) = 0 := hgrabs
    have hsame (hg : g = s.creditedSampling b c.record.gsv) (hsmc : decided.smc.queue = s.smc.queue) :
        decided.queuedGrabs b.record.id = 0 ∧ (g b.record.id b.sampling).due = b.sampling.due
          ∧ (g b.record.id b.sampling).taken = b.sampling.taken
          ∧ (g b.record.id b.sampling).missed = b.sampling.missed := by
      rw [hg, hsampling]
      refine ⟨?_, rfl, rfl, rfl⟩
      unfold State.queuedGrabs
      rw [hsmc]
      exact hgrabs
    by_cases hrest : s.smc.state ≠ .ready ∨ s.creditedQueue b c.record.gsv = []
    · obtain ⟨hsmc, -, hg⟩ := hserves.rest hrest
      exact hsame hg (by rw [hsmc]; exact hqueue)
    · rw [not_or, not_not] at hrest
      obtain ⟨hready, hne⟩ := hrest
      obtain ⟨e, rest, hq⟩ := List.exists_cons_of_ne_nil hne
      by_cases hcan : e.can = s.ret.selectedCan
      · cases hfull : s.canIsFull e.can with
        | true =>
          obtain ⟨hsmc, -, hg⟩ := hserves.halt e rest hready hq hcan hfull
          rw [hg]
          dsimp only
          rw [hsampling]
          refine ⟨?_, rfl, ?_, ?_⟩
          · unfold State.queuedGrabs
            rw [hsmc]
            rfl
          · rfl
          · rw [hqueue, hcount]
            rfl
        | false =>
          obtain ⟨hsmc, -, hg⟩ := hserves.grab e rest hready hq hcan hfull
          rw [hqueue] at hq
          rw [hq, List.countP_cons] at hcount
          have hhead : e.batchId ≠ b.record.id := fun heq => by simp [heq] at hcount
          rw [hg]
          dsimp only
          rw [hsampling]
          refine ⟨?_, rfl, ?_, ?_⟩
          · unfold State.queuedGrabs
            rw [hsmc]
            exact (Nat.add_eq_zero_iff.mp hcount).1
          · rw [if_neg hhead]
            rfl
          · rfl
      · obtain ⟨hsmc, -, hg⟩ := hserves.swap e rest hready hq hcan
        exact hsame hg (by rw [hsmc]; exact hqueue)

/-- The one ENDING batch, paid by the run that alone owes it, is ready to close. -/
theorem paid_ready {b : Batch} (hids : s.ret.BatchIdsDistinct) (hending : s.ret.ending = [b])
    (htarget : c.record.target = .batch b.record.id) (hclosing : c.closing = true) (howing : b.owing = noRuns.set r true)
    (hgrabs : decided.queuedGrabs b.record.id = 0) :
    ∃ off : Nat → Bool, ready.ret.ending = [s.closingBatch r c g off b]
      ∧ (s.closingBatch r c g off b).owing = noRuns ∧ ready.readyToClose (s.closingBatch r c g off b) = true := by
  have hb : b ∈ s.ret.ending := by simp [hending]
  have hbatches := (h.ready_batches fun a ha heq => State.active_ne_of_ending hids ha hb
    (CreditTarget.batch.inj (htarget.symm.trans heq))).1
  have hcredited : c.paidEnding r (s.creditedBatch r c b)
      = (b.credit r c.record s.ret.runTotals[r] (s.ret.runTotals[r].add c.record.quantities)).paid r := by
    rw [State.creditedBatch, if_pos htarget, ComputedPeriod.paidEnding]
    exact if_pos (.inr ⟨hclosing, htarget⟩)
  have howed : (noRuns.set r true).set r false = noRuns := by
    rw [Vector.set_set]
    refine Vector.ext fun q hq => ?_
    rw [Vector.getElem_set]
    split
    · exact (noRuns_getElem (⟨q, hq⟩ : Run)).symm
    · rfl
  have hpaid : (s.closingBatch r c g ((judged.payObligation r c).marksOff c.record.target c.record.gsv) b).owing
      = noRuns := by
    show b.owing.set r false = noRuns
    rw [howing, howed]
  refine ⟨_, ?_, hpaid, State.readyToClose_of (fun q => ?_) ?_⟩
  · rw [hbatches, hending, List.map_singleton, hcredited]
    rfl
  · rw [hpaid]
    exact noRuns_getElem q
  · show ready.queuedGrabs b.record.id = 0
    unfold State.queuedGrabs
    rw [h.readySmc]
    exact hgrabs

end State.CreditPhases

/-- Settles O44: at BATCH END and in the crediting that pays its last run the batch is the whole ending list, so that the
one close test of it decides. -/
theorem aReadyBatchClosesAtItsEnd : Obligations.AReadyBatchClosesAtItsEnd := by
  refine ⟨fun s b hr hactive hending hservice hgrabs => ?_, fun s r c b hrun hids hc hending htarget hclosing hfinal howing
    hgrabs hnodue => ?_⟩
  · have hexec := exec_batchEnd_single hr hactive hending
    have hready := endActive_ready hservice hgrabs
    obtain ⟨x, hx⟩ : ∃ x : Batch, x = { b with
      endTime := some s.clock, endReason := some .request, owing := s.runsInService } := ⟨_, rfl⟩
    obtain ⟨u, hu⟩ : ∃ u, u = s.endActive b .request none := ⟨_, rfl⟩
    have hone : u.ret.ending = [x] := by
      rw [hu, hx]
      show s.ret.ending ++ _ = _
      rw [hending]
      rfl
    have hframe : u = { s with ret := u.ret } := by
      rw [hu]
      rfl
    have hret : u.ret = { s.ret with active := none, endPending := false, ending := u.ret.ending } := by
      rw [hu]
      rfl
    have hpending : u.ret.pendingTickets = s.ret.pendingTickets := by rw [hret]
    have hcounter : u.ret.ticketCounter = s.ret.ticketCounter := by rw [hret]
    rw [← hx, ← hu] at hexec hready
    refine ⟨fun hplace hnumber => ?_, fun hfull => ?_, fun hplace hnumber => ?_⟩
    · rw [State.closeTest_closes hready (by rw [hpending]; exact hplace) (by rw [hcounter]; exact hnumber)] at hexec
      have hclosed := u.closeBatch_closed x
      generalize u.closeBatch x = v at hexec hclosed
      have hsettle := v.settle_eq_with
      have hsettled : v.settle.Settled := State.settled_settle
      generalize v.settle.bankA = bankA at hsettle
      generalize v.settle.bankB = bankB at hsettle
      generalize v.settle.current = current at hsettle
      rw [hsettle] at hexec hsettled
      have hactiveNone : v.ret.active = none := by rw [hclosed.active, hret]
      have hall := hclosed.moved.frame
      rw [hframe] at hall
      refine ⟨_, u.closingTicket x, hexec, hsettled, hactiveNone, hclosed.ending_nil hone, hclosed.flag,
        hclosed.tickets.trans (by rw [hpending]), hcounter, hclosed.mark.trans hcounter,
        hclosed.counter.trans (by rw [hcounter]; rfl), ?_⟩
      unfold State.closingTicket
      rw [hx]
      refine ⟨rfl, rfl, rfl, rfl, rfl, by rw [hframe]; rfl, rfl, rfl, rfl, rfl, rfl, fun e he => ?_, ?_⟩
      · exact mem_ticket_entries (b := { b with
          endTime := some s.clock, endReason := some .request, owing := s.runsInService }) he
      · rw [hall]
    · rw [State.closeTest_waits hready (by rw [hpending]; exact hfull)] at hexec
      obtain ⟨v, hv⟩ : ∃ v, v = u.modBatch x.record.id Batch.waitsOnArchive := ⟨_, rfl⟩
      have hvending : v.ret.ending = [x.waitsOnArchive] := by
        rw [hv]
        show u.ret.ending.map _ = _
        rw [hone]
        exact congrArg (fun y => [y]) (if_pos rfl)
      have hvpending : v.ret.pendingTickets = u.ret.pendingTickets := by rw [hv]; rfl
      have hvarchive : v.archive = u.archive := by rw [hv]; rfl
      rw [← hv] at hexec
      rw [v.settle_eq_with] at hexec
      refine ⟨_, x.waitsOnArchive, hexec, hvending, rfl, by rw [hx]; rfl, hvpending.trans hpending,
        hvarchive.trans (by rw [hframe])⟩
    · rw [State.closeTest_unnumbered hready (by rw [hpending]; exact hplace) (hcounter.trans hnumber)] at hexec
      rw [u.settle_eq_with] at hexec
      exact ⟨_, x, hexec, hone, by rw [hx], by rw [hx], hpending, by rw [hframe]⟩
  · obtain ⟨credited, judged, sampled, ready, closed, g, h⟩ := State.creditStep_phases hrun hids hc
    have hexec : exec (.periodCrediting r) s = .next (creditStep r s).settle := exec_of_event hrun rfl
    generalize creditStep r s = decided at h hexec
    have hb : b ∈ s.ret.ending := by simp [hending]
    have hheld := State.heldBatch?_of_mem hids.ret (State.mem_live_ending hb)
    obtain ⟨hquiet, hdue, htaken, hmissed⟩ := h.sampler_quiet htarget hheld hgrabs hnodue
    obtain ⟨off, hone, hnoRuns, hready⟩ := h.paid_ready hids.ret hending htarget hclosing howing hquiet
    have hactive := (h.ready_batches fun a ha heq => State.active_ne_of_ending hids.ret ha hb
      (CreditTarget.batch.inj (htarget.symm.trans heq))).2
    obtain ⟨hpending, hcounter, harchive, htotals, hparams⟩ := h.ready_tickets
    obtain ⟨hdending, hdactive, hdpending, hdcounter, hdarchive, hdclosed⟩ := h.decided_closed
    have hafter : decided.ret.runTotals[r] = s.ret.runTotals[r].add c.record.quantities := by
      rw [h.ret]
      exact Vector.getElem_set_self _
    have hclosed := h.closes
    rw [State.closeTests_single hone] at hclosed
    obtain ⟨y, hy⟩ : ∃ y, y = s.closingBatch r c g off b := ⟨_, rfl⟩
    rw [← hy] at hone hnoRuns hready hclosed
    have hsettled : decided.settle.Settled := State.settled_settle
    rw [decided.settle_eq_with] at hexec hsettled
    generalize decided.settle.bankA = bankA at hexec hsettled
    generalize decided.settle.bankB = bankB at hexec hsettled
    generalize decided.settle.current = current at hexec hsettled
    refine ⟨fun hplace hnumber => ?_, fun hfull => ?_⟩
    · rw [State.closeTest_closes hready (by rw [hpending]; exact hplace) (by rw [hcounter]; exact hnumber)] at hclosed
      have hdone := ready.closeBatch_closed y
      rw [← hclosed] at hdone
      refine ⟨_, ready.closingTicket y, hexec, hsettled, ?_, hdending.trans (hdone.ending_nil hone),
        hdclosed.trans hdone.flag, ?_, hcounter, ?_, ?_, ?_⟩
      · show decided.ret.active.map Batch.record = _
        rw [hdactive, hdone.active, hactive]
      · show decided.ret.pendingTickets.map PendingTicket.ticket = _
        rw [hdpending, hdone.tickets, hpending]
      · show decided.archive.numberMark = _
        rw [hdarchive, hdone.mark, hcounter]
      · show decided.ret.ticketCounter = _
        rw [hdcounter, hdone.counter, hcounter]
        rfl
      · unfold State.closingTicket
        rw [hy]
        refine ⟨rfl, rfl, rfl, fun time htime => ?_, fun reason hreason => ?_, rfl, rfl, rfl, rfl, hdue, htaken, hmissed,
          fun hiv => ?_⟩
        · show b.endTime.getD 0 = time
          rw [htime]
          rfl
        · show b.endReason.getD .request = reason
          rw [hreason]
          rfl
        · obtain ⟨x, hx, hmem⟩ := exists_creditContributions (r := r) (rec := c.record) (before := s.ret.runTotals[r])
            (after := s.ret.runTotals[r].add c.record.quantities) b.contributions
          refine ⟨_, ticket_entry_of_mem (b := s.closingBatch r c g off b) hmem ?_, hx, ?_⟩
          · exact Nat.lt_of_lt_of_le hiv (Nat.le_add_left c.record.iv x.totals.iv)
          · show thousandth (s.ret.runTotals[r].add c.record.quantities).iv.total = decided.ret.runTotals[r].iv.total / 1000
            rw [hafter]
            rfl
    · rw [State.closeTest_waits hready (by rw [hpending]; exact hfull)] at hclosed
      have hcending : closed.ret.ending = [y.waitsOnArchive] := by
        rw [hclosed]
        show ready.ret.ending.map _ = _
        rw [hone]
        exact congrArg (fun y => [y]) (if_pos rfl)
      have hcpending : closed.ret.pendingTickets = ready.ret.pendingTickets := by rw [hclosed]; rfl
      have hcarchive : closed.archive = ready.archive := by rw [hclosed]; rfl
      refine ⟨_, y.waitsOnArchive, hexec, hdending.trans hcending, by rw [hy]; rfl, hnoRuns, rfl,
        hdpending.trans (hcpending.trans hpending), hdarchive.trans (hcarchive.trans harchive)⟩

end Sys2Proof.Machine
end

section
/-! The target tests of a crediting and the end by target (O45). -/

namespace Sys2Proof.Machine

set_option Elab.async false

/-! ### The close tests of at most one older batch and the newest one (R120) -/

section NewestTested

variable {u v : State} {y x : Batch}

/-- What the close tests of the older ENDING batches leave for the newest one, at most one older batch being held. -/
structure State.OlderTested (u v : State) (x : Batch) (closing : Nat) : Prop where
  moved : u.ArchiveMoved v
  active : v.ret.active = u.ret.active
  ending : ∃ older : List Batch, v.ret.ending = older ++ [x] ∧ ∀ y ∈ older, y.record.id ≠ x.record.id
  place : u.ret.pendingTickets.length < 4 → v.ret.pendingTickets.length = u.ret.pendingTickets.length + closing
    ∧ v.ret.ticketCounter = (if closing = 0 then u.ret.ticketCounter else nextTicketNumber u.ret.ticketCounter)
  full : 4 ≤ u.ret.pendingTickets.length → 4 ≤ v.ret.pendingTickets.length

/-- How many of the older batches close (R119, R121): none without a number. -/
def State.closingOlder (u : State) (older : List Batch) : Nat :=
  if u.ret.ticketCounter = 0 then 0 else older.countP u.readyToClose

theorem State.olderTested_nil (h : u.ret.ending = [x]) : u.OlderTested u x (u.closingOlder []) := by
  have hzero : u.closingOlder [] = 0 := by
    unfold State.closingOlder
    split <;> rfl
  rw [hzero]
  exact ⟨.refl, rfl, ⟨[], h, fun _ hy => absurd hy List.not_mem_nil⟩, fun _ => ⟨rfl, rfl⟩, id⟩

theorem State.olderTested_one (h : u.ret.ending = [y, x]) (hids : u.ret.BatchIdsDistinct) :
    u.OlderTested (u.closeTest y) x (u.closingOlder [y]) := by
  have hne : y.record.id ≠ x.record.id := by
    have hnodup := State.ending_ids_nodup hids
    rw [h] at hnodup
    simpa using hnodup
  have hlive : y ∈ u.ret.ending := by simp [h]
  have hnone (hready : u.readyToClose y = false ∨ u.ret.ticketCounter = 0) : u.closingOlder [y] = 0 := by
    unfold State.closingOlder
    rcases hready with hready | hcounter
    · simp [hready]
    · exact if_pos hcounter
  have hone : ∃ older : List Batch, u.ret.ending = older ++ [x] ∧ ∀ z ∈ older, z.record.id ≠ x.record.id :=
    ⟨[y], h, fun z hz => by rw [List.mem_singleton.mp hz]; exact hne⟩
  rcases u.closeTest_cases y with ⟨heq, hreason⟩ | ⟨heq, hready, hplace⟩ | ⟨heq, hready, hplace, hcounter⟩
  · rw [heq, hnone (hreason.imp id And.right)]
    exact ⟨.refl, rfl, hone, fun _ => ⟨rfl, rfl⟩, id⟩
  · have hfull : ¬ u.ret.pendingTickets.length < 4 := of_decide_eq_false hplace
    rw [heq]
    refine ⟨heq ▸ u.archiveMoved_closeTest y, State.active_changedAt hids hlive _, ⟨[y.waitsOnArchive], ?_, ?_⟩,
      fun hroom => absurd hroom hfull, id⟩
    · show u.ret.ending.map (Batch.changedAt y.record.id Batch.waitsOnArchive) = _
      rw [h, List.map_cons, List.map_singleton, Batch.changedAt, Batch.changedAt, if_pos rfl, if_neg (Ne.symm hne)]
      rfl
    · intro z hz
      rw [List.mem_singleton.mp hz]
      exact hne
  · have hclosed := u.closeBatch_closed y
    have hclosing : u.closingOlder [y] = 1 := by
      unfold State.closingOlder
      rw [if_neg hcounter]
      simp [hready]
    have hlength : (u.closeBatch y).ret.pendingTickets.length = u.ret.pendingTickets.length + 1 := by
      have hlen := congrArg List.length hclosed.tickets
      simpa using hlen
    rw [heq, hclosing]
    refine ⟨hclosed.moved, hclosed.active, ⟨[], ?_, fun _ hz => absurd hz List.not_mem_nil⟩,
      fun _ => ⟨hlength, hclosed.counter⟩, fun hfull => by rw [hlength]; omega⟩
    rw [hclosed.ending, h]
    simp [Ne.symm hne]

/-- What the close tests come to for the newest ENDING batch. -/
structure State.NewestTested (u v : State) (x : Batch) (closing : Nat) : Prop where
  active : v.ret.active = none
  owed : u.readyToClose x = false → v.ret.ending.getLast? = some x
  waits : u.readyToClose x = true → 4 ≤ u.ret.pendingTickets.length + closing →
    v.ret.ending.getLast? = some x.waitsOnArchive
  unnumbered : u.readyToClose x = true → u.ret.pendingTickets.length + closing < 4 →
    (if closing = 0 then u.ret.ticketCounter else nextTicketNumber u.ret.ticketCounter) = 0 →
    v.ret.ending.getLast? = some x
  closes : u.readyToClose x = true → u.ret.pendingTickets.length + closing < 4 → ∀ number : Nat,
    number = (if closing = 0 then u.ret.ticketCounter else nextTicketNumber u.ret.ticketCounter) → number ≠ 0 →
    (∀ z ∈ v.ret.ending, z.record.id ≠ x.record.id) ∧ v.flags.batchClosed = true ∧ v.archive.numberMark = number
      ∧ v.ret.ticketCounter = nextTicketNumber number
      ∧ v.ret.pendingTickets.length = u.ret.pendingTickets.length + closing + 1
      ∧ ∃ p : PendingTicket, v.ret.pendingTickets.getLast? = some p
        ∧ p.ticket = buildTicket number x u.params.products[x.slot].name u.ret.runTotals

theorem State.OlderTested.newest {closing : Nat} (h : u.OlderTested v x closing) (hnone : u.ret.active = none) :
    u.NewestTested (v.closeTest x) x closing := by
  have hready := State.readyToClose_congr (u := u) (v := v) h.moved.smc x
  obtain ⟨older, hending, hne⟩ := h.ending
  have hlast : v.ret.ending.getLast? = some x := by
    rw [hending]
    exact List.getLast?_concat
  have hactive : v.ret.active = none := h.active.trans hnone
  refine ⟨?_, fun howed => ?_, fun hx hfull => ?_, fun hx hroom hnumber => ?_, fun hx hroom number hnumber hne0 => ?_⟩
  · rcases v.closeTest_cases x with ⟨heq, -⟩ | ⟨heq, -⟩ | ⟨heq, -⟩
    · rw [heq, hactive]
    · rw [heq]
      show v.ret.active.map _ = none
      rw [hactive]
      rfl
    · rw [heq, (v.closeBatch_closed x).active, hactive]
  · have hself : v.closeTest x = v := if_neg (by rw [hready, howed]; simp)
    rw [hself, hlast]
  · have hplace : 4 ≤ v.ret.pendingTickets.length := by
      by_cases hroom : u.ret.pendingTickets.length < 4
      · rw [(h.place hroom).1]
        exact hfull
      · exact h.full (Nat.not_lt.mp hroom)
    rw [State.closeTest_waits (hready.trans hx) hplace]
    show (v.ret.ending.map _).getLast? = _
    rw [List.getLast?_map, hlast]
    exact congrArg some (if_pos rfl)
  · obtain ⟨hlength, hcounter⟩ := h.place (by omega)
    rw [State.closeTest_unnumbered (hready.trans hx) (by rw [hlength]; exact hroom) (hcounter.trans hnumber), hlast]
  · obtain ⟨hlength, hcounter⟩ := h.place (by omega)
    rw [← hnumber] at hcounter
    have hclosed := v.closeBatch_closed x
    rw [State.closeTest_closes (hready.trans hx) (by rw [hlength]; exact hroom) (by rw [hcounter]; exact hne0)]
    generalize v.closeBatch x = w at hclosed
    refine ⟨fun z hz => ?_, hclosed.flag, hclosed.mark.trans hcounter, hclosed.counter.trans (by rw [hcounter]), ?_, ?_⟩
    · rw [hclosed.ending] at hz
      exact of_decide_eq_true (List.mem_filter.mp hz).2
    · have hlen := congrArg List.length hclosed.tickets
      rw [List.length_append, List.length_map, List.length_map, hlength] at hlen
      exact hlen
    · have hgetLast := congrArg List.getLast? hclosed.tickets
      rw [List.getLast?_concat, List.getLast?_map] at hgetLast
      obtain ⟨p, hp, hticket⟩ := Option.map_eq_some_iff.mp hgetLast
      refine ⟨p, hp, ?_⟩
      rw [hticket]
      unfold State.closingTicket
      have hparams : v.params = u.params := by rw [h.moved.frame]
      have htotals : v.ret.runTotals = u.ret.runTotals := by rw [h.moved.ret]
      rw [hcounter, hparams, htotals]

/-- The close tests of an ending list of the newest batch and at most one older one. -/
theorem State.newestTested {older : List Batch} (hids : u.ret.BatchIdsDistinct) (hnone : u.ret.active = none)
    (hending : u.ret.ending = older ++ [x]) (hlen : older.length < 2) :
    u.NewestTested u.closeTests x (u.closingOlder older) := by
  match older with
  | [] =>
    rw [State.closeTests_single hending]
    exact (State.olderTested_nil hending).newest hnone
  | [y] =>
    have htests : u.closeTests = (u.closeTest y).closeTest x := by
      unfold State.closeTests
      rw [hending]
      rfl
    rw [htests]
    exact (State.olderTested_one hending hids).newest hnone
  | _ :: _ :: _ => simp at hlen

end NewestTested

/-! ### The crediting of the ACTIVE batch with a target -/

/-- A crediting reaches the target of the ACTIVE batch for the first time (R116). -/
def State.targetMet (s : State) (c : ComputedPeriod) (b : Batch) (target : Nat) : Bool :=
  decide (s.ret.endPending = false ∧ b.flags.targetReached = false ∧ target * 1000 ≤ b.totals.nsv + c.record.nsv)

/-- The ACTIVE batch with a record credited, its target met or not. -/
def State.metBatch (s : State) (r : Run) (c : ComputedPeriod) (b : Batch) (met : Bool) : Batch :=
  (b.credit r c.record s.ret.runTotals[r] (s.ret.runTotals[r].add c.record.quantities)).withTarget met

/-- The batch that a crediting has ended by its target, before the close tests. -/
def State.targetEnded (s : State) (r : Run) (c : ComputedPeriod) (g : Nat → Sampling → Sampling) (off : Nat → Bool)
    (b : Batch) (met : Bool) : Batch :=
  (c.paidEnding r (s.endedByTarget (leavingRun r c.record) (s.metBatch r c b met))).sampledAs g off

/-- The runs that owe a batch ended by its target: those in service, but for the run whose closing or final period is
credited (R111, R112). -/
def State.owedAtTarget (s : State) (r : Run) (c : ComputedPeriod) : RunSet :=
  if c.record.final = true ∨ c.closing = true then s.runsInService.set r false else s.runsInService

theorem ComputedPeriod.paidEnding_eq (c : ComputedPeriod) (r : Run) (b : Batch) :
    c.paidEnding r b = { b with owing := (c.paidEnding r b).owing } := by
  unfold ComputedPeriod.paidEnding
  split <;> rfl

/-- What the end by target leaves of a batch. -/
theorem State.targetEnded_spec {s : State} {r : Run} {c : ComputedPeriod} {g : Nat → Sampling → Sampling}
    {off : Nat → Bool} {b : Batch} (met : Bool) (htarget : c.record.target = .batch b.record.id) :
    (s.targetEnded r c g off b met).record = b.record ∧ (s.targetEnded r c g off b met).slot = b.slot
      ∧ (s.targetEnded r c g off b met).startTime = b.startTime
      ∧ (s.targetEnded r c g off b met).totals = b.totals.add c.record.quantities
      ∧ (s.targetEnded r c g off b met).endReason = some .target
      ∧ (s.targetEnded r c g off b met).endTime = some s.clock
      ∧ (s.targetEnded r c g off b met).owing = s.owedAtTarget r c
      ∧ (s.targetEnded r c g off b met).flags.targetReached = (b.flags.targetReached || met)
      ∧ (s.targetEnded r c g off b met).flags.archiveWait = b.flags.archiveWait := by
  have howing : (c.paidEnding r (s.endedByTarget (leavingRun r c.record) (s.metBatch r c b met))).owing
      = s.owedAtTarget r c := by
    unfold ComputedPeriod.paidEnding State.owedAtTarget
    by_cases hpays : c.record.final = true ∨ c.closing = true
    · rw [if_pos hpays, if_pos (hpays.imp id fun hclosing => ⟨hclosing, htarget⟩)]
      show (s.owingAtEnd (leavingRun r c.record)).set r false = _
      cases hfinal : c.record.final with
      | true =>
        have hleaving : leavingRun r c.record = some r := if_pos hfinal
        rw [hleaving]
        exact Vector.set_set ..
      | false =>
        have hleaving : leavingRun r c.record = none := if_neg (by simp [hfinal])
        rw [hleaving]
        rfl
    · rw [if_neg hpays, if_neg fun h => hpays (h.imp id And.left)]
      have hleaving : leavingRun r c.record = none := if_neg fun hfinal => hpays (.inl hfinal)
      show s.owingAtEnd (leavingRun r c.record) = _
      rw [hleaving]
      rfl
  unfold State.targetEnded
  rw [ComputedPeriod.paidEnding_eq, howing]
  exact ⟨rfl, rfl, rfl, rfl, rfl, rfl, rfl, rfl, rfl⟩

namespace State.CreditPhases

variable {s credited judged sampled ready closed decided : State} {r : Run} {c : ComputedPeriod}
  {g : Nat → Sampling → Sampling} (h : s.CreditPhases r c credited judged sampled ready closed decided g)
  {b : Batch} {target : Nat}

include h

theorem creditedRet : credited.ret.active = s.ret.active.map (s.creditedBatch r c)
    ∧ credited.ret.ending = s.ret.ending.map (s.creditedBatch r c) ∧ credited.ret.endPending = s.ret.endPending
    ∧ credited.ret.slowdown = s.ret.slowdown ∧ credited.ret.stop = s.ret.stop ∧ credited.ret.service = s.ret.service
    ∧ credited.clock = s.clock ∧ credited.flags.slowdownReached = s.flags.slowdownReached
    ∧ credited.flags.targetReached = s.flags.targetReached := by
  have hret := h.totals.ret
  refine ⟨by rw [hret]; rfl, by rw [hret]; rfl, by rw [hret]; rfl, by rw [hret]; rfl, by rw [hret]; rfl,
    by rw [hret]; rfl, by rw [h.totals.frame], by rw [h.totals.flags], by rw [h.totals.flags]⟩

/-- The tests of the credited ACTIVE batch, in the figures of the start of the crediting (R115, R116). -/
theorem judgedTarget (hactive : s.ret.active = some b) (htarget : c.record.target = .batch b.record.id)
    (hgoal : b.record.target = some target) :
    State.TargetJudged credited judged (s.metBatch r c b false) target (leavingRun r c.record)
      ∧ credited.reaches (s.metBatch r c b false) target = s.targetMet c b target := by
  obtain ⟨hcreditedActive, -, hpending, -⟩ := h.creditedRet
  have hbatch : s.creditedBatch r c b = s.metBatch r c b false := by
    unfold State.creditedBatch State.metBatch
    rw [if_pos htarget, Batch.withTarget_false]
  rw [hactive, Option.map_some, hbatch] at hcreditedActive
  refine ⟨?_, ?_⟩
  · rw [h.tests, htarget]
    exact State.batchTests_judged hcreditedActive
      (fun x hx => State.active_ne_of_ending h.creditedIds hcreditedActive hx) hgoal
  · unfold State.reaches State.targetMet
    rw [hpending]
    have hflag : (s.metBatch r c b false).flags.targetReached = b.flags.targetReached := Bool.or_false _
    rw [hflag]
    rfl

/-- The flags of the two tests at the end of the crediting. -/
theorem decidedFlags : decided.flags.slowdownReached = judged.flags.slowdownReached
    ∧ decided.flags.targetReached = judged.flags.targetReached := by
  have hpaid : (judged.payObligation r c).flags = judged.flags := by rw [State.payObligation_eq]
  rw [h.proveDecided.flags, h.closeRun.moved.flags, h.proveReady.flags, h.moved.flags, hpaid]
  exact ⟨rfl, rfl⟩

/-- An ACTIVE batch that the tests leave ACTIVE, at the end of the crediting. -/
theorem active_after {a : Batch} (hstays : judged.ret.active = some a) :
    ∃ x : Batch, decided.ret.active = some x ∧ x.record = a.record ∧ x.totals = a.totals
      ∧ x.flags.targetReached = a.flags.targetReached := by
  rw [h.decidedActive, h.readyActive, State.payObligation_eq, hstays]
  refine ⟨_, rfl, ?_⟩
  unfold ComputedPeriod.paidActive
  split <;> exact ⟨rfl, rfl, rfl⟩

/-- The ending list before the close tests, where the target has ended the ACTIVE batch. -/
theorem ended_ready {met : Bool} (hnone : judged.ret.active = none)
    (hending : judged.ret.ending = credited.ret.ending
      ++ [credited.endedByTarget (leavingRun r c.record) (s.metBatch r c b met)]) :
    ready.ret.active = none
      ∧ ready.ret.ending = s.ret.ending.map (fun x => (c.paidEnding r (s.creditedBatch r c x)).sampledAs g
          ((judged.payObligation r c).marksOff c.record.target c.record.gsv))
        ++ [s.targetEnded r c g ((judged.payObligation r c).marksOff c.record.target c.record.gsv) b met] := by
  obtain ⟨-, hcreditedEnding, -, -, -, hservice, hclock, -⟩ := h.creditedRet
  have hended : credited.endedByTarget (leavingRun r c.record) (s.metBatch r c b met)
      = s.endedByTarget (leavingRun r c.record) (s.metBatch r c b met) := by
    unfold State.endedByTarget State.owingAtEnd State.runsInService
    rw [hclock, hservice]
  refine ⟨?_, ?_⟩
  · rw [h.readyActive, State.payObligation_eq, hnone]
    rfl
  · rw [h.readyEnding]
    have hpaid : (judged.payObligation r c).ret.ending = judged.ret.ending.map (c.paidEnding r) := by
      rw [State.payObligation_eq]
    rw [hpaid, hending, hcreditedEnding, hended, List.map_append, List.map_append, List.map_map, List.map_map]
    rfl

/-- An older ENDING batch closes in the tests where no grab names it and no run but the leaving one owes it (R119). -/
theorem older_ready {x : Batch} {off : Nat → Bool} (hne : c.record.target ≠ .batch x.record.id) :
    ready.readyToClose ((c.paidEnding r (s.creditedBatch r c x)).sampledAs g off) = true
      ↔ decided.queuedGrabs x.record.id = 0 ∧ ∀ q : Run, x.owing[q] = true → q = r ∧ c.record.final = true := by
  have hrecord := c.paidEnding_record s r x
  have howing := c.paidEnding_owing s r x
  have hgrabs : ready.queuedGrabs x.record.id = decided.queuedGrabs x.record.id := by
    unfold State.queuedGrabs
    rw [h.readySmc]
  have hpays : c.pays x.record.id ↔ c.record.final = true :=
    ⟨fun hp => hp.resolve_right fun hc => hne hc.2, .inl⟩
  rw [← Bool.not_eq_false, State.readyToClose_eq_false_iff, not_or, not_not]
  show (¬ ∃ q : Run, (c.paidEnding r (s.creditedBatch r c x)).owing[q] = true)
    ∧ ready.queuedGrabs (c.paidEnding r (s.creditedBatch r c x)).record.id = 0 ↔ _
  rw [howing, hrecord, hgrabs, and_comm]
  refine and_congr Iff.rfl ?_
  by_cases hfinal : c.record.final = true
  · rw [if_pos (hpays.mpr hfinal)]
    refine ⟨fun hnone q hq => ⟨?_, hfinal⟩, fun honly ⟨q, hq⟩ => ?_⟩
    · by_contra hqr
      exact hnone ⟨q, (Vector.getElem_set_ne _ _ fun heq => hqr (Fin.ext heq.symm)).trans hq⟩
    · by_cases hqr : r = q
      · subst hqr
        rw [show (x.owing.set r false)[r] = false from Vector.getElem_set_self _] at hq
        cases hq
      · rw [show (x.owing.set r false)[q] = x.owing[q] from Vector.getElem_set_ne _ _ fun heq => hqr (Fin.ext heq)] at hq
        exact hqr (honly q hq).1.symm
  · rw [if_neg fun hp => hfinal (hpays.mp hp)]
    exact ⟨fun hnone q hq => absurd ⟨q, hq⟩ hnone, fun honly ⟨q, hq⟩ => hfinal (honly q hq).2⟩

end State.CreditPhases

theorem State.metBatch_withTarget (s : State) (r : Run) (c : ComputedPeriod) (b : Batch) (met : Bool) :
    (s.metBatch r c b false).withTarget met = s.metBatch r c b met := by
  unfold State.metBatch
  rw [Batch.withTarget_false]

namespace State.CreditPhases

variable {s credited judged sampled ready closed decided : State} {r : Run} {c : ComputedPeriod}
  {g : Nat → Sampling → Sampling} (h : s.CreditPhases r c credited judged sampled ready closed decided g)
  {b : Batch} {target : Nat}

include h

/-- The close tests where the target has ended the ACTIVE batch, in the figures of the start of the crediting. -/
theorem targetClosed {met : Bool} (hids : s.ret.BatchIdsDistinct) (hactive : s.ret.active = some b)
    (htarget : c.record.target = .batch b.record.id) (hlen : s.ret.ending.length < 2) (hnone : judged.ret.active = none)
    (hending : judged.ret.ending = credited.ret.ending
      ++ [credited.endedByTarget (leavingRun r c.record) (s.metBatch r c b met)]) :
    ∃ off : Nat → Bool, ready.NewestTested closed (s.targetEnded r c g off b met)
        (if s.ret.ticketCounter = 0 then 0 else s.ret.ending.countP fun x => decide (decided.queuedGrabs x.record.id = 0
          ∧ ∀ q : Run, x.owing[q] = true → q = r ∧ c.record.final = true))
      ∧ ((∀ q : Run, (s.owedAtTarget r c)[q] = false) → decided.queuedGrabs b.record.id = 0 →
          ready.readyToClose (s.targetEnded r c g off b met) = true)
      ∧ (((∃ q : Run, (s.owedAtTarget r c)[q] = true) ∨ decided.queuedGrabs b.record.id ≠ 0) →
          ready.readyToClose (s.targetEnded r c g off b met) = false) := by
  obtain ⟨hreadyNone, hreadyEnding⟩ := h.ended_ready hnone hending
  obtain ⟨-, hcounter, -⟩ := h.ready_tickets
  obtain ⟨hrecord, -, -, -, -, -, howing, -⟩ := State.targetEnded_spec (s := s) (r := r) (g := g)
    (off := (judged.payObligation r c).marksOff c.record.target c.record.gsv) met htarget
  have hgrabs : ready.queuedGrabs b.record.id = decided.queuedGrabs b.record.id := by
    unfold State.queuedGrabs
    rw [h.readySmc]
  have htested := State.newestTested h.readyIds hreadyNone hreadyEnding (by rw [List.length_map]; exact hlen)
  rw [← h.closes] at htested
  have hclosing : ready.closingOlder (s.ret.ending.map fun x => (c.paidEnding r (s.creditedBatch r c x)).sampledAs g
        ((judged.payObligation r c).marksOff c.record.target c.record.gsv))
      = if s.ret.ticketCounter = 0 then 0 else s.ret.ending.countP fun x => decide (decided.queuedGrabs x.record.id = 0
          ∧ ∀ q : Run, x.owing[q] = true → q = r ∧ c.record.final = true) := by
    unfold State.closingOlder
    rw [hcounter, List.countP_map]
    congr 1
    refine List.countP_congr fun x hx => ?_
    rw [Function.comp_apply, decide_eq_true_eq]
    refine h.older_ready fun heq => ?_
    exact State.active_ne_of_ending hids hactive hx (CreditTarget.batch.inj (heq.symm.trans htarget))
  rw [hclosing] at htested
  refine ⟨_, htested, fun hnoRun hnoGrab => ?_, fun howed => ?_⟩
  · refine State.readyToClose_of (fun q => ?_) ?_
    · rw [howing]
      exact hnoRun q
    · rw [hrecord, hgrabs]
      exact hnoGrab
  · refine (State.readyToClose_eq_false_iff _).mpr ?_
    rw [howing, hrecord, hgrabs]
    exact howed

end State.CreditPhases

/-- Settles O45: the two tests by `State.TargetJudged`, and the end by target through the close tests of at most one older
batch and the batch that ended (`State.NewestTested`). -/
theorem targetTestsFollowTheNetVolume : Obligations.TargetTestsFollowTheNetVolume := by
  intro s r c b target nsv point reached hrun hids hc hactive htarget hgoal hnsv hpoint hreached
  obtain ⟨credited, judged, sampled, ready, closed, g, h⟩ := State.creditStep_phases hrun hids hc
  have hexec : exec (.periodCrediting r) s = .next (creditStep r s).settle := exec_of_event hrun rfl
  generalize creditStep r s = decided at h hexec
  obtain ⟨hjudged, hreaches⟩ := h.judgedTarget hactive htarget hgoal
  obtain ⟨-, hcreditedEnding, hpending, hslowdown, hstop, -, -, hslowFlag, htargetFlag⟩ := h.creditedRet
  obtain ⟨hdslow, hdtarget⟩ := h.decidedFlags
  obtain ⟨hdending, hdactive, hdpending, hdcounter, hdarchive, hdclosed⟩ := h.decided_closed
  have hmet : s.targetMet c b target = reached := by
    rw [hreached, hnsv]
    rfl
  have hslows : (s.metBatch r c b false).slows target = decide (point ≤ nsv) := by
    rw [hpoint, hnsv]
    rfl
  have hlength : credited.ret.ending.length = s.ret.ending.length := by rw [hcreditedEnding, List.length_map]
  have hretPending : decided.ret.endPending = judged.ret.endPending := by rw [h.ret]
  rw [hmet] at hreaches
  have hstays := hjudged.stays
  have hwaits := hjudged.waits
  have hends := hjudged.ends
  rw [hpending, hreaches] at hstays hwaits hends
  rw [hlength] at hwaits hends
  rw [State.metBatch_withTarget] at hwaits hends
  have hsettled : decided.settle.Settled := State.settled_settle
  rw [decided.settle_eq_with] at hexec hsettled
  generalize decided.settle.bankA = bankA at hexec hsettled
  generalize decided.settle.bankB = bankB at hexec hsettled
  generalize decided.settle.current = current at hexec hsettled
  refine ⟨_, hexec, hsettled, ?_, ?_, ?_, ?_, fun hnot hmiss => ?_, fun hend hfull => ?_, fun hend hroom => ?_⟩
  · show decided.ret.slowdown = _
    rw [h.ret]
    show judged.ret.slowdown = _
    rw [hjudged.ret, hslowdown, hslows]
  · show decided.flags.slowdownReached = _
    rw [hdslow, hjudged.flags, hslowFlag, hslowdown, hslows]
  · show decided.ret.stop = _
    rw [h.ret]
    show judged.ret.stop = _
    rw [hjudged.ret, hstop, hreaches]
  · show decided.flags.targetReached = _
    rw [hdtarget, hjudged.flags, htargetFlag, hreaches]
  · obtain ⟨hjactive, -, hjpending⟩ := hstays hnot hmiss
    obtain ⟨x, hx, hrecord, htotals, hflag⟩ := h.active_after hjactive
    exact ⟨hretPending.trans hjpending, x, hx, hrecord, htotals, hflag.trans (Bool.or_false _)⟩
  · obtain ⟨hjactive, -, hjpending⟩ := hwaits hend hfull
    obtain ⟨x, hx, hrecord, htotals, hflag⟩ := h.active_after hjactive
    exact ⟨hretPending.trans hjpending, x, hx, hrecord, htotals, hflag⟩
  · obtain ⟨hjactive, hjpending, hjending⟩ := hends hend hroom
    obtain ⟨off, htested, hready, hunready⟩ := h.targetClosed hids.ret hactive htarget hroom hjactive hjending
    obtain ⟨hrpending, hrcounter, -, -, -⟩ := h.ready_tickets
    obtain ⟨hrecord, hslot, hstart, htotals, hreason, htime, howing, hflag, hwait⟩ :=
      State.targetEnded_spec (s := s) (r := r) (g := g) (off := off) reached htarget
    refine ⟨hdactive.trans htested.active, hretPending.trans hjpending, ?_⟩
    intro owed stays closing number howed hstaysDef hclosing hnumber
    have howed' : owed = s.owedAtTarget r c := howed
    have hclosing' : closing = if s.ret.ticketCounter = 0 then 0 else s.ret.ending.countP fun x =>
        decide (decided.queuedGrabs x.record.id = 0 ∧ ∀ q : Run, x.owing[q] = true → q = r ∧ c.record.final = true) :=
      hclosing
    have hnumber' : number = if closing = 0 then s.ret.ticketCounter else nextTicketNumber s.ret.ticketCounter := hnumber
    rw [← hclosing'] at htested
    rw [← howed'] at hready hunready howing
    have hnumbered := htested.closes
    have hunnumbered := htested.unnumbered
    have hwaiting := htested.waits
    rw [hrcounter, ← hnumber'] at hunnumbered
    rw [hrcounter] at hnumbered
    rw [hrpending] at hnumbered hunnumbered hwaiting
    generalize s.targetEnded r c g off b reached = x at *
    have hkept (hlast : closed.ret.ending.getLast? = some x) : stays false := by
      rw [hstaysDef]
      exact ⟨x, by rw [← hlast, ← hdending], hrecord, hslot, htotals, hreason, htime, howing, hflag,
        hwait.trans (Bool.or_false _).symm⟩
    refine ⟨fun howes => hkept (htested.owed (hunready howes)), fun hnoRun hnoGrab => ⟨fun hfull => ?_, fun hplace hzero => ?_,
      fun hplace hne => ?_⟩⟩
    · have hlast := hwaiting (hready hnoRun hnoGrab) hfull
      rw [hstaysDef]
      exact ⟨x.waitsOnArchive, by rw [← hlast, ← hdending], hrecord, hslot, htotals, hreason, htime, howing, hflag,
        (Bool.or_true _).symm⟩
    · exact hkept (hunnumbered (hready hnoRun hnoGrab) hplace hzero)
    · obtain ⟨hgone, hflagClosed, hmark, hcounter, hlen, p, hp, hticket⟩ :=
        hnumbered (hready hnoRun hnoGrab) hplace number hnumber' hne
      refine ⟨fun z hz => ?_, hdclosed.trans hflagClosed, ?_, hdcounter.trans hcounter, ?_, p, ?_, ?_⟩
      · rw [← hrecord]
        exact hgone z (hdending ▸ hz)
      · show decided.archive.numberMark = number
        rw [hdarchive, hmark]
      · show decided.ret.pendingTickets.length = _
        rw [hdpending, hlen]
      · show decided.ret.pendingTickets.getLast? = some p
        rw [hdpending, hp]
      · rw [hticket]
        unfold buildTicket
        dsimp only
        rw [hrecord, hslot, hstart, htotals, hreason, htime, hflag, hnsv]
        exact ⟨rfl, rfl, rfl, rfl, rfl, rfl, rfl, rfl, rfl, rfl⟩

end Sys2Proof.Machine
end

section
/-! A run leaves service (R2, R4, R151): its final partial period, its conditions and its prove (O21). -/

namespace Sys2Proof.Machine

set_option Elab.async false

/-! ### One named run -/

theorem runsOf_single (r : Run) : runsOf (noRuns.set r true) = [r] := by
  revert r
  decide

/-! ### The crediting of a final partial period (R89, R113) -/

/-- A crediting without the steps that may end a prove leaves the pulses and the prover, and of retained content what no
total, no batch, no ticket and no can count is. -/
structure State.CreditKept (s t : State) : Prop where
  service : t.ret.service = s.ret.service
  marker : t.ret.marker = s.ret.marker
  lastProve : t.ret.lastProve = s.ret.lastProve
  other : ∀ a : AlarmId, a ∉ [.station .flowNoBatch, .station .samplerMissed, .station .samplerHalted,
    .station .archiveFull] → t.alarm a = s.alarm a
  frame : t = { s with
    ret := t.ret, cen := t.cen, smc := t.smc, archive := t.archive, write := t.write, erase := t.erase
    alarms := t.alarms, flags := t.flags }

section CreditKept

variable {s t u : State} {r : Run} {c : ComputedPeriod}

theorem State.CreditKept.trans (h : s.CreditKept t) (k : t.CreditKept u) : s.CreditKept u where
  service := k.service.trans h.service
  marker := k.marker.trans h.marker
  lastProve := k.lastProve.trans h.lastProve
  other a ha := (k.other a ha).trans (h.other a ha)
  frame := by rw [k.frame, h.frame]

theorem State.CreditKept.refl (s : State) : s.CreditKept s := ⟨rfl, rfl, rfl, fun _ _ => rfl, rfl⟩

theorem State.creditKept_slowdownTest (s : State) (b : Batch) : s.CreditKept (s.slowdownTest b) := by
  unfold State.slowdownTest
  repeat' split
  all_goals exact ⟨rfl, rfl, rfl, fun _ _ => rfl, rfl⟩

theorem State.creditKept_endForTarget (s : State) (b : Batch) (leaving : Option Run) :
    s.CreditKept (s.endForTarget b leaving) := by
  unfold State.endForTarget
  split
  all_goals exact ⟨rfl, rfl, rfl, fun _ _ => rfl, rfl⟩

theorem State.creditKept_targetTest (s : State) (b : Batch) (leaving : Option Run) :
    s.CreditKept (s.targetTest b leaving) := by
  unfold State.targetTest
  split
  · exact .refl s
  · split
    · exact s.creditKept_endForTarget b leaving
    · split
      · have hreached : s.CreditKept (((s.modBatch b.record.id Batch.reachedTarget).modRet
            fun ret => { ret with stop := true }).addFlag .targetReached) := ⟨rfl, rfl, rfl, fun _ _ => rfl, rfl⟩
        exact hreached.trans (State.creditKept_endForTarget _ b.reachedTarget leaving)
      · exact .refl s

theorem State.creditKept_batchTests (s : State) (credit : CreditTarget) (leaving : Option Run) :
    s.CreditKept (s.batchTests credit leaving) := by
  unfold State.batchTests
  split
  · split
    · exact (s.creditKept_slowdownTest _).trans (State.creditKept_targetTest _ _ leaving)
    · exact .refl s
  · exact .refl s
  · exact .refl s

theorem State.TotalsCredited.kept (h : s.TotalsCredited t r c) : s.CreditKept t where
  service := by rw [h.ret]; rfl
  marker := by rw [h.ret]; rfl
  lastProve := by rw [h.ret]; rfl
  other a ha := h.other a (by rintro rfl; simp at ha)
  frame := by rw [h.frame]

theorem State.creditKept_payObligation (s : State) (r : Run) (c : ComputedPeriod) : s.CreditKept (s.payObligation r c) := by
  rw [State.payObligation_eq]
  exact ⟨rfl, rfl, rfl, fun _ _ => rfl, rfl⟩

theorem State.creditKept_sampleCredit (s : State) (credit : CreditTarget) (gsv : Nat) :
    s.CreditKept (s.sampleCredit credit gsv) := by
  obtain ⟨g, hmoved, -, -⟩ := s.sampleCredit_spec credit gsv
  exact ⟨by rw [hmoved.ret], by rw [hmoved.ret], by rw [hmoved.ret],
    fun a ha => hmoved.other a (by rintro rfl; simp at ha) (by rintro rfl; simp at ha), by rw [hmoved.frame]⟩

theorem State.ArchiveMoved.kept (h : s.ArchiveMoved t) : s.CreditKept t :=
  ⟨by rw [h.ret], by rw [h.ret], by rw [h.ret], fun a ha => h.other a (by rintro rfl; simp at ha), by rw [h.frame]⟩

/-- A crediting up to the steps that may end a prove. -/
theorem creditStep_cases (hc : s.cen[r].computed = some c) :
    ∃ w : State, s.CreditKept w ∧ w.cen = s.cen.set r { s.cen[r] with computed := none, latest := some c.record }
      ∧ creditStep r s = (w.productTest r c.record).closeTests.decideFlow r c.record := by
  obtain ⟨v, hv⟩ : ∃ v, v = (s.creditRun r c).creditTarget r c.record s.ret.runTotals[r] := ⟨_, rfl⟩
  have htotals := s.totalsCredited r c
  rw [← hv] at htotals
  obtain ⟨w, hw⟩ : ∃ w, w = ((v.batchTests c.record.target (leavingRun r c.record)).payObligation r c).sampleCredit
      c.record.target c.record.gsv := ⟨_, rfl⟩
  have hkept : v.CreditKept w := by
    rw [hw]
    exact ((v.creditKept_batchTests _ _).trans (State.creditKept_payObligation _ r c)).trans
      (State.creditKept_sampleCredit _ _ _)
  have hcen : w.cen = v.cen := by
    rw [hw]
    simp [State.payObligation_eq]
  refine ⟨w, htotals.kept.trans hkept, hcen.trans htotals.cen, ?_⟩
  unfold creditStep
  rw [hc]
  dsimp only
  unfold State.credit
  dsimp only
  rw [← hv, ← hw]

/-- The crediting of a final partial period, which decides no flow state and fails no prove. -/
theorem creditStep_final (hc : s.cen[r].computed = some c) (hfinal : c.record.final = true) :
    s.CreditKept (creditStep r s)
      ∧ (creditStep r s).cen = s.cen.set r { s.cen[r] with computed := none, latest := some c.record } := by
  obtain ⟨w, hkept, hcen, hstep⟩ := creditStep_cases hc
  have hproduct : w.productTest r c.record = w := State.productTest_stands (.inr (.inl hfinal))
  have hclosed := w.archiveMoved_closeTests
  rw [hproduct, State.decideFlow_final hfinal] at hstep
  rw [hstep]
  refine ⟨hkept.trans hclosed.kept, ?_⟩
  rw [hclosed.frame]
  exact hcen

end CreditKept

/-! ### The final partial period (R4, R5, R85) -/

/-- The pulses of a run with its counts at 0. -/
def RunPulse.withoutCounts (x : RunPulse) : RunPulse := { x with counts := .zero }

/-- What the final partial period leaves. -/
structure State.PeriodEnded (s t : State) (r : Run) : Prop where
  service : t.ret.service = s.ret.service
  marker : t.ret.marker = s.ret.marker
  lastProve : t.ret.lastProve = s.ret.lastProve
  pulses : t.pulses = s.pulses.set r s.pulses[r].withoutCounts
  latest : ∃ rec : PeriodRecord, t.cen[r].latest = some rec ∧ rec.final = true ∧ rec.good = s.pulses[r].counts.good
    ∧ rec.len = s.partialLength r
  proveFailed : t.alarm (.station .proveFailed) = s.alarm (.station .proveFailed)
  frame : t = { s with
    ret := t.ret, pulses := t.pulses, cen := t.cen, smc := t.smc, archive := t.archive, write := t.write
    erase := t.erase, alarms := t.alarms, flags := t.flags }

section FinalPeriod

variable {s t : State} {r : Run}

theorem State.finalPeriod_ended (s : State) (r : Run) : s.PeriodEnded (s.finalPeriod r) r := by
  obtain ⟨k, hk⟩ : ∃ k, k = s.handoverOf r (s.partialLength r) true := ⟨_, rfl⟩
  obtain ⟨base, hbase⟩ : ∃ base : State, base = (s.modCen r fun x => { x with handover := some k }).modRun r
      RunPulse.withoutCounts := ⟨_, rfl⟩
  have hfinalPeriod : s.finalPeriod r = creditStep r (computeStep r base) := by
    rw [hbase, hk]
    rfl
  have hhandover : base.cen[r].handover = some k := by
    rw [hbase]
    show (modAt s.cen r _)[r].handover = _
    rw [modAt_same]
  obtain ⟨c, hc⟩ : ∃ c, c = base.computedPeriod r k := ⟨_, rfl⟩
  have hfinal : c.record.final = true := by
    rw [hc, hk]
    rfl
  have hgood : c.record.good = s.pulses[r].counts.good := by
    rw [hc, hk]
    rfl
  have hlen : c.record.len = s.partialLength r := by
    rw [hc, hk]
    rfl
  obtain ⟨w, hw⟩ : ∃ w, w = base.modCen r fun x => { x with handover := none, computed := some c } := ⟨_, rfl⟩
  have hcompute : computeStep r base = w.computationAlarms r c.record := by
    unfold computeStep
    rw [hhandover, hw, hc]
  have hmoved := w.alarmsMoved_computationAlarms (r := r) c.record
  rw [← hcompute] at hmoved
  have hwframe : w = { s with pulses := w.pulses, cen := w.cen } := by
    rw [hw, hbase]
    rfl
  have hwpulses : w.pulses = s.pulses.set r s.pulses[r].withoutCounts := by
    rw [hw, hbase]
    rfl
  have hwcomputed : w.cen[r].computed = some c := by
    rw [hw]
    show (modAt base.cen r _)[r].computed = _
    rw [modAt_same]
  generalize computeStep r base = v at hfinalPeriod hmoved
  have hvframe := hmoved.frame
  have hcomputed : v.cen[r].computed = some c := by
    rw [hvframe]
    exact hwcomputed
  obtain ⟨hkept, hcen⟩ := creditStep_final hcomputed hfinal
  rw [hfinalPeriod]
  generalize creditStep r v = t at hkept hcen
  rw [hwframe] at hvframe
  have hall := hkept.frame
  rw [hvframe] at hall
  refine ⟨hkept.service.trans (by rw [hvframe]), hkept.marker.trans (by rw [hvframe]),
    hkept.lastProve.trans (by rw [hvframe]), ?_, ⟨c.record, ?_, hfinal, hgood, hlen⟩, ?_, ?_⟩
  · rw [hall]
    exact hwpulses
  · rw [hcen]
    exact congrArg RunCorrection.latest (Vector.getElem_set_self _)
  · refine (hkept.other _ (by simp)).trans ((hmoved.other _ (by simp)).trans ?_)
    rw [hwframe]
    rfl
  · rw [hall]

end FinalPeriod

/-! ### Leaving service (R4, R151) -/

/-- A run without flow state, timer, capture and pass watch. -/
def RunPulse.atRest (x : RunPulse) : RunPulse := { x with flow := none, timerFrom := none, capture := none, watch := none }

/-- A run out of service with its conditions cleared, before its prove is looked at. -/
def State.takenOut (s : State) (r : Run) : State :=
  (((((s.finalPeriod r).setService r .outOfService).modRun r RunPulse.atRest).clearAlarm (.run r .pulseError)).clearAlarm
    (.run r .pulseDegraded)).clearAlarm (.run r .reverseFlow)

/-- What a run that leaves service leaves, its prove aside. -/
structure State.TakenOut (s t : State) (r : Run) : Prop where
  service : t.ret.service = s.ret.service.set r .outOfService
  marker : t.ret.marker = s.ret.marker
  lastProve : t.ret.lastProve = s.ret.lastProve
  pulses : t.pulses = s.pulses.set r s.pulses[r].withoutCounts.atRest
  latest : ∃ rec : PeriodRecord, t.cen[r].latest = some rec ∧ rec.final = true ∧ rec.good = s.pulses[r].counts.good
    ∧ rec.len = s.partialLength r
  pulseError : t.alarmRaised (.run r .pulseError) = false
  pulseDegraded : t.alarmRaised (.run r .pulseDegraded) = false
  reverseFlow : t.alarmRaised (.run r .reverseFlow) = false
  proveFailed : t.alarm (.station .proveFailed) = s.alarm (.station .proveFailed)
  frame : t = { s with
    ret := t.ret, pulses := t.pulses, cen := t.cen, smc := t.smc, archive := t.archive, write := t.write
    erase := t.erase, alarms := t.alarms, flags := t.flags }

section Leaving

variable {s : State} {r : Run}

theorem State.serviceOut_eq (s : State) (r : Run) : s.serviceOut r = (s.takenOut r).leftService r := rfl

/-- Three conditions of a run cleared one after the other. -/
theorem State.clearedConditions (u : State) (r : Run) (v : State)
    (hv : v = ((u.clearAlarm (.run r .pulseError)).clearAlarm (.run r .pulseDegraded)).clearAlarm (.run r .reverseFlow)) :
    u.AlarmsMoved ([.run r .pulseError] ++ [.run r .pulseDegraded] ++ [.run r .reverseFlow]) v
      ∧ v.alarmRaised (.run r .pulseError) = false ∧ v.alarmRaised (.run r .pulseDegraded) = false
      ∧ v.alarmRaised (.run r .reverseFlow) = false := by
  have herror : u.AlarmsMoved _ (u.clearAlarm (.run r .pulseError)) := u.alarmsMoved_moveAlarm _ _
  have herrorOff : (u.clearAlarm (.run r .pulseError)).alarmRaised (.run r .pulseError) = false :=
    State.alarmRaised_setAlarm u (.run r .pulseError) false
  generalize u.clearAlarm (.run r .pulseError) = u1 at *
  have hdegraded : u1.AlarmsMoved _ (u1.clearAlarm (.run r .pulseDegraded)) := u1.alarmsMoved_moveAlarm _ _
  have hdegradedOff : (u1.clearAlarm (.run r .pulseDegraded)).alarmRaised (.run r .pulseDegraded) = false :=
    State.alarmRaised_setAlarm u1 (.run r .pulseDegraded) false
  generalize u1.clearAlarm (.run r .pulseDegraded) = u2 at *
  have hreverse : u2.AlarmsMoved _ (u2.clearAlarm (.run r .reverseFlow)) := u2.alarmsMoved_moveAlarm _ _
  have hreverseOff : (u2.clearAlarm (.run r .reverseFlow)).alarmRaised (.run r .reverseFlow) = false :=
    State.alarmRaised_setAlarm u2 (.run r .reverseFlow) false
  rw [← hv] at hreverse hreverseOff
  refine ⟨(herror.trans hdegraded).trans hreverse, ?_, ?_, hreverseOff⟩
  · rw [State.alarmRaised_congr (hreverse.other _ (by simp)), State.alarmRaised_congr (hdegraded.other _ (by simp))]
    exact herrorOff
  · rw [State.alarmRaised_congr (hreverse.other _ (by simp))]
    exact hdegradedOff

theorem State.takenOut_spec (s : State) (r : Run) : s.TakenOut (s.takenOut r) r := by
  have hended := s.finalPeriod_ended r
  unfold State.takenOut
  generalize s.finalPeriod r = f at hended
  obtain ⟨u, hu⟩ : ∃ u, u = (f.setService r .outOfService).modRun r RunPulse.atRest := ⟨_, rfl⟩
  rw [← hu]
  obtain ⟨hmoved, herror, hdegraded, hreverse⟩ := u.clearedConditions r _ rfl
  generalize ((u.clearAlarm (.run r .pulseError)).clearAlarm (.run r .pulseDegraded)).clearAlarm (.run r .reverseFlow) = t
    at *
  have huret : u.ret = { f.ret with service := f.ret.service.set r .outOfService } := by
    rw [hu]
    rfl
  have hupulses : u.pulses = f.pulses.set r f.pulses[r].atRest := by
    rw [hu]
    rfl
  have hucen : u.cen = f.cen := by
    rw [hu]
    rfl
  have hualarms : u.alarms = f.alarms := by
    rw [hu]
    rfl
  have huframe : u = { f with ret := u.ret, pulses := u.pulses } := by
    rw [hu]
    rfl
  have htframe := hmoved.frame
  have htret : t.ret = u.ret := by rw [htframe]
  have hself : f.pulses[r] = s.pulses[r].withoutCounts := by
    rw [hended.pulses]
    exact Vector.getElem_set_self _
  obtain ⟨rec, hlatest, hrec⟩ := hended.latest
  refine ⟨?_, ?_, ?_, ?_, ⟨rec, ?_, hrec⟩, herror, hdegraded, hreverse, ?_, ?_⟩
  · rw [htret, huret, hended.service]
  · rw [htret, huret]
    exact hended.marker
  · rw [htret, huret]
    exact hended.lastProve
  · rw [hmoved.pulses, hupulses, hself, hended.pulses, Vector.set_set]
  · rw [show t.cen = u.cen by rw [htframe], hucen]
    exact hlatest
  · exact ((hmoved.other _ (by simp)).trans (State.alarm_eq_of_alarms_eq hualarms _)).trans hended.proveFailed
  · rw [htframe, huframe, hended.frame]

/-- RUN SERVICE OUT of one run whose earlier steps are done. -/
theorem exec_serviceOut (hr : s.Ready) (hin : s.ret.service[r] = .inService) (hhandover : s.cen[r].handover = none)
    (hcomputed : s.cen[r].computed = none) : exec (.runService (noRuns.set r true) .out) s
      = .next { (((s.serviceOut r).appendAudit (.runService r .inService .outOfService)).settle) with
        reply := some ⟨.ok, [.u8 1, .u8 Status.ok.code]⟩ } := by
  have hsteps : s.finishSteps r = s := by
    unfold State.finishSteps
    rw [hhandover, hcomputed]
  have hf : takeRunService (noRuns.set r true) .out s
      = ((s.serviceOut r).appendAudit (.runService r .inService .outOfService), ⟨.ok, [.u8 1, .u8 Status.ok.code]⟩) := by
    unfold takeRunService
    rw [runsOf_single]
    simp [State.finishNamed, hin, hsteps, State.changeServices, State.changeService, Reply.okWith, listField]
  exact exec_of_request_answer hr rfl hf

end Leaving

section Left

variable {s x y : State} {r : Run}

/-- A run that has left service, its prove failed or not. -/
structure State.ServiceLeft (s t : State) (r : Run) : Prop where
  service : t.ret.service = s.ret.service.set r .outOfService
  run : t.pulses[r].flow = none ∧ t.pulses[r].timerFrom = none ∧ t.pulses[r].capture = none ∧ t.pulses[r].watch = none
    ∧ t.pulses[r].pulseState = s.pulses[r].pulseState ∧ t.pulses[r].counts = .zero
  latest : ∃ rec : PeriodRecord, t.cen[r].latest = some rec ∧ rec.final = true ∧ rec.good = s.pulses[r].counts.good
    ∧ rec.len = s.partialLength r
  alarms : t.alarmRaised (.run r .pulseError) = false ∧ t.alarmRaised (.run r .pulseDegraded) = false
    ∧ t.alarmRaised (.run r .reverseFlow) = false
  stands : s.proves r = false → t.psq = s.psq ∧ t.ret.marker = s.ret.marker ∧ t.ret.lastProve = s.ret.lastProve
    ∧ t.alarm (.station .proveFailed) = s.alarm (.station .proveFailed)
  fails : s.proves r = true → t.psq.state = .idle ∧ t.psq.route = noRuns ∧ t.psq.dirReverse = s.psq.dirReverse
    ∧ t.alarmRaised (.station .proveFailed) = true
    ∧ ∀ m : ProveMarker, s.ret.marker = some m → t.flags.proveFinished = true ∧ t.ret.marker = none
        ∧ t.ret.lastProve = s.ret.lastProve.set m.run
            (some ⟨s.clock, m.startTime, m.slot, s.psq.attempts, .failed .runLeftService⟩)
  frame : t = { s with
    ret := t.ret, pulses := t.pulses, cen := t.cen, psq := t.psq, smc := t.smc, archive := t.archive, write := t.write
    erase := t.erase, alarms := t.alarms, flags := t.flags }

theorem State.TakenOut.run (h : s.TakenOut x r) : x.pulses[r] = s.pulses[r].withoutCounts.atRest := by
  rw [h.pulses]
  exact Vector.getElem_set_self _

theorem State.serviceOut_left (s : State) (r : Run) : s.ServiceLeft (s.serviceOut r) r := by
  have hout := s.takenOut_spec r
  rw [State.serviceOut_eq]
  generalize s.takenOut r = x at hout
  have hrun := hout.run
  have hpsq : x.psq = s.psq := by rw [hout.frame]
  have hclock : x.clock = s.clock := by rw [hout.frame]
  have hproves : x.proves r = s.proves r := by
    unfold State.proves
    rw [hpsq]
  cases hprove : s.proves r with
  | false =>
    have hself : x.leftService r = x := if_neg (by rw [hproves, hprove]; simp)
    rw [hself]
    refine ⟨hout.service, ?_, hout.latest, ⟨hout.pulseError, hout.pulseDegraded, hout.reverseFlow⟩,
      fun _ => ⟨hpsq, hout.marker, hout.lastProve, hout.proveFailed⟩, fun h => ?_, ?_⟩
    · rw [hrun]
      exact ⟨rfl, rfl, rfl, rfl, rfl, rfl⟩
    · rw [hprove] at h
      cases h
    · rw [hout.frame]
  | true =>
    have hfail : x.leftService r = x.failProve .runLeftService := if_pos (hproves.trans hprove)
    have hfailed := x.failProve_failed .runLeftService
    have hmoved := x.proveMoved_failProve .runLeftService
    rw [hfail]
    generalize x.failProve .runLeftService = y at hfailed hmoved
    have hproveRun : x.proveRun = r := by
      unfold State.proves at hprove
      rw [Bool.and_eq_true, decide_eq_true_eq] at hprove
      unfold State.proveRun
      rw [hpsq, hprove.2]
      rfl
    have hyrun : y.pulses[r] = x.pulses[r].withoutPass := by
      subst hproveRun
      rw [hfailed.pulses]
      exact Vector.getElem_set_self _
    have hother {a : AlarmId} (ha : a ≠ .station .proveFailed) : y.alarmRaised a = x.alarmRaised a :=
      State.alarmRaised_congr (hfailed.other a ha)
    have hservice : y.ret.service = s.ret.service.set r .outOfService := by
      rw [hmoved.ret]
      exact hout.service
    have hatRest : y.pulses[r] = s.pulses[r].withoutCounts.atRest.withoutPass := by rw [hyrun, hrun]
    have hcen : y.cen = x.cen := by rw [hfailed.frame]
    have hlatest := hout.latest
    rw [← hcen] at hlatest
    have hidle : y.psq = s.psq.toIdle := hfailed.psq.trans (by rw [hpsq])
    have hmarker (m : ProveMarker) (hm : s.ret.marker = some m) : y.ret.marker = none
        ∧ y.ret.lastProve = s.ret.lastProve.set m.run
            (some ⟨s.clock, m.startTime, m.slot, s.psq.attempts, .failed .runLeftService⟩) := by
      rw [hfailed.ret, Retained.proveEnded_of_marker (hout.marker.trans hm), hclock, hpsq, hout.lastProve]
      exact ⟨rfl, rfl⟩
    have hframe := hfailed.frame
    rw [hout.frame] at hframe
    refine ⟨hservice, ?_, hlatest, ⟨(hother (by simp)).trans hout.pulseError,
      (hother (by simp)).trans hout.pulseDegraded, (hother (by simp)).trans hout.reverseFlow⟩, fun h => ?_, fun _ => ?_, ?_⟩
    · rw [hatRest]
      exact ⟨rfl, rfl, rfl, rfl, rfl, rfl⟩
    · rw [hprove] at h
      cases h
    · rw [hidle]
      exact ⟨rfl, rfl, rfl, hfailed.raised, fun m hm => ⟨hfailed.finished, hmarker m hm⟩⟩
    · rw [hframe]

end Left

/-- Settles O21: the final partial period, the conditions and the prove of the run by `State.ServiceLeft`, and the audit
entry and the update after it. -/
theorem runServiceOutEndsThePeriod : Obligations.RunServiceOutEndsThePeriod := by
  intro s r u hr hin htimer hhandover hcomputed
  have hexec := exec_serviceOut hr hin hhandover hcomputed
  have hleft := s.serviceOut_left r
  have hlength : s.partialLength r = min 1000 ((s.now - u) / 10000) := by
    unfold State.partialLength
    rw [htimer]
    rfl
  generalize s.serviceOut r = y at hexec hleft
  obtain ⟨z, hz⟩ : ∃ z, z = y.appendAudit (.runService r .inService .outOfService) := ⟨_, rfl⟩
  rw [← hz] at hexec
  have hsettled : z.settle.Settled := State.settled_settle
  rw [z.settle_eq_with] at hexec hsettled
  generalize z.settle.bankA = bankA at hexec hsettled
  generalize z.settle.bankB = bankB at hexec hsettled
  generalize z.settle.current = current at hexec hsettled
  subst hz
  obtain ⟨hflow, htimerOff, hcapture, hwatch, hstate, hcounts⟩ := hleft.run
  obtain ⟨herror, hdegraded, hreverse⟩ := hleft.alarms
  obtain ⟨rec, hlatest, hfinal, hgood, hlen⟩ := hleft.latest
  have haudit : y.audit = s.audit := by rw [hleft.frame]
  have hnext : y.auditNext = s.auditNext := by rw [hleft.frame]
  have hclock : y.clock = s.clock := by rw [hleft.frame]
  refine ⟨_, hexec, rfl, hleft.service, hsettled, hflow, htimerOff, hcapture, hwatch, hstate, hcounts,
    ⟨rec, hlatest, hfinal, hgood, hlen.trans hlength⟩, herror, hdegraded, hreverse, hleft.stands, hleft.fails, ?_, ?_, ?_⟩
  · show y.audit.write ⟨y.auditNext, y.clock, _⟩ = _
    rw [haudit, hnext, hclock]
  · show y.auditNext + 1 = _
    rw [hnext]
  · rw [hleft.frame]
    rfl

end Sys2Proof.Machine
end

section
/-! RUN SERVICE of runs within the steps of an expiry, and of runs that are already where it would put them (R2, R4). -/

namespace Sys2Proof.Machine

set_option Elab.async false

/-! ### The named runs in run order -/

section Named

variable {runs : RunSet} {r q : Run}

theorem mem_runsOf : q ∈ runsOf runs ↔ runs[q] = true := by
  have hmem : q ∈ allRuns := by
    revert q
    decide
  unfold runsOf
  rw [List.mem_filter]
  exact and_iff_right hmem

/-- The named runs before a named run, and those behind it. -/
theorem runsOf_split (h : runs[r] = true) : ∃ before behind : List Run, runsOf runs = before ++ r :: behind
    ∧ (∀ q ∈ before, q < r ∧ runs[q] = true) ∧ (∀ q ∈ behind, r < q ∧ runs[q] = true)
    ∧ runsOf (runs.set r false) = before ++ behind := by
  have hsorted : allRuns.Pairwise (· < ·) := by decide
  have hall := hsorted.filter (p := fun r => runs[r])
  obtain ⟨before, behind, hsplit⟩ := List.append_of_mem (mem_runsOf.mpr h)
  have hpair : (before ++ r :: behind).Pairwise (· < ·) := hsplit ▸ hall
  obtain ⟨-, hcons, hcross⟩ := List.pairwise_append.mp hpair
  obtain ⟨hbehind, -⟩ := List.pairwise_cons.mp hcons
  have hrun {q : Run} (hq : q ∈ before ++ r :: behind) : runs[q] = true := mem_runsOf.mp (hsplit ▸ hq)
  refine ⟨before, behind, hsplit, fun q hq => ⟨hcross q hq r List.mem_cons_self, hrun (List.mem_append_left _ hq)⟩,
    fun q hq => ⟨hbehind q hq, hrun (List.mem_append_right _ (List.mem_cons_of_mem r hq))⟩, ?_⟩
  have hset : runsOf (runs.set r false) = (runsOf runs).filter fun q => decide (q ≠ r) := by
    unfold runsOf
    rw [List.filter_filter]
    refine List.filter_congr fun q _ => ?_
    by_cases hq : r = q
    · subst hq
      rw [show (runs.set r false)[r] = false from Vector.getElem_set_self _]
      simp
    · rw [show (runs.set r false)[q] = runs[q] from Vector.getElem_set_ne _ _ fun heq => hq (Fin.ext heq)]
      simp [Ne.symm hq]
  have hkeep {l : List Run} (hl : ∀ q ∈ l, q ≠ r) : l.filter (fun q => decide (q ≠ r)) = l :=
    List.filter_eq_self.mpr fun q hq => decide_eq_true (hl q hq)
  rw [hset, hsplit, List.filter_append, List.filter_cons_of_neg (by simp),
    hkeep fun q hq => (hcross q hq r List.mem_cons_self).ne, hkeep fun q hq => (hbehind q hq).ne']

theorem runsOf_noRuns : runsOf noRuns = [] := by decide

end Named

/-! ### The steps of an expiry (R4) -/

section Steps

variable {s t u : State} {r q : Run}

/-- No step of an expiry of the run is outstanding. -/
def State.StepsDone (s : State) (r : Run) : Prop := s.cen[r].handover = none ∧ s.cen[r].computed = none

theorem State.finishSteps_done (h : s.StepsDone r) : s.finishSteps r = s := by
  unfold State.finishSteps
  rw [h.1, h.2]

theorem State.finishSteps_pending (h : s.cen[r].handover ≠ none ∨ s.cen[r].computed ≠ none) :
    s.finishSteps r = (creditStep r (computeStep r s)).settle := by
  unfold State.finishSteps
  split
  · next hhandover hcomputed => exact absurd hcomputed (h.resolve_left fun hne => hne hhandover)
  · rfl

/-- What an outstanding computation leaves: the run's period computed, and its two conditions moved. -/
structure State.PeriodComputed (s t : State) (r : Run) : Prop where
  frame : t = { s with cen := t.cen, alarms := t.alarms, flags := t.flags }
  own : ∃ c : ComputedPeriod, t.cen[r].computed = some c ∧ t.cen[r].handover = none
  others : ∀ q : Run, q ≠ r → t.cen[q] = s.cen[q]

theorem computeStep_computed (h : s.cen[r].handover ≠ none ∨ s.cen[r].computed ≠ none) :
    s.PeriodComputed (computeStep r s) r := by
  cases hhandover : s.cen[r].handover with
  | none =>
    have hself : computeStep r s = s := by
      unfold computeStep
      rw [hhandover]
    obtain ⟨c, hc⟩ := Option.ne_none_iff_exists'.mp (h.resolve_left fun hne => hne hhandover)
    rw [hself]
    exact ⟨rfl, ⟨c, hc, hhandover⟩, fun _ _ => rfl⟩
  | some k =>
    obtain ⟨c, hc⟩ : ∃ c, c = s.computedPeriod r k := ⟨_, rfl⟩
    obtain ⟨w, hw⟩ : ∃ w, w = s.modCen r fun x => { x with handover := none, computed := some c } := ⟨_, rfl⟩
    have hcompute : computeStep r s = w.computationAlarms r c.record := by
      unfold computeStep
      rw [hhandover, hw, hc]
    have hmoved := w.alarmsMoved_computationAlarms (r := r) c.record
    rw [← hcompute] at hmoved
    have hwframe : w = { s with cen := w.cen } := by
      rw [hw]
      rfl
    have hwcen (q : Run) : w.cen[q] = (modAt s.cen r fun x => { x with handover := none, computed := some c })[q] := by
      rw [hw]
      rfl
    have hframe := hmoved.frame
    have hcen : (computeStep r s).cen = w.cen := by rw [hframe]
    rw [hwframe] at hframe
    refine ⟨by rw [hframe], ⟨c, ?_, ?_⟩, fun q hq => ?_⟩
    · rw [hcen, hwcen, modAt_same]
    · rw [hcen, hwcen, modAt_same]
    · rw [hcen, hwcen, modAt_other _ _ _ _ hq.symm]

/-- What the crediting of a period leaves for a request that follows it. -/
structure State.StepsFinished (s t : State) (r : Run) : Prop where
  phase : t.phase = s.phase
  link : t.link = s.link
  reply : t.reply = s.reply
  service : t.ret.service = s.ret.service
  own : t.StepsDone r
  others : ∀ q : Run, q ≠ r → t.cen[q] = s.cen[q]

theorem creditStep_finished {c : ComputedPeriod} (hc : s.cen[r].computed = some c) (hhandover : s.cen[r].handover = none) :
    s.StepsFinished (creditStep r s) r := by
  obtain ⟨w, hkept, hcen, hstep⟩ := creditStep_cases hc
  have hproduct := w.proveMoved_productTest r c.record
  have hclosed := (w.productTest r c.record).archiveMoved_closeTests
  have hflow := (w.productTest r c.record).closeTests.proveMoved_decideFlow r c.record
  rw [← hstep] at hflow
  generalize creditStep r s = t at hflow
  generalize (w.productTest r c.record).closeTests = v at hclosed hflow
  generalize w.productTest r c.record = x at hproduct hclosed
  have hservice : t.ret.service = w.ret.service := by rw [hflow.ret, hclosed.ret, hproduct.ret]
  have hframe : t.phase = w.phase ∧ t.link = w.link ∧ t.reply = w.reply ∧ t.cen = w.cen := by
    rw [hflow.frame, hclosed.frame, hproduct.frame]
    exact ⟨rfl, rfl, rfl, rfl⟩
  obtain ⟨hphase, hlink, hreply, htcen⟩ := hframe
  have hw : w.phase = s.phase ∧ w.link = s.link ∧ w.reply = s.reply := by
    rw [hkept.frame]
    exact ⟨rfl, rfl, rfl⟩
  obtain ⟨hwphase, hwlink, hwreply⟩ := hw
  have hself : t.cen[r] = { s.cen[r] with computed := none, latest := some c.record } := by
    rw [htcen, hcen]
    exact Vector.getElem_set_self _
  refine ⟨hphase.trans hwphase, hlink.trans hwlink, hreply.trans hwreply, hservice.trans hkept.service,
    ⟨by rw [hself]; exact hhandover, by rw [hself]⟩, fun q hq => ?_⟩
  rw [htcen, hcen]
  exact Vector.getElem_set_ne _ _ fun heq => hq (Fin.ext heq.symm)

theorem State.StepsFinished.settle (h : s.StepsFinished t r) : s.StepsFinished t.settle r := by
  rw [t.settle_eq_with]
  exact ⟨h.phase, h.link, h.reply, h.service, h.own, h.others⟩

/-- The outstanding steps of a run, as the two commands of the model and as one step of RUN SERVICE. -/
theorem finishSteps_commands (hr : s.Ready) (h : s.cen[r].handover ≠ none ∨ s.cen[r].computed ≠ none) :
    exec (.periodComputation r) s = .next (computeStep r s)
      ∧ exec (.periodCrediting r) (computeStep r s) = .next (s.finishSteps r)
      ∧ s.StepsFinished (s.finishSteps r) r ∧ (s.finishSteps r).Settled := by
  obtain ⟨hrun, -, hset⟩ := hr
  have hcomputed := computeStep_computed h
  have hstep := State.finishSteps_pending h
  have hsettled : (computeStep r s).Settled := by
    rw [hcomputed.frame]
    exact hset
  have hphase : (computeStep r s).phase = .running := by
    rw [hcomputed.frame]
    exact hrun
  obtain ⟨c, hc, hhandover⟩ := hcomputed.own
  have hfinished := (creditStep_finished hc hhandover).settle
  refine ⟨exec_of_event_settled hrun rfl hsettled, ?_, ?_, ?_⟩
  · rw [hstep]
    exact exec_of_event hphase rfl
  · rw [hstep]
    have hframe : (computeStep r s).phase = s.phase ∧ (computeStep r s).link = s.link ∧ (computeStep r s).reply = s.reply
        ∧ (computeStep r s).ret = s.ret := by
      rw [hcomputed.frame]
      exact ⟨rfl, rfl, rfl, rfl⟩
    obtain ⟨hphase', hlink, hreply, hret⟩ := hframe
    exact ⟨hfinished.phase.trans hphase', hfinished.link.trans hlink, hfinished.reply.trans hreply,
      hfinished.service.trans (by rw [hret]), hfinished.own,
      fun q hq => (hfinished.others q hq).trans (hcomputed.others q hq)⟩
  · rw [hstep]
    exact State.settled_settle

/-- Where no named run in service has outstanding steps, RUN SERVICE has none to do first. -/
theorem State.finishNamed_done {rs : List Run} (h : ∀ q ∈ rs, s.ret.service[q] = .inService → s.StepsDone q) :
    s.finishNamed rs = s := by
  induction rs with
  | nil => rfl
  | cons q rs ih =>
    have hself : (if s.ret.service[q] = .inService then s.finishSteps q else s) = s := by
      split
      · next hin => exact State.finishSteps_done (h q List.mem_cons_self hin)
      · rfl
    show State.finishNamed (if s.ret.service[q] = .inService then s.finishSteps q else s) rs = s
    rw [hself]
    exact ih fun x hx => h x (List.mem_cons_of_mem q hx)

theorem State.finishNamed_append (s : State) (xs ys : List Run) :
    s.finishNamed (xs ++ ys) = (s.finishNamed xs).finishNamed ys := List.foldl_append

theorem State.finishNamed_cons (s : State) (ys : List Run) (hin : s.ret.service[r] = .inService) :
    s.finishNamed (r :: ys) = (s.finishSteps r).finishNamed ys := by
  show State.finishNamed (if s.ret.service[r] = .inService then s.finishSteps r else s) ys = _
  rw [if_pos hin]

/-- The steps of one run done first leave nothing of them to a RUN SERVICE that names it. -/
theorem State.finishNamed_finished {before behind : List Run} (hbefore : ∀ q ∈ before, q ≠ r)
    (hdone : ∀ q ∈ before, s.ret.service[q] = .inService → s.StepsDone q) (hin : s.ret.service[r] = .inService)
    (hfinished : s.StepsFinished (s.finishSteps r) r) :
    s.finishNamed (before ++ r :: behind) = (s.finishSteps r).finishNamed (before ++ r :: behind) := by
  have hafter (q : Run) (hq : q ∈ before) (hqin : (s.finishSteps r).ret.service[q] = .inService) :
      (s.finishSteps r).StepsDone q := by
    rw [hfinished.service] at hqin
    have hcen := hfinished.others q (hbefore q hq)
    unfold State.StepsDone
    rw [hcen]
    exact hdone q hq hqin
  have hinAfter : (s.finishSteps r).ret.service[r] = .inService := by
    rw [hfinished.service]
    exact hin
  rw [State.finishNamed_append, State.finishNamed_append, State.finishNamed_done hdone, State.finishNamed_done hafter,
    State.finishNamed_cons s behind hin, State.finishNamed_cons _ behind hinAfter,
    State.finishSteps_done (s := s.finishSteps r) hfinished.own]

end Steps

end Sys2Proof.Machine
end

section
/-! A run that enters or leaves service reads neither the banks of retained memory nor the reply before it: with these
changed the same comes of it (R2). -/

namespace Sys2Proof.Machine

set_option Elab.async false

/-! ### Banks and reply aside -/

/-- A state with other banks and another reply. -/
def State.withBanks (s : State) (a b : Bank) (k : BankId) (p : Option Reply) : State :=
  { s with bankA := a, bankB := b, current := k, reply := p }

/-- A change of the state that neither reads nor writes the banks and the reply. -/
def BankFree (f : State → State) : Prop :=
  ∀ (s : State) (a b : Bank) (k : BankId) (p : Option Reply), f (s.withBanks a b k p) = (f s).withBanks a b k p

/-- A figure of the state that is not taken from the banks and the reply. -/
def BankBlind {α : Type} (x : State → α) : Prop :=
  ∀ (s : State) (a b : Bank) (k : BankId) (p : Option Reply), x (s.withBanks a b k p) = x s

section Closure

variable {f g : State → State} {α : Type}

theorem BankFree.self : BankFree fun s => s := fun _ _ _ _ _ => rfl

theorem BankFree.comp (hg : BankFree g) (hf : BankFree f) : BankFree fun s => g (f s) := fun s a b k p => by
  show g (f (s.withBanks a b k p)) = (g (f s)).withBanks a b k p
  rw [hf, hg]

/-- A change that depends on a figure read from elsewhere. -/
theorem BankFree.read {x : State → α} {F : α → State → State} (hx : BankBlind x) (hF : ∀ v, BankFree (F v)) :
    BankFree fun s => F (x s) s := fun s a b k p => by
  show F (x (s.withBanks a b k p)) (s.withBanks a b k p) = (F (x s) s).withBanks a b k p
  rw [hx, hF]

theorem BankFree.cond {c : State → Bool} (hc : BankBlind c) (hf : BankFree f) (hg : BankFree g) :
    BankFree fun s => if c s then f s else g s :=
  BankFree.read (x := c) (F := fun v s => if v then f s else g s) hc fun v => by
    cases v
    exacts [hg, hf]

theorem BankFree.ite {c : State → Prop} [DecidablePred c] (hc : BankBlind fun s => decide (c s)) (hf : BankFree f)
    (hg : BankFree g) : BankFree fun s => if c s then f s else g s := fun s a b k p => by
  have hiff : c (s.withBanks a b k p) ↔ c s := decide_eq_decide.mp (hc s a b k p)
  dsimp only
  by_cases h : c s
  · rw [if_pos h, if_pos (hiff.mpr h), hf]
  · rw [if_neg h, if_neg fun h' => h (hiff.mp h'), hg]

theorem BankFree.foldl {F : State → α → State} (hF : ∀ v, BankFree fun s => F s v) (vs : List α) :
    BankFree fun s => vs.foldl F s := by
  induction vs with
  | nil => exact .self
  | cons v vs ih => exact BankFree.comp ih (hF v)

end Closure

/-! ### Alarms, batches and the archive -/

section Shared

variable (x : AlarmId)

theorem bankFree_moveAlarm (f : AlarmState → AlarmState) : BankFree fun s => s.moveAlarm x f := by
  unfold State.moveAlarm
  exact .ite (fun _ _ _ _ _ => rfl) .self fun _ _ _ _ _ => rfl

theorem bankFree_raiseAlarm : BankFree fun s => s.raiseAlarm x := bankFree_moveAlarm x _

theorem bankFree_clearAlarm : BankFree fun s => s.clearAlarm x := bankFree_moveAlarm x _

theorem bankFree_setAlarm (raised : Bool) : BankFree fun s => s.setAlarm x raised := by
  cases raised
  exacts [bankFree_clearAlarm x, bankFree_raiseAlarm x]

theorem bankFree_pulseAlarm : BankFree fun s => s.pulseAlarm x := .comp (bankFree_clearAlarm x) (bankFree_raiseAlarm x)

theorem bankFree_modBatch (id : Nat) (f : Batch → Batch) : BankFree fun s => s.modBatch id f := fun _ _ _ _ _ => rfl

theorem bankFree_suspendErase : BankFree State.suspendErase := by
  refine BankFree.read (x := State.erase) (F := fun v s => match v with
    | none => s
    | some e =>
      match e.since with
      | none => s
      | some t =>
        { s.modArchive (fun a => a.modSector e.sector (fun x => { x with state := .eraseSuspended })) with
          erase := some { e with remaining := e.remaining - (s.now - t), since := none } })
    (fun _ _ _ _ _ => rfl) fun v => ?_
  cases v with
  | none => exact .self
  | some e =>
    dsimp only
    cases e.since with
    | none => exact .self
    | some t => exact fun _ _ _ _ _ => rfl

theorem bankFree_startWrite (a : Archive) (i j : Sector) : BankFree fun s => s.startWrite a i j :=
  .comp bankFree_suspendErase (.comp (bankFree_clearAlarm _) fun _ _ _ _ _ => rfl)

theorem bankFree_tryStartWrite : BankFree State.tryStartWrite := by
  refine BankFree.read (x := fun s => (s.ret.pendingTickets, s.write, s.archive.chooseSlot?)) (F := fun v s =>
    match v.1, v.2.1 with
    | p :: _, none =>
      if p.writing then s
      else
        match v.2.2 with
        | some (a, i, j) => s.startWrite a i j
        | none => s.raiseAlarm (.station .archiveFull)
    | [], _ => s
    | _ :: _, some _ => s) (fun _ _ _ _ _ => rfl) fun ⟨ps, w, slot⟩ => ?_
  dsimp only
  split
  · split
    · exact .self
    · split
      · exact bankFree_startWrite _ _ _
      · exact bankFree_raiseAlarm _
  · exact .self
  · exact .self

theorem bankFree_closeBatch (b : Batch) : BankFree fun s => s.closeBatch b :=
  .comp bankFree_tryStartWrite fun _ _ _ _ _ => rfl

theorem bankFree_closeTest (b : Batch) : BankFree fun s => s.closeTest b := by
  unfold State.closeTest
  refine .cond (fun _ _ _ _ _ => rfl) (.cond (fun _ _ _ _ _ => rfl) ?_ (bankFree_modBatch _ _)) .self
  exact .ite (fun _ _ _ _ _ => rfl) .self (bankFree_closeBatch b)

theorem bankFree_closeTests : BankFree State.closeTests :=
  BankFree.read (x := fun s => s.ret.ending) (F := fun bs s => bs.foldl State.closeTest s) (fun _ _ _ _ _ => rfl)
    (BankFree.foldl bankFree_closeTest)

end Shared

/-! ### The prove -/

section Prove

theorem bankFree_recordOutcome (attempts : Nat) (outcome : ProveOutcome) :
    BankFree fun s => s.recordOutcome attempts outcome := by
  refine BankFree.read (x := fun s => s.ret.marker) (F := fun v s => match v with
    | none => s.addFlag .proveFinished
    | some m =>
      (s.modRet (fun ret =>
        { ret with
          lastProve := ret.lastProve.set m.run (some (lastProveOf m s.clock attempts outcome))
          marker := none })).addFlag .proveFinished) (fun _ _ _ _ _ => rfl) fun v => ?_
  cases v <;> exact fun _ _ _ _ _ => rfl

theorem bankFree_completeProve (outcome : ProveOutcome) : BankFree fun s => s.completeProve outcome :=
  BankFree.read (x := fun s => s.psq.attempts) (F := fun v s => (s.recordOutcome v outcome).modPsq ProverSeq.toIdle)
    (fun _ _ _ _ _ => rfl) fun v => .comp (g := fun s => s.modPsq ProverSeq.toIdle) (fun _ _ _ _ _ => rfl)
      (bankFree_recordOutcome v outcome)

theorem bankFree_failProve (cause : ProveCause) : BankFree fun s => s.failProve cause :=
  .comp (bankFree_completeProve _) (.comp (bankFree_raiseAlarm _) fun _ _ _ _ _ => rfl)

end Prove

/-! ### The sampler -/

section Sampler

theorem bankFree_missGrab (id : Nat) : BankFree fun s => s.missGrab id := bankFree_modBatch id _

theorem bankFree_discardQueue : BankFree State.discardQueue := by
  refine BankFree.read (x := fun s => s.smc.queue) (F := fun v s => match v with
    | [] => s
    | q =>
      (q.foldl (fun s e => s.missGrab e.batchId) (s.modSmc (fun x => { x with queue := [] }))).pulseAlarm
        (.station .samplerMissed)) (fun _ _ _ _ _ => rfl) fun v => ?_
  cases v with
  | nil => exact .self
  | cons e q =>
    exact .comp (bankFree_pulseAlarm _) (.comp (BankFree.foldl (fun e => bankFree_missGrab e.batchId) (e :: q))
      fun _ _ _ _ _ => rfl)

theorem bankFree_halt (can : Can) : BankFree fun s => s.halt can :=
  .comp (bankFree_raiseAlarm _) (.comp bankFree_discardQueue fun _ _ _ _ _ => rfl)

theorem bankFree_startGrab (e : OwedGrab) (rest : List OwedGrab) : BankFree fun s => s.startGrab e rest := by
  obtain ⟨id, can⟩ := e
  cases can <;> exact fun _ _ _ _ _ => rfl

theorem bankFree_examineHead : BankFree State.examineHead := by
  refine BankFree.read (x := fun s => (s.smc.state, s.smc.queue)) (F := fun v s => match v.1, v.2 with
    | .ready, e :: rest =>
      if e.can ≠ s.ret.selectedCan then s.startSwap e.can
      else if s.canIsFull e.can then s.halt e.can
      else s.startGrab e rest
    | .ready, [] => s
    | .off, _ => s
    | .grabbing, _ => s
    | .swapping, _ => s
    | .halted, _ => s) (fun _ _ _ _ _ => rfl) fun ⟨state, queue⟩ => ?_
  dsimp only
  split
  · next e rest =>
    have hfull : BankBlind fun s => s.canIsFull e.can := by
      obtain ⟨id, can⟩ := e
      cases can <;> exact fun _ _ _ _ _ => rfl
    exact .ite (fun _ _ _ _ _ => rfl) (fun _ _ _ _ _ => rfl) (.cond hfull (bankFree_halt e.can) (bankFree_startGrab e rest))
  all_goals exact .self

theorem bankFree_dueGrab (id : Nat) (can : Can) : BankFree fun s => s.dueGrab id can := by
  unfold State.dueGrab
  dsimp only
  exact .cond (fun _ _ _ _ _ => rfl) (.comp (bankFree_pulseAlarm _) fun _ _ _ _ _ => rfl) fun _ _ _ _ _ => rfl

theorem bankFree_dueGrabs (id : Nat) (can : Can) (n : Nat) : BankFree fun s => s.dueGrabs id can n := by
  induction n with
  | zero => exact .self
  | succ n ih => exact .comp ih (bankFree_dueGrab id can)

theorem bankFree_sampleBatch (b : Batch) (gsv : Nat) : BankFree fun s => s.sampleBatch b gsv := by
  refine BankFree.read (x := fun s => (s.ret.enable, s.params.station.grabVolume * 1000)) (F := fun v s => match v.1 with
    | .off => if 0 < gsv then s.modBatch b.record.id Batch.markSamplingOff else s
    | .on =>
      ((s.modBatch b.record.id (Batch.modSampling (fun x =>
        { x with accumulator := (b.sampling.accumulator + gsv) % v.2 }))).dueGrabs b.record.id b.can
          ((b.sampling.accumulator + gsv) / v.2)).examineHead) (fun _ _ _ _ _ => rfl) fun ⟨enable, volume⟩ => ?_
  cases enable with
  | off =>
    dsimp only
    split
    exacts [bankFree_modBatch _ _, .self]
  | on => exact .comp bankFree_examineHead (.comp (bankFree_dueGrabs _ _ _) (bankFree_modBatch _ _))

theorem bankFree_sampleCredit (target : CreditTarget) (gsv : Nat) : BankFree fun s => s.sampleCredit target gsv := by
  cases target with
  | unbatched => exact .self
  | batch id =>
    refine BankFree.read (x := fun s => s.heldBatch? id) (F := fun v s => match v with
      | some b => s.sampleBatch b gsv
      | none => s) (fun _ _ _ _ _ => rfl) fun v => ?_
    cases v with
    | none => exact .self
    | some b => exact bankFree_sampleBatch b gsv

end Sampler

/-! ### Crediting (R89 to R93, R115 to R117) -/

section Crediting

variable {r : Run}

theorem bankFree_slowdownTest (b : Batch) : BankFree fun s => s.slowdownTest b := by
  unfold State.slowdownTest
  split
  · exact .self
  · exact .ite (fun _ _ _ _ _ => rfl) (fun _ _ _ _ _ => rfl) .self

theorem bankFree_endForTarget (b : Batch) (leaving : Option Run) : BankFree fun s => s.endForTarget b leaving :=
  .ite (fun _ _ _ _ _ => rfl) (fun _ _ _ _ _ => rfl) fun _ _ _ _ _ => rfl

theorem bankFree_targetTest (b : Batch) (leaving : Option Run) : BankFree fun s => s.targetTest b leaving := by
  unfold State.targetTest
  split
  · exact .self
  · refine .cond (fun _ _ _ _ _ => rfl) (bankFree_endForTarget b leaving) (.ite (fun _ _ _ _ _ => rfl) ?_ .self)
    exact .comp (bankFree_endForTarget _ leaving) fun _ _ _ _ _ => rfl

theorem bankFree_batchTests (credit : CreditTarget) (leaving : Option Run) :
    BankFree fun s => s.batchTests credit leaving := by
  refine BankFree.read (x := fun s => s.ret.active) (F := fun v s => match credit, v with
    | .batch id, some b => if b.record.id = id then (s.slowdownTest b).targetTest b leaving else s
    | .batch _, none => s
    | .unbatched, _ => s) (fun _ _ _ _ _ => rfl) fun v => ?_
  split
  · split
    exacts [.comp (bankFree_targetTest _ leaving) (bankFree_slowdownTest _), .self]
  · exact .self
  · exact .self

theorem bankFree_payObligation (c : ComputedPeriod) : BankFree fun s => s.payObligation r c := fun s a b k p => by
  dsimp only
  rw [State.payObligation_eq, State.payObligation_eq]
  rfl

theorem bankFree_creditTarget (rec : PeriodRecord) (before : CumulativeTotals) :
    BankFree fun s => s.creditTarget r rec before := by
  unfold State.creditTarget
  split
  · exact fun _ _ _ _ _ => rfl
  · dsimp only
    split
    · exact .comp (bankFree_raiseAlarm _) fun _ _ _ _ _ => rfl
    · exact fun _ _ _ _ _ => rfl

theorem bankFree_productTest (rec : PeriodRecord) : BankFree fun s => s.productTest r rec :=
  .cond (fun _ _ _ _ _ => rfl) (bankFree_failProve _) .self

theorem bankFree_credit (c : ComputedPeriod) : BankFree fun s => s.credit r c := by
  refine BankFree.read (x := fun s => s.ret.runTotals[r]) (F := fun before s =>
    ((((((s.creditRun r c).creditTarget r c.record before).batchTests c.record.target (leavingRun r c.record)).payObligation
      r c).sampleCredit c.record.target c.record.gsv).productTest r c.record).closeTests) (fun _ _ _ _ _ => rfl)
    fun before => ?_
  exact .comp bankFree_closeTests (.comp (bankFree_productTest _) (.comp (bankFree_sampleCredit _ _)
    (.comp (bankFree_payObligation c) (.comp (bankFree_batchTests _ _) (.comp (bankFree_creditTarget _ before)
      fun _ _ _ _ _ => rfl)))))

theorem bankFree_decideFlow (rec : PeriodRecord) : BankFree fun s => s.decideFlow r rec := by
  unfold State.decideFlow
  refine .cond (fun _ _ _ _ _ => rfl) .self (.ite (fun _ _ _ _ _ => rfl) (fun _ _ _ _ _ => rfl) ?_)
  exact .comp (g := fun s => if s.proves r then s.failProve .flowStopped else s)
    (.cond (fun _ _ _ _ _ => rfl) (bankFree_failProve _) .self) fun _ _ _ _ _ => rfl

theorem bankFree_creditStep : BankFree (creditStep r) := by
  refine BankFree.read (x := fun s => s.cen[r].computed) (F := fun v s => match v with
    | none => s
    | some c => (s.credit r c).decideFlow r c.record) (fun _ _ _ _ _ => rfl) fun v => ?_
  cases v with
  | none => exact .self
  | some c => exact .comp (bankFree_decideFlow _) (bankFree_credit c)

end Crediting

/-! ### The computation and the final partial period (R67, R4) -/

section Leaving

variable {r : Run}

theorem bankFree_computationAlarms (rec : PeriodRecord) : BankFree fun s => s.computationAlarms r rec := by
  unfold State.computationAlarms
  split
  · exact .comp (bankFree_clearAlarm _) (bankFree_clearAlarm _)
  · exact .read (F := fun v s => (s.setAlarm (.run r .mfUndefined) rec.flags.mfDefault).setAlarm (.run r .highRate) v)
      (x := fun s => decide (s.params.meter[r].maxRate < rec.q)) (fun _ _ _ _ _ => rfl)
      fun v => .comp (bankFree_setAlarm _ v) (bankFree_setAlarm _ _)

theorem bankBlind_computedPeriod (h : Handover) : BankBlind fun s => s.computedPeriod r h := fun _ _ _ _ _ => rfl

theorem bankFree_computeStep : BankFree (computeStep r) := by
  refine BankFree.read (x := fun s => s.cen[r].handover) (F := fun v s => match v with
    | none => s
    | some h =>
      let c := s.computedPeriod r h
      (s.modCen r (fun x => { x with handover := none, computed := some c })).computationAlarms r c.record)
    (fun _ _ _ _ _ => rfl) fun v => ?_
  cases v with
  | none => exact .self
  | some h =>
    refine .read (F := fun c s =>
      (s.modCen r (fun x => { x with handover := none, computed := some c })).computationAlarms r c.record)
      (bankBlind_computedPeriod h) fun c => ?_
    exact .comp (bankFree_computationAlarms _) fun _ _ _ _ _ => rfl

theorem bankFree_finalPeriod : BankFree fun s => s.finalPeriod r :=
  .comp bankFree_creditStep (.comp bankFree_computeStep fun _ _ _ _ _ => rfl)

theorem bankFree_leftService : BankFree fun s => s.leftService r :=
  .cond (fun _ _ _ _ _ => rfl) (bankFree_failProve _) .self

theorem bankFree_takenOut : BankFree fun s => s.takenOut r := by
  have hrest : BankFree fun s => (s.setService r .outOfService).modRun r RunPulse.atRest := fun _ _ _ _ _ => rfl
  have hended := hrest.comp (bankFree_finalPeriod (r := r))
  have herror := (bankFree_clearAlarm (.run r .pulseError)).comp hended
  have hdegraded := (bankFree_clearAlarm (.run r .pulseDegraded)).comp herror
  exact (bankFree_clearAlarm (.run r .reverseFlow)).comp hdegraded

theorem bankFree_serviceOut : BankFree fun s => s.serviceOut r := bankFree_leftService.comp bankFree_takenOut

theorem bankFree_serviceIn : BankFree fun s => s.serviceIn r := .comp (bankFree_clearAlarm _) fun _ _ _ _ _ => rfl

end Leaving

/-! ### RUN SERVICE (R2) -/

section Service

variable {f : State → State}

/-- A change free of the banks and the reply keeps them. -/
theorem BankFree.keeps (hf : BankFree f) (s : State) :
    (f s).bankA = s.bankA ∧ (f s).bankB = s.bankB ∧ (f s).current = s.current ∧ (f s).reply = s.reply := by
  have hself : f s = (f s).withBanks s.bankA s.bankB s.current s.reply := hf s s.bankA s.bankB s.current s.reply
  rw [hself]
  exact ⟨rfl, rfl, rfl, rfl⟩

theorem bankFree_appendAudit (body : AuditBody) : BankFree fun s => s.appendAudit body := fun _ _ _ _ _ => rfl

theorem State.changeService_withBanks (s : State) (dir : Direction) (r : Run) (a b : Bank) (k : BankId)
    (p : Option Reply) : (s.withBanks a b k p).changeService dir r
      = ((s.changeService dir r).1.withBanks a b k p, (s.changeService dir r).2) := by
  have hinto := BankFree.comp (bankFree_appendAudit (.runService r .outOfService .inService))
    (bankFree_serviceIn (r := r)) s a b k p
  have hout := BankFree.comp (bankFree_appendAudit (.runService r .inService .outOfService))
    (bankFree_serviceOut (r := r)) s a b k p
  have hservice : (s.withBanks a b k p).ret.service[r] = s.ret.service[r] := rfl
  unfold State.changeService
  rw [hservice]
  cases dir <;> cases s.ret.service[r]
  · exact Prod.ext hinto rfl
  · rfl
  · rfl
  · exact Prod.ext hout rfl

theorem State.changeServices_withBanks (s : State) (dir : Direction) (rs : List Run) (a b : Bank) (k : BankId)
    (p : Option Reply) : (s.withBanks a b k p).changeServices dir rs
      = ((s.changeServices dir rs).1.withBanks a b k p, (s.changeServices dir rs).2) := by
  induction rs generalizing s with
  | nil => rfl
  | cons r rs ih =>
    unfold State.changeServices
    dsimp only
    rw [State.changeService_withBanks, ih]

theorem bankFree_changeServices (dir : Direction) (rs : List Run) : BankFree fun s => (s.changeServices dir rs).1 :=
  fun s a b k p => congrArg Prod.fst (s.changeServices_withBanks dir rs a b k p)

end Service

end Sys2Proof.Machine
end

section
/-! RUN SERVICE of one run and of several (R2, R3): O20. -/

namespace Sys2Proof.Machine

set_option Elab.async false

/-! ### What a change of one run's service keeps -/

section Kept

variable {s t : State} {r q : Run}

theorem State.finalPeriod_others (s : State) (r : Run) (hq : q ≠ r) : (s.finalPeriod r).cen[q] = s.cen[q] := by
  obtain ⟨k, hk⟩ : ∃ k, k = s.handoverOf r (s.partialLength r) true := ⟨_, rfl⟩
  obtain ⟨base, hbase⟩ : ∃ base : State, base = (s.modCen r fun x => { x with handover := some k }).modRun r
      RunPulse.withoutCounts := ⟨_, rfl⟩
  have hfinalPeriod : s.finalPeriod r = creditStep r (computeStep r base) := by
    rw [hbase, hk]
    rfl
  have hhandover : base.cen[r].handover ≠ none := by
    rw [hbase]
    show (modAt s.cen r _)[r].handover ≠ none
    rw [modAt_same]
    simp
  have hcomputed := computeStep_computed (.inl hhandover)
  obtain ⟨c, hc, hnone⟩ := hcomputed.own
  have hfinished := creditStep_finished hc hnone
  rw [hfinalPeriod, hfinished.others q hq, hcomputed.others q hq, hbase]
  exact modAt_other _ _ _ _ hq.symm

theorem State.takenOut_cen (s : State) (r : Run) : (s.takenOut r).cen = (s.finalPeriod r).cen := by
  simp [State.takenOut, State.setService]

theorem State.serviceOut_others (s : State) (r : Run) (hq : q ≠ r) : (s.serviceOut r).cen[q] = s.cen[q] := by
  have hcen : (s.serviceOut r).cen = (s.takenOut r).cen := by
    rw [State.serviceOut_eq]
    unfold State.leftService
    split
    · rw [(State.failProve_failed _ .runLeftService).frame]
    · rfl
  rw [hcen, State.takenOut_cen, State.finalPeriod_others s r hq]

/-- What a change of the service of one run keeps for the others. -/
structure State.ServiceChanged (s t : State) (r : Run) : Prop where
  phase : t.phase = s.phase
  link : t.link = s.link
  service : ∀ q : Run, q ≠ r → t.ret.service[q] = s.ret.service[q]
  cen : ∀ q : Run, q ≠ r → t.cen[q] = s.cen[q]

theorem State.ServiceChanged.audited (h : s.ServiceChanged t r) (body : AuditBody) :
    s.ServiceChanged (t.appendAudit body) r := ⟨h.phase, h.link, h.service, h.cen⟩

theorem State.serviceIn_changed (s : State) (r : Run) : s.ServiceChanged (s.serviceIn r) r := by
  obtain ⟨w, hw⟩ : ∃ w, w = (s.setService r .inService).modRun r fun x => x.beginCounting s.params.meter[r] s.now :=
    ⟨_, rfl⟩
  have hin : s.serviceIn r = w.clearAlarm (.run r .pulseDegraded) := by
    rw [hw]
    rfl
  have hbegun : s.ServiceChanged w r := by
    rw [hw]
    exact ⟨rfl, rfl, fun q hq => Vector.getElem_set_ne r.isLt q.isLt fun heq => hq (Fin.ext heq.symm), fun _ _ => rfl⟩
  have hmoved : w.AlarmsMoved _ (w.clearAlarm (.run r .pulseDegraded)) := w.alarmsMoved_moveAlarm _ _
  rw [hin, hmoved.frame]
  exact ⟨hbegun.phase, hbegun.link, hbegun.service, hbegun.cen⟩

theorem State.serviceOut_changed (s : State) (r : Run) : s.ServiceChanged (s.serviceOut r) r := by
  have hleft := s.serviceOut_left r
  have hothers {q : Run} (hq : q ≠ r) := s.serviceOut_others r hq
  generalize s.serviceOut r = t at hleft hothers
  refine ⟨?_, ?_, fun q hq => ?_, fun q hq => hothers hq⟩
  · rw [hleft.frame]
  · rw [hleft.frame]
  · rw [hleft.service]
    exact Vector.getElem_set_ne _ _ fun heq => hq (Fin.ext heq.symm)

theorem State.changeService_changed (s : State) (dir : Direction) (r : Run) :
    s.ServiceChanged (s.changeService dir r).1 r := by
  have hself : s.ServiceChanged s r := ⟨rfl, rfl, fun _ _ => rfl, fun _ _ => rfl⟩
  unfold State.changeService
  split
  exacts [(s.serviceIn_changed r).audited _, (s.serviceOut_changed r).audited _, hself, hself]

/-- Runs behind a run, their earlier steps done, stay so when its service changes. -/
theorem State.ServiceChanged.finishNamed (h : s.ServiceChanged t r) {rs : List Run} (hrs : ∀ q ∈ rs, q ≠ r)
    (hdone : ∀ q ∈ rs, s.ret.service[q] = .inService → s.StepsDone q) : t.finishNamed rs = t := by
  refine State.finishNamed_done fun q hq hin => ?_
  rw [h.service q (hrs q hq)] at hin
  unfold State.StepsDone
  rw [h.cen q (hrs q hq)]
  exact hdone q hq hin

end Kept

/-! ### RUN SERVICE of named runs -/

section Named

variable {s : State} {runs : RunSet} {dir : Direction} {r : Run} {rs : List Run}

/-- The list of outcomes of RUN SERVICE (R211). -/
def outcomeFields (statuses : List Status) : List Field := statuses.map fun st => .u8 st.code

theorem listField_outcomes (statuses : List Status) : listField statuses (fun st => [Field.u8 st.code])
    = .u8 (outcomeFields statuses).length :: outcomeFields statuses := by
  unfold listField outcomeFields
  rw [List.length_map, ← List.map_eq_flatMap]

theorem takeRunService_named (hruns : runsOf runs = r :: rs) : takeRunService runs dir s
    = (((s.finishNamed (r :: rs)).changeServices dir (r :: rs)).1,
      ⟨.ok, .u8 (outcomeFields ((s.finishNamed (r :: rs)).changeServices dir (r :: rs)).2).length
        :: outcomeFields ((s.finishNamed (r :: rs)).changeServices dir (r :: rs)).2⟩) := by
  unfold takeRunService
  rw [hruns, if_neg (by simp)]
  dsimp only
  rw [listField_outcomes]
  rfl

/-- RUN SERVICE of named runs whose earlier steps are done. -/
theorem exec_runService_done (hr : s.Ready) (hruns : runsOf runs = r :: rs) (hdone : s.finishNamed (r :: rs) = s) :
    exec (.runService runs dir) s = .next { (s.changeServices dir (r :: rs)).1.settle with
      reply := some ⟨.ok, .u8 (outcomeFields (s.changeServices dir (r :: rs)).2).length
        :: outcomeFields (s.changeServices dir (r :: rs)).2⟩ } := by
  have htake := takeRunService_named (s := s) (dir := dir) hruns
  rw [hdone] at htake
  exact exec_of_request_answer hr rfl htake

/-- RUN SERVICE of one run whose earlier steps are done. -/
theorem exec_runService_single (hr : s.Ready) (hdone : s.finishNamed [r] = s) :
    exec (.runService (noRuns.set r true) dir) s = .next { (s.changeService dir r).1.settle with
      reply := some ⟨.ok, [.u8 1, .u8 (s.changeService dir r).2.code]⟩ } :=
  exec_runService_done hr (runsOf_single r) hdone

theorem State.finishNamed_single (h : s.ret.service[r] = .inService → s.StepsDone r) : s.finishNamed [r] = s :=
  State.finishNamed_done fun _ hq hin => List.mem_singleton.mp hq ▸ h (List.mem_singleton.mp hq ▸ hin)

/-- A run that is already where the request would put it. -/
theorem exec_runService_unchanged (hr : s.Ready) (hdone : s.finishNamed [r] = s)
    (hchange : s.changeService dir r = (s, .notAllowed)) : exec (.runService (noRuns.set r true) dir) s
      = .next { s with reply := some ⟨.ok, [.u8 1, .u8 Status.notAllowed.code]⟩ } := by
  rw [exec_runService_single hr hdone, hchange]
  dsimp only
  rw [State.settle_of_settled s hr.2.2]

theorem exec_runService_none (hr : s.Ready) :
    exec (.runService noRuns dir) s = .next { s with reply := some ⟨.badParam, []⟩ } := by
  refine exec_of_request_refused hr rfl ?_
  unfold takeRunService
  rw [runsOf_noRuns]
  rfl

theorem State.StepsFinished.ready {u : State} (h : s.StepsFinished u r) (hset : u.Settled) (hr : s.Ready) : u.Ready :=
  ⟨h.phase.trans hr.1, by rw [h.link]; exact hr.2.1, hset⟩

/-- A run within the steps of an expiry has them done first, in an event of their own. -/
theorem exec_runService_pending (hr : s.Ready) (hrun : runs[r] = true)
    (hbefore : ∀ q : Run, q < r → runs[q] = true → s.ret.service[q] = .inService → s.StepsDone q)
    (hin : s.ret.service[r] = .inService) (hpending : s.cen[r].handover ≠ none ∨ s.cen[r].computed ≠ none) :
    ∃ t u : State, exec (.periodComputation r) s = .next t ∧ exec (.periodCrediting r) t = .next u ∧ u.Ready
      ∧ s.StepsFinished u r ∧ exec (.runService runs dir) s = exec (.runService runs dir) u := by
  obtain ⟨hcompute, hcredit, hfinished, hset⟩ := finishSteps_commands hr hpending
  obtain ⟨before, behind, hruns, hlow, -, -⟩ := runsOf_split hrun
  have hready := hfinished.ready hset hr
  have hsame : takeRunService runs dir s = takeRunService runs dir (s.finishSteps r) := by
    unfold takeRunService
    rw [hruns, if_neg (by simp), if_neg (by simp),
      State.finishNamed_finished (fun q hq => (hlow q hq).1.ne) (fun q hq => hbefore q (hlow q hq).1 (hlow q hq).2) hin
        hfinished]
  refine ⟨_, _, hcompute, hcredit, hready, hfinished, ?_⟩
  rw [exec_of_request hr rfl, exec_of_request hready rfl, hsame]

/-- A run in service within the steps of an expiry, which RUN SERVICE IN leaves in service. -/
theorem exec_runServiceIn_pending (hr : s.Ready) (hin : s.ret.service[r] = .inService)
    (hpending : s.cen[r].handover ≠ none ∨ s.cen[r].computed ≠ none) :
    ∃ t u : State, exec (.periodComputation r) s = .next t ∧ exec (.periodCrediting r) t = .next u
      ∧ exec (.runService (noRuns.set r true) .into) s
        = .next { u with reply := some ⟨.ok, [.u8 1, .u8 Status.notAllowed.code]⟩ } := by
  have hrun : (noRuns.set r true)[r] = true := Vector.getElem_set_self _
  have hlone (q : Run) (hq : q < r) (hqrun : (noRuns.set r true)[q] = true) : False := by
    have hmem := mem_runsOf.mpr hqrun
    rw [runsOf_single, List.mem_singleton] at hmem
    exact hq.ne hmem
  obtain ⟨t, u, hcompute, hcredit, hready, hfinished, hsame⟩ := exec_runService_pending (dir := .into) hr hrun
    (fun q hq hqrun => (hlone q hq hqrun).elim) hin hpending
  have hinAfter : u.ret.service[r] = .inService := by
    rw [hfinished.service]
    exact hin
  refine ⟨t, u, hcompute, hcredit, hsame.trans (exec_runService_unchanged hready
    (State.finishNamed_single fun _ => hfinished.own) ?_)⟩
  unfold State.changeService
  rw [hinAfter]

end Named

/-! ### RUN SERVICE IN of one run (R3) -/

section Into

variable {s : State} {r : Run}

theorem exec_serviceIn (hr : s.Ready) (hout : s.ret.service[r] = .outOfService) :
    exec (.runService (noRuns.set r true) .into) s
      = .next { ((s.serviceIn r).appendAudit (.runService r .outOfService .inService)).settle with
        reply := some ⟨.ok, [.u8 1, .u8 Status.ok.code]⟩ } := by
  have hchange : s.changeService .into r
      = ((s.serviceIn r).appendAudit (.runService r .outOfService .inService), .ok) := by
    unfold State.changeService
    rw [hout]
  rw [exec_runService_single hr (State.finishNamed_single fun hin => ?_), hchange]
  rw [hout] at hin
  cases hin

theorem initialPulseState_eq (m : PulseMode) :
    initialPulseState m = if m = .dual then .dualOk else .singleMode := by
  cases m <;> rfl

end Into

/-! ### RUN SERVICE of several runs (R2) -/

section Several

variable {s : State}

/-- The retained update at the end of an event that keeps the banks. -/
theorem State.Settled.banks {y : State} (hset : s.Settled)
    (hbanks : y.bankA = s.bankA ∧ y.bankB = s.bankB ∧ y.current = s.current) :
    (y.settle.ret = s.ret → y.settle.bankA = s.bankA ∧ y.settle.bankB = s.bankB ∧ y.settle.current = s.current)
      ∧ (y.settle.ret ≠ s.ret → y.settle.current ≠ s.current
        ∧ y.settle.currentBank = ⟨y.settle.ret, s.currentBank.generation + 1, true⟩) := by
  obtain ⟨ha, hb, hk⟩ := hbanks
  have hbank : y.currentBank = s.currentBank := by
    unfold State.currentBank
    rw [ha, hb, hk]
  have hret : y.settle.ret = y.ret := by rw [y.settle_eq_with]
  rw [hret]
  refine ⟨fun heq => ?_, fun hne => ?_⟩
  · rw [State.settle_of_settled y (by rw [hbank, heq]; exact hset)]
    exact ⟨ha, hb, hk⟩
  · have hchanged : y.ret ≠ y.currentBank.content := by
      rw [hbank]
      exact fun heq => hne (heq.trans hset.symm)
    obtain ⟨hnew, hother, -⟩ := y.retainedUpdate_of_current
    rw [State.settle_of_changed hchanged, ← hbank, ← hk]
    exact ⟨hother, hnew⟩

theorem State.changeServices_cons (s : State) (dir : Direction) (r : Run) (behind : List Run) :
    s.changeServices dir (r :: behind) = (((s.changeService dir r).1.changeServices dir behind).1,
      (s.changeService dir r).2 :: ((s.changeService dir r).1.changeServices dir behind).2) := rfl

end Several

/-- The lowest named run and then the others, as one request and as two. -/
theorem exec_runService_several {s : State} {runs : RunSet} {dir : Direction} {r q₀ : Run} {behind : List Run} (hr : s.Ready)
    (hruns : runsOf runs = r :: q₀ :: behind) (hset : runsOf (runs.set r false) = q₀ :: behind)
    (hbehind : ∀ q ∈ q₀ :: behind, q ≠ r)
    (hdone : ∀ q ∈ r :: q₀ :: behind, s.ret.service[q] = .inService → s.StepsDone q) :
    ∃ (t u v : State) (n : Nat) (outcome : Field) (outcomes : List Field),
      exec (.runService (noRuns.set r true) dir) s = .next u ∧ u.reply = some ⟨.ok, [.u8 1, outcome]⟩
      ∧ exec (.runService (runs.set r false) dir) u = .next v ∧ v.reply = some ⟨.ok, .u8 n :: outcomes⟩
      ∧ outcomes.length = n
      ∧ exec (.runService runs dir) s = .next t ∧ t.Settled
      ∧ t = { v with
          bankA := t.bankA, bankB := t.bankB, current := t.current
          reply := some ⟨.ok, .u8 (n + 1) :: outcome :: outcomes⟩ }
      ∧ (t.ret = s.ret → t.bankA = s.bankA ∧ t.bankB = s.bankB ∧ t.current = s.current)
      ∧ (t.ret ≠ s.ret → t.current ≠ s.current
          ∧ t.currentBank = ⟨t.ret, s.currentBank.generation + 1, true⟩) := by
  have hsingle := exec_runService_single (dir := dir) hr
    (State.finishNamed_single fun hin => hdone r List.mem_cons_self hin)
  have hall := exec_runService_done (dir := dir) hr hruns (State.finishNamed_done hdone)
  have hchanged := s.changeService_changed dir r
  have hbanks := (bankFree_changeServices dir (r :: q₀ :: behind)).keeps s
  rw [State.changeServices_cons] at hall
  rw [State.changeServices_cons] at hbanks
  generalize (s.changeService dir r).1 = x at hsingle hall hchanged hbanks
  generalize (s.changeService dir r).2 = first at hsingle hall
  obtain ⟨u, hu⟩ : ∃ u, u = x.withBanks x.settle.bankA x.settle.bankB x.settle.current
      (some ⟨.ok, [.u8 1, .u8 first.code]⟩) := ⟨_, rfl⟩
  have hux : { x.settle with reply := some ⟨.ok, [.u8 1, .u8 first.code]⟩ } = u := by
    rw [hu, x.settle_eq_with]
    rfl
  rw [hux] at hsingle
  have huset : u.Settled := by
    rw [← hux]
    exact State.settled_settle (s := x)
  have huready : u.Ready := by
    refine ⟨?_, ?_, huset⟩
    · rw [hu]
      exact hchanged.phase.trans hr.1
    · rw [hu]
      show x.link.restartMark = none
      rw [hchanged.link]
      exact hr.2.1
  have huchanged : s.ServiceChanged u r := by
    rw [hu]
    exact ⟨hchanged.phase, hchanged.link, hchanged.service, hchanged.cen⟩
  have hrest := exec_runService_done (dir := dir) huready hset
    (huchanged.finishNamed hbehind fun q hq => hdone q (List.mem_cons_of_mem r hq))
  have hreply : u.reply = some ⟨.ok, [.u8 1, .u8 first.code]⟩ := by rw [hu]; rfl
  rw [hu, State.changeServices_withBanks, ← hu] at hrest
  generalize hy : (x.changeServices dir (q₀ :: behind)).1 = y at hall hrest hbanks
  generalize (x.changeServices dir (q₀ :: behind)).2 = statuses at hall hrest
  refine ⟨_, u, _, _, .u8 first.code, outcomeFields statuses, hsingle, hreply, hrest, rfl, rfl, hall,
    State.settled_settle (s := y), ?_, ?_⟩
  · rw [(State.withBanks y _ _ _ _).settle_eq_with, y.settle_eq_with]
    rfl
  · obtain ⟨ha, hb, hk, -⟩ := hbanks
    exact hr.2.2.banks ⟨ha, hb, hk⟩

/-- Settles O20: the named runs in run order by `runsOf_split`, their pending steps by `exec_runService_pending`, and one
request as two by `exec_runService_several`, as a change of service reads no bank and no reply. -/
theorem runServiceInStartsCounting : Obligations.RunServiceInStartsCounting := by
  refine ⟨fun s r hr hout => ?_, fun s hr => ⟨fun dir => exec_runService_none hr, fun r => ⟨fun hin => ⟨?_, ?_⟩, ?_⟩⟩,
    fun s runs dir r hr hrun hbefore => ⟨fun hin hpending => ?_, fun hlowest hhigher hdone => ?_⟩⟩
  · rw [exec_serviceIn hr hout, ← initialPulseState_eq]
    rfl
  · intro hhandover hcomputed
    refine exec_runService_unchanged hr (State.finishNamed_single fun _ => ⟨hhandover, hcomputed⟩) ?_
    unfold State.changeService
    rw [hin]
  · exact exec_runServiceIn_pending hr hin
  · intro hout
    refine exec_runService_unchanged hr (State.finishNamed_single fun hin => ?_) ?_
    · rw [hout] at hin
      cases hin
    · unfold State.changeService
      rw [hout]
  · obtain ⟨t, u, hcompute, hcredit, -, -, hsame⟩ := exec_runService_pending (dir := dir) hr hrun hbefore hin hpending
    exact ⟨t, u, hcompute, hcredit, hsame⟩
  · obtain ⟨before, behind, hruns, hlow, hhigh, hset⟩ := runsOf_split hrun
    cases before with
    | cons q before =>
      obtain ⟨hq, hqrun⟩ := hlow q List.mem_cons_self
      rw [hlowest q hq] at hqrun
      cases hqrun
    | nil =>
      cases behind with
      | nil =>
        obtain ⟨q, hq, hqrun⟩ := hhigher
        have hmem := mem_runsOf.mpr hqrun
        rw [hruns, List.nil_append, List.mem_singleton] at hmem
        exact absurd hmem hq.ne'
      | cons q₀ behind =>
        refine exec_runService_several hr hruns hset (fun q hq => (hhigh q hq).1.ne') fun q hq => ?_
        exact hdone q (mem_runsOf.mp (hruns ▸ hq))

end Sys2Proof.Machine
end
